-- ==== Sys2Proof/Word.lean ====
section
/-!
DEFINITION. The one word type of the part's interface: the byte that crosses a two-wire port.
Quantities of the part itself are numbers with a range (chapter tables of spec/), so they are `Nat` or `Int`.
-/

namespace Sys2Proof

/-- A byte of a frame, a record or a response (R187). -/
abbrev Byte := BitVec 8

end Sys2Proof
end

