-- ==== Sys2Proof/Syntax.lean ====
section
/-!
DEFINITION. The commands of the part: one constructor of `Instr` for each row of spec/opcode_table.json.
A request carries the port whose STOP takes it and `rest`, the bytes written after the request code (R169): the
argument length and the arguments, or fewer or more of them when the frame is malformed (R170). Log entry 8.
-/

namespace Sys2Proof

/-- The three two-wire ports (00_scope.md, Crews and ports). -/
inductive Port where
  | a | b | c
  deriving DecidableEq, Repr

/-- The levels of the three address pins when the part samples them (R168): true is high. -/
structure AddressPins where
  a : Bool
  b : Bool
  c : Bool
  deriving DecidableEq, Repr

/-- Which of two closing actions is taken first where R120 leaves it open (log entry 9): the trip unit's close of an
open burst, or the tally unit's pause. -/
inductive ClosingOrder where
  | tripFirst | tallyFirst
  deriving DecidableEq, Repr

/-- The commands: the rows of spec/opcode_table.json. -/
inductive Instr where
  /-- READ_TIME (R17), request 0x01. -/
  | readTime (port : Port) (rest : List Byte)
  /-- SET_TIME in mode IMMEDIATE (R13): date and millisecond of day. -/
  | setTimeImmediate (port : Port) (date : BitVec 16) (ms : BitVec 32)
  /-- SET_TIME in mode AT_MARK (R14). -/
  | setTimeAtMark (port : Port) (date : BitVec 16) (ms : BitVec 32)
  /-- SET_TIME in mode WITHDRAW (R16); R12 does not examine the date and the millisecond. -/
  | setTimeWithdraw (port : Port) (date : BitVec 16) (ms : BitVec 32)
  /-- READ_DISCIPLINE (R37), request 0x03. -/
  | readDiscipline (port : Port) (rest : List Byte)
  /-- SET_DISCIPLINE (R36), request 0x04. -/
  | setDiscipline (port : Port) (rest : List Byte)
  /-- SET_POINT (R52), request 0x11. -/
  | setPoint (port : Port) (rest : List Byte)
  /-- SET_POINTS (R53), request 0x12. -/
  | setPoints (port : Port) (rest : List Byte)
  /-- READ_POINTS (R57), request 0x10. -/
  | readPoints (port : Port) (rest : List Byte)
  /-- SET_BURST (R67), request 0x1A. -/
  | setBurst (port : Port) (rest : List Byte)
  /-- RESET_FIRST_OUT (R73), request 0x1B. -/
  | resetFirstOut (port : Port) (rest : List Byte)
  /-- ACK_TRIPS (R75), request 0x1C. -/
  | ackTrips (port : Port) (rest : List Byte)
  /-- READ_FIRST_OUT (R79), request 0x18. -/
  | readFirstOut (port : Port) (rest : List Byte)
  /-- READ_ANNUNCIATION (R80), request 0x19. -/
  | readAnnunciation (port : Port) (rest : List Byte)
  /-- SET_QUEUE_MODE (R92), request 0x22. -/
  | setQueueMode (port : Port) (rest : List Byte)
  /-- READ_EVENTS (R93), request 0x20. -/
  | readEvents (port : Port) (rest : List Byte)
  /-- SUBSCRIBE (R98), request 0x21. -/
  | subscribe (port : Port) (rest : List Byte)
  /-- SET_TALLY (R104), request 0x29. -/
  | setTally (port : Port) (rest : List Byte)
  /-- SET_DUE (R114), request 0x2A. -/
  | setDue (port : Port) (rest : List Byte)
  /-- PRESET_TALLY (R115), request 0x2B. -/
  | presetTally (port : Port) (rest : List Byte)
  /-- READ_TALLY (R117), request 0x28. -/
  | readTally (port : Port) (rest : List Byte)
  /-- SET_ROTA (R125), request 0x31. -/
  | setRota (port : Port) (rest : List Byte)
  /-- ACCEPT_DUTY (R132), request 0x32. -/
  | acceptDuty (port : Port) (rest : List Byte)
  /-- OPEN_HANDOVER (R134), request 0x33. -/
  | openHandover (port : Port) (rest : List Byte)
  /-- RELEASE_DUTY (R135), request 0x34. -/
  | releaseDuty (port : Port) (rest : List Byte)
  /-- RECLAIM_DUTY (R136), request 0x35. -/
  | reclaimDuty (port : Port) (rest : List Byte)
  /-- SET_HANDOVER (R144), request 0x36. -/
  | setHandover (port : Port) (rest : List Byte)
  /-- READ_DUTY (R145), request 0x30. -/
  | readDuty (port : Port) (rest : List Byte)
  /-- READ_SHIFT_BOOK (R152), request 0x38. -/
  | readShiftBook (port : Port) (rest : List Byte)
  /-- SET_ALARM (R160), request 0x43. -/
  | setAlarm (port : Port) (rest : List Byte)
  /-- SET_NOTICES (R161), request 0x41. -/
  | setNotices (port : Port) (rest : List Byte)
  /-- CLEAR_NOTICES (R162), request 0x42. -/
  | clearNotices (port : Port) (rest : List Byte)
  /-- READ_NOTICES (R163), request 0x40. -/
  | readNotices (port : Port) (rest : List Byte)
  /-- SET_RIGHTS (R174), request 0x49. -/
  | setRights (port : Port) (rest : List Byte)
  /-- READ_PORT (R176), request 0x48. -/
  | readPort (port : Port) (rest : List Byte)
  /-- RESTART (R177), request 0x4F: also the address pins as sampled at the restart (R168) and the order of R120. -/
  | restart (port : Port) (rest : List Byte) (pins : AddressPins) (order : ClosingOrder)
  /-- A request frame whose code names no request (R170). -/
  | unknown (port : Port) (code : Byte) (rest : List Byte)
  /-- A write ended by a repeated START (R169): all the bytes written. -/
  | repeatedStartDiscard (port : Port) (bytes : List Byte)
  /-- MARK: a rising edge on the MARK line (R22). -/
  | mark
  /-- The missing-mark timeout expires (R23). -/
  | missingMarkTimeout
  /-- The holdover limit is reached (R35). -/
  | holdoverLimitExpiry
  /-- An oscillator tick at which the tick accumulator overflows (R2, R3). -/
  | millisecondBoundary
  /-- The electrical level of line IN`point` as now sampled (R41): true is high. -/
  | pointEdge (point : Fin 32) (high : Bool)
  /-- The debounce of a point expires (R44). -/
  | debounceExpiry (point : Fin 32)
  /-- The chatter window of a COUNTING point expires (R49). -/
  | chatterWindowExpiry (point : Fin 32)
  /-- The stability wait of a SUPPRESSED point expires (R48). -/
  | stabilityWaitExpiry (point : Fin 32)
  /-- The quiet wait of the open burst expires (R63). -/
  | quietWaitExpiry
  /-- The 10 s limit of the open burst expires (R64). -/
  | burstLimitExpiry
  /-- The qualify count of a tally has reached its qualify time (R107). -/
  | qualificationComplete (tally : Fin 12)
  /-- A slot falls due (R128). -/
  | slotDue
  /-- The release deadline passes in DUE (R137). -/
  | releaseDeadlineExpiry
  /-- The accept deadline passes in RELEASED (R138, R139). -/
  | acceptDeadlineExpiry
  /-- The clock reaches a port's alarm instant (R159). -/
  | alarmReached (port : Port)
  /-- A pulse gap of a port's line ends (R165). -/
  | pulseGapEnd (port : Port)
  /-- VMAIN falls below 2.9 V in RUN (R181); `vbakLow` says that VBAK is below 1.8 V at that tick (R182). -/
  | mainLossWarning (order : ClosingOrder) (vbakLow : Bool)
  /-- VBAK falls below 1.8 V in BACKUP (R182). -/
  | retentionLost
  /-- VMAIN rises above 3.0 V in BACKUP (R180). -/
  | returnQualificationStart
  /-- VMAIN falls to 3.0 V or below during the return qualification (R180). -/
  | returnQualificationStop
  /-- The return qualification expires (R183, or R184 when retention is lost): the address pins and the RESET line as
  sampled then (R168, R185). -/
  | returnOfSupply (pins : AddressPins) (resetHigh : Bool)
  /-- RESET has been low for 100 µs with recognition armed (R185). -/
  | resetAssertion (pins : AddressPins) (order : ClosingOrder)
  /-- RESET is high at a sample (R185). -/
  | resetRearm
  /-- An oscillator tick that produces no millisecond boundary (R2). -/
  | oscillatorTick
  /-- A SET_TIME frame whose mode names none of the three modes (R12). -/
  | setTime (port : Port) (rest : List Byte)
  deriving DecidableEq, Repr

end Sys2Proof
end

