-- ==== Sys2Proof/Decode.lean ====
section
/-!
DEFINITION. Commands from words. No row of spec/opcode_table.json carries bits (the reader's counts in spec/98_reader.md:
no row with "fixed", none with "fields"), so no word spells a command.
-/

namespace Sys2Proof

/-- The command that a word of `nbits` bits spells by the table's bits: none, since the table gives no row any bits. -/
def decodeTableWord (_nbits _w : Nat) : Option Instr := none

end Sys2Proof
end

