-- ==== Sys2Proof/Config.lean ====
section
/-!
DEFINITION. The free values: what the spec leaves without a value. None of them has a body, so nothing can be
proved of them and every claim holds for every value of them.
-/

namespace Sys2Proof

/-- DESIGN CHOICE (log entry 12), safe. The 4-byte offset of a first-out entry (R71, R79, R189) whose true offset in µs does
not fit a signed field of 4 bytes. The spec states no value for it. The argument is the true offset. -/
opaque Config.unstatedOffset : Int → BitVec 32

/-- DESIGN CHOICE (log entry 13), safe. A byte of a payload field that R190 lays out but that describes something absent: the
refusal record of READ_PORT, the staged preset of READ_TALLY. The arguments are the count of such readings so far
(`State.freeIndex`) and the place of the byte in the field. -/
opaque Config.absentByte : Nat → Nat → Byte

end Sys2Proof
end

