-- ==== Sys2Proof/Machine/State.lean ====
section
/-!
DEFINITION. The state of the part, as plain data: one structure per block of the block diagram (00_scope.md), in the order
of the chapters, and the queue of commands that wait. Each block's cold values stand beside it; `State.reset` is the part
right after the cold start of R184. INVENTORY.md lists every field with its rule.
-/

namespace Sys2Proof.Machine

/-- The part names no condition that stops it: every request is answered or refused with a code (R171), every event is taken
or finds nothing to do. No command faults. -/
inductive Fault where
  deriving DecidableEq, Repr

/-- Why a command has no meaning here. -/
inductive Refusal where
  /-- Raised by an arm of `exec` whose command is not modelled. Safe: the machine stops. No arm raises it. -/
  | notModelled (mnemonic : String)
  deriving DecidableEq, Repr

/-! ### Ports -/

/-- One value for each port. -/
structure PerPort (α : Type) where
  a : α
  b : α
  c : α
  deriving DecidableEq, Repr

/-- The value at a port. -/
def PerPort.get {α : Type} (v : PerPort α) : Port → α
  | .a => v.a
  | .b => v.b
  | .c => v.c

/-- The same values but for one port. -/
def PerPort.set {α : Type} (v : PerPort α) (p : Port) (x : α) : PerPort α :=
  match p with
  | .a => { v with a := x }
  | .b => { v with b := x }
  | .c => { v with c := x }

/-- One value at all three ports. -/
def PerPort.const {α : Type} (x : α) : PerPort α := ⟨x, x, x⟩

/-! ### Time base (01_station_time_base.md) -/

/-- An instant of station time (00_scope.md, Instants): date 0 to 65,535, millisecond of day 0 to 86,399,999, microsecond
within the millisecond 0 to 999. -/
structure Instant where
  date : Nat
  ms : Nat
  us : Nat
  deriving DecidableEq, Repr

/-- The cold start instant (R18). -/
def Instant.zero : Instant := ⟨0, 0, 0⟩

/-- The quality of the station time (R9). -/
inductive Quality where
  | unset | free | acquiring | locked | holdover
  deriving DecidableEq, Repr

/-- A staged time set (R14): date, whole-second millisecond of day, staging port. -/
structure StagedSet where
  date : Nat
  ms : Nat
  port : Port
  deriving DecidableEq, Repr

/-- The time base. The applied trim is F + S (R4) and is not stored. -/
structure TimeBase where
  date : Nat
  ms : Nat
  /-- The tick accumulator Q, in billionths of a nominal tick (R2). -/
  q : Nat
  quality : Quality
  staged : Option StagedSet
  deriving DecidableEq, Repr

/-- Cold values of the time base (R18). -/
def TimeBase.cold : TimeBase := ⟨0, 0, 0, .unset, none⟩

/-! ### Discipline unit (02_reference_marks_and_discipline.md) -/

/-- The five discipline settings (R36). -/
structure DisciplineSettings where
  stepEnable : Bool
  /-- ms, 1 to 500 -/
  stepLimit : Nat
  /-- µs, 10 to 1,000 -/
  lockWindow : Nat
  /-- L, 1 to 64 -/
  loopDivisor : Nat
  /-- s, 60 to 86,400 -/
  holdoverLimit : Nat
  deriving DecidableEq, Repr

/-- The discipline unit (R20). -/
structure Discipline where
  lastMark : Option Instant
  /-- The elapsed reading at the last accepted mark: the start of the acceptance interval and of the holdover limit (R22,
  R35). -/
  lastMarkAt : Option Nat
  /-- The expiry of the missing-mark timeout while it runs (R23). -/
  missingMark : Option Nat
  /-- E, in µs (R26). -/
  lastOffset : Int
  /-- F, in ppb (R30). -/
  freqTrim : Int
  /-- S, in ppb (R29). -/
  slewTrim : Int
  lockCounter : Nat
  unlockCounter : Nat
  stepPending : Bool
  rejectedMarks : Nat
  settings : DisciplineSettings
  deriving DecidableEq, Repr

/-- Cold values of the discipline unit (R20). -/
def Discipline.cold : Discipline :=
  { lastMark := none, lastMarkAt := none, missingMark := none, lastOffset := 0, freqTrim := 0, slewTrim := 0,
    lockCounter := 0, unlockCounter := 0, stepPending := false, rejectedMarks := 0,
    settings := ⟨true, 20, 100, 8, 3600⟩ }

/-! ### Point unit (03_input_points.md) -/

/-- The mode of a point (R42). -/
inductive PointMode where
  | off | status | record | trip
  deriving DecidableEq, Repr

/-- The polarity of a point (R41). -/
inductive Polarity where
  | activeHigh | activeLow
  deriving DecidableEq, Repr

/-- One entry of the point table (R42): debounce in ms, chatter window in s. -/
structure PointEntry where
  mode : PointMode
  polarity : Polarity
  debounce : Nat
  chatterLimit : Nat
  chatterWindow : Nat
  deriving DecidableEq, Repr

/-- A debounce in progress (R43): the instant of its starting edge, its expiry, and whether it began at a restore (R59). -/
structure Debounce where
  start : Instant
  expiry : Nat
  atRestore : Bool
  deriving DecidableEq, Repr

/-- The chatter state of a point (R46 to R49). -/
inductive Chatter where
  | clear
  | counting (count : Nat) (windowExpiry : Nat)
  | suppressed (edges : Nat) (stabilityExpiry : Nat)
  deriving DecidableEq, Repr

/-- A point: its entry and its running state. `active` is its entry in the debounced state vector (R50). -/
structure Point where
  entry : PointEntry
  active : Bool
  debouncing : Option Debounce
  chatter : Chatter
  deriving DecidableEq, Repr

/-- Cold values of a point (R42, R60). -/
def Point.cold : Point := ⟨⟨.off, .activeHigh, 10, 0, 10⟩, false, none, .clear⟩

/-! ### Trip unit (04_trip_bursts_first_out_and_annunciation.md) -/

/-- The first-out latch (R68). -/
inductive Latch where
  | armed | provisional | final
  deriving DecidableEq, Repr

/-- An annunciation entry (R74). -/
inductive Annunciation where
  | normal | activeUnack | activeAck | returnedUnack
  deriving DecidableEq, Repr

/-- An entry of the ranked list (R68): point, change instant and order of entry. -/
structure Ranked where
  point : Nat
  instant : Instant
  order : Nat
  deriving DecidableEq, Repr

/-- An open burst (R61): its number, and the expiries of its quiet wait and its 10 s limit. -/
structure Burst where
  number : Nat
  quietExpiry : Nat
  limitExpiry : Nat
  deriving DecidableEq, Repr

/-- The trip unit. The first-out instant is the change instant of the entry in place 1 of the ranked list (R68). -/
structure TripUnit where
  burst : Option Burst
  lastBurst : Nat
  /-- ms, 50 to 5,000 (R67) -/
  quietTime : Nat
  latch : Latch
  latchingBurst : Nat
  ranked : List Ranked
  overflow : Nat
  annunciation : Vector Annunciation 32
  tripCount : Nat
  pointCount : Nat
  deriving DecidableEq, Repr

/-- Cold values of the trip unit (R83). -/
def TripUnit.cold : TripUnit :=
  { burst := none, lastBurst := 0, quietTime := 500, latch := .armed, latchingBurst := 0, ranked := [], overflow := 0,
    annunciation := Vector.replicate 32 .normal, tripCount := 0, pointCount := 0 }

/-! ### Event queue (05_the_event_queue.md) -/

/-- The cause of a POINT record (R51). -/
inductive ChangeCause where
  | change | afterChatter | afterRestart
  deriving DecidableEq, Repr

/-- The phase of a CHATTER record (R47, R48). -/
inductive ChatterPhase where
  | suppressed | released
  deriving DecidableEq, Repr

/-- The mode in a TIME_SET record (R86). -/
inductive TimeSetMode where
  | immediate | atMark
  deriving DecidableEq, Repr

/-- The phase of a HANDOVER record (R131). -/
inductive HandoverPhase where
  | due | skipped | opened | released | reclaimed | taken | accepted | overdue | reoffered | lapsedRevert | lapsedStanding
  deriving DecidableEq, Repr

/-- The cause of a POWER record (R186). -/
inductive PowerCause where
  | outage | resetLine | restartRequest | cold
  deriving DecidableEq, Repr

/-- The body of a record: one constructor per kind of R86. -/
inductive RecordBody where
  | point (point : Nat) (active : Bool) (cause : ChangeCause)
  | chatter (point : Nat) (phase : ChatterPhase) (count : Nat)
  | firstOut (first : Instant) (overflow : Nat) (entries : List (Nat × BitVec 32))
  | timeStep (offset : Int)
  | timeSet (old : Instant) (port : Port) (mode : TimeSetMode)
  | quality (old new : Quality)
  | tallyRun (tally : Nat)
  | tallyStop (tally : Nat) (runLength : Nat)
  | tallyDue (tally : Nat) (lifetime : Nat)
  | tallyPreset (tally crew oldLifetime newLifetime oldStarts newStarts : Nat)
  | ack (crew : Nat) (port : Port) (points : List Nat)
  | firstOutReset (crew : Nat)
  | handover (phase : HandoverPhase) (outgoing incoming : Nat) (slot : Option Nat) (reoffers skipped : Nat)
  | rota (slots : Nat)
  | power (cause : PowerCause) (start : Option Instant) (qualityAtStart qualityAtEnd : Quality)
  deriving DecidableEq, Repr

/-- A record (R84): its header, but for the length and the kind, which its body gives, and its body. -/
structure Record where
  seq : Nat
  instant : Instant
  quality : Quality
  burst : Nat
  outage : Bool
  withheld : Bool
  body : RecordBody
  deriving DecidableEq, Repr

/-- A held record with its reader set: for each port in the set, its lead gap (R87, R89). -/
structure Held where
  record : Record
  readers : PerPort (Option Nat)
  deriving DecidableEq, Repr

/-- The overflow mode (R92). -/
inductive OverflowMode where
  | keepOldest | keepNewest
  deriving DecidableEq, Repr

/-- The event queue: held records oldest first, the sequence counter, the tail gaps, the subscription set, the mode. -/
structure EventQueue where
  held : List Held
  seq : Nat
  tailGap : PerPort Nat
  subscribed : PerPort Bool
  mode : OverflowMode
  deriving DecidableEq, Repr

/-- Cold values of the event queue (R101). -/
def EventQueue.cold : EventQueue := ⟨[], 0, .const 0, .const true, .keepOldest⟩

/-! ### Tally unit (06_run_hour_tallies.md) -/

/-- The run state of a tally (R103). RUNNING is paused exactly while the tally unit is (`TallyUnit.paused`). -/
inductive RunState where
  | idle | qualifying | running
  deriving DecidableEq, Repr

/-- A staged preset (R115). -/
structure StagedPreset where
  lifetime : Nat
  starts : Nat
  crew : Nat
  deriving DecidableEq, Repr

/-- The configuration of a tally (R104): qualify time in s. -/
structure TallyConfig where
  inUse : Bool
  pattern : BitVec 36
  care : BitVec 36
  qualifyTime : Nat
  recordTransitions : Bool
  dueEnable : Bool
  deriving DecidableEq, Repr

/-- A tally entry: counts in ms and starts. -/
structure Tally where
  config : TallyConfig
  dueValue : Nat
  run : RunState
  qualifyCount : Nat
  runLength : Nat
  lifetime : Nat
  starts : Nat
  shiftPortion : Nat
  shiftStarts : Nat
  duePending : Bool
  presetFlag : Bool
  saturatedFlag : Bool
  staged : Option StagedPreset
  deriving DecidableEq, Repr

/-- Cold values of a tally (R122). -/
def Tally.cold : Tally :=
  { config := ⟨false, 0, 0, 0, false, false⟩, dueValue := 3599999999999, run := .idle, qualifyCount := 0, runLength := 0,
    lifetime := 0, starts := 0, shiftPortion := 0, shiftStarts := 0, duePending := false, presetFlag := false,
    saturatedFlag := false, staged := none }

/-- The tally unit: its entries, its 36 inputs as last handed to it (R102), and whether it is paused (R120). -/
structure TallyUnit where
  entries : Vector Tally 12
  inputs : BitVec 36
  paused : Bool
  deriving DecidableEq, Repr

/-- Cold values of the tally unit (R122). -/
def TallyUnit.cold : TallyUnit := ⟨Vector.replicate 12 Tally.cold, 0, false⟩

/-! ### Duty unit (07_rota_and_duty_handover.md) -/

/-- The duty state (R123). -/
inductive DutyState where
  | vacant | onDuty | due | released
  deriving DecidableEq, Repr

/-- A slot of a rota (R124): start minute of day, expected crew. -/
structure Slot where
  minute : Nat
  crew : Nat
  deriving DecidableEq, Repr

/-- The lapse action (R139). -/
inductive LapseAction where
  | revert | standing
  deriving DecidableEq, Repr

/-- The handover settings (R144): windows in minutes. -/
structure HandoverSettings where
  releaseWindow : Nat
  acceptWindow : Nat
  reofferLimit : Nat
  lapse : LapseAction
  standingCrew : Nat
  deriving DecidableEq, Repr

/-- The handover fields (chapter table): they describe a handover in progress. -/
structure HandoverFields where
  slot : Option Nat
  expected : Nat
  releaseDeadline : Option Instant
  acceptDeadline : Option Instant
  overdue : Bool
  reoffers : Nat
  deriving DecidableEq, Repr

/-- The handover fields as they stand in VACANT and ON_DUTY. -/
def HandoverFields.clear : HandoverFields := ⟨none, 0, none, none, false, 0⟩

/-- An acceptance: the elapsed reading of its tick, and the duty port and the duty crew that it relieved (R133, R140). -/
structure Relief where
  elapsed : Nat
  port : Option Port
  crew : Nat
  deriving DecidableEq, Repr

/-- The duty unit. -/
structure DutyUnit where
  state : DutyState
  crew : Nat
  port : Option Port
  handover : HandoverFields
  rota : List Slot
  pendingRota : Option (List Slot)
  lastServed : Option Instant
  settings : HandoverSettings
  /-- The crew that the last acceptance relieved (R133, R140; log entry 34). -/
  relieved : Option Relief
  deriving DecidableEq, Repr

/-- Cold values of the duty unit (R123). -/
def DutyUnit.cold : DutyUnit :=
  { state := .vacant, crew := 0, port := none, handover := .clear, rota := [], pendingRota := none, lastServed := none,
    settings := ⟨60, 5, 2, .revert, 0⟩, relieved := none }

/-! ### Shift book (08_the_shift_book.md) -/

/-- A tally block of a shift book record (R148). -/
structure BookTally where
  shiftPortion : Nat
  shiftStarts : Nat
  lifetime : Nat
  presetFlag : Bool
  saturatedFlag : Bool
  deriving DecidableEq, Repr

/-- A shift book record (R148). -/
structure BookRecord where
  number : Nat
  shiftStart : Instant
  shiftEnd : Instant
  outgoing : Nat
  incoming : Nat
  slot : Option Nat
  reoffers : Nat
  overdue : Bool
  trips : Nat
  points : Nat
  latch : Latch
  standing : List (Nat × Annunciation)
  tallies : List BookTally
  deriving DecidableEq, Repr

/-- The shift book: records newest first, the next handover number, the current shift start. -/
structure ShiftBook where
  records : List BookRecord
  nextNumber : Nat
  shiftStart : Instant
  deriving DecidableEq, Repr

/-- Cold values of the shift book (R147). -/
def ShiftBook.cold : ShiftBook := ⟨[], 1, .zero⟩

/-! ### Port units (09_notices_and_attention_lines.md, 10_ports_rights_and_requests.md) -/

/-- The refusal codes (00_scope.md). -/
inductive RefusalCode where
  | frame | unknown | denied | notDuty | badIndex | range | state | frozen | busy | crew
  deriving DecidableEq, Repr

/-- The response buffer (R171). -/
inductive Response where
  | none
  | ok (payload : List Byte)
  | refused (code : RefusalCode) (request : Byte) (detail : Nat)
  deriving DecidableEq, Repr

/-- The refusal record of a port (R175). -/
structure RefusalRecord where
  request : Byte
  code : RefusalCode
  detail : Nat
  instant : Instant
  deriving DecidableEq, Repr

/-- The rights of a port (R173). -/
structure Rights where
  time : Bool
  config : Bool
  events : Bool
  duty : Bool
  deriving DecidableEq, Repr

/-- A set of notices (R187): bit 0 FIRST_OUT, 1 GAP, 2 QUALITY, 3 HANDOVER, 4 TALLY_DUE, 5 ALARM, 6 EVENTS. -/
abbrev NoticeSet := BitVec 7

/-- The attention style (R156). -/
inductive Style where
  | level | pulse
  deriving DecidableEq, Repr

/-- The attention line (R164, R165): during a pulse gap the line is inactive, and the gap holds its expiry. -/
inductive Line where
  | inactive | active
  | gap (expiry : Nat)
  deriving DecidableEq, Repr

/-- A port unit. -/
structure PortUnit where
  address : BitVec 7
  /-- The frame state: the bytes of a write in progress, none when idle (R169). -/
  frame : Option (List Byte)
  response : Response
  rights : Rights
  readMask : BitVec 12
  refusal : Option RefusalRecord
  pending : NoticeSet
  enabled : NoticeSet
  style : Style
  alarm : Option Instant
  line : Line
  deriving DecidableEq, Repr

/-- Cold values of a port unit with these rights and this address (R161, R173, R179). -/
def PortUnit.cold (rights : Rights) (address : BitVec 7) : PortUnit :=
  { address := address, frame := none, response := .none, rights := rights, readMask := 0xFFF, refusal := none,
    pending := 0, enabled := 0x7F, style := .level, alarm := none, line := .inactive }

/-- The address a pin selects (R168). -/
def addressOfPin (high : Bool) : BitVec 7 := if high then 0x53 else 0x52

/-- Cold values of the three port units (R173, R179). -/
def coldPorts (pins : AddressPins) : PerPort PortUnit :=
  ⟨.cold ⟨true, true, true, true⟩ (addressOfPin pins.a), .cold ⟨false, false, true, false⟩ (addressOfPin pins.b),
    .cold ⟨true, false, true, true⟩ (addressOfPin pins.c)⟩

/-! ### Supply monitor (11_supplies_outages_and_restarts.md) -/

/-- The supply state (R180). -/
inductive SupplyState where
  | run | backup
  deriving DecidableEq, Repr

/-- The supply monitor. -/
structure SupplyMonitor where
  state : SupplyState
  /-- The expiry of the return qualification while it runs (R180). -/
  qualification : Option Nat
  retentionValid : Bool
  outageStart : Option Instant
  qualityAtStart : Quality
  /-- RESET recognition is armed (R185). -/
  resetArmed : Bool
  /-- The address pins as last sampled (R168). -/
  addressPins : AddressPins
  /-- The RESET line as last seen (R185). -/
  resetHigh : Bool
  /-- The elapsed reading of the last sample that found RESET high: a low level begins after it (R185; log entry 22). -/
  resetHighAt : Nat
  /-- The elapsed reading of the last warm restart: an edge on MARK at its tick is not taken after it (R21). -/
  restartAt : Option Nat
  deriving DecidableEq, Repr

/-- Values of the supply monitor after a cold start (chapter table): RESET recognition is armed if the line is high. -/
def SupplyMonitor.cold (pins : AddressPins) (resetHigh : Bool) : SupplyMonitor :=
  { state := .run, qualification := none, retentionValid := true, outageStart := none, qualityAtStart := .unset,
    resetArmed := resetHigh, addressPins := pins, resetHigh := resetHigh, resetHighAt := 0, restartAt := none }

/-! ### The part -/

/-- The state of the part and the commands that wait for it. -/
structure State where
  time : TimeBase
  /-- Elapsed time in units of Q, since the cold start (R5; log entry 4). -/
  elapsed : Nat
  /-- The elapsed reading of the last millisecond boundary (R3; log entry 5). -/
  boundaryAt : Option Nat
  /-- The last millisecond boundary has not yet been handed to the blocks: other events of its tick can go before it (R140,
  R141; log entry 5). -/
  boundaryWaits : Bool
  discipline : Discipline
  points : Vector Point 32
  /-- The electrical levels of IN0 to IN31 (R41). -/
  lines : BitVec 32
  trip : TripUnit
  queue : EventQueue
  tally : TallyUnit
  duty : DutyUnit
  book : ShiftBook
  ports : PerPort PortUnit
  supply : SupplyMonitor
  /-- How many free values have been read (log entry 13). -/
  freeIndex : Nat
  /-- The commands that wait, first in, first out. -/
  pending : List Instr
  deriving DecidableEq, Repr

/-- Every block at its cold values (R184), before the POWER record of the cold start. The levels of the input lines and the
pins are the outside world's; the commands that wait are not the part's. -/
def State.cold (lines : BitVec 32) (pins : AddressPins) (resetHigh : Bool) (freeIndex : Nat) (pending : List Instr) :
    State :=
  { time := .cold, elapsed := 0, boundaryAt := none, boundaryWaits := false, discipline := .cold,
    points := Vector.replicate 32 .cold, lines := lines, trip := .cold, queue := .cold, tally := .cold, duty := .cold, book := .cold, ports := coldPorts pins,
    supply := .cold pins resetHigh, freeIndex := freeIndex, pending := pending }

/-- The POWER record of a cold start (R184, R186). -/
def Record.powerCold : Record :=
  { seq := 0, instant := .zero, quality := .unset, burst := 0, outage := false, withheld := false,
    body := .power .cold none .unset .unset }

/-- A port unit at which the level notice EVENTS has become pending and enabled (R100, R164). -/
def PortUnit.withEvents (u : PortUnit) : PortUnit := { u with pending := 0x40, line := .active }

/-- The part right after the cold start of its first power-up (R184, R101): cold values, and the POWER record with cause COLD
held for ports A, B and C. All lines and address pins low, RESET high: DESIGN CHOICE (log entry 3). Log entry 1. -/
def State.reset : State :=
  let s := State.cold 0 ⟨false, false, false⟩ true 0 []
  { s with
    queue := { s.queue with held := [⟨.powerCold, .const (some 0)⟩], seq := 1 },
    ports := ⟨s.ports.a.withEvents, s.ports.b.withEvents, s.ports.c.withEvents⟩ }

end Sys2Proof.Machine
end

