-- ==== Sys2Proof/Machine/Instants.lean ====
section
/-!
DEFINITION. Units and instants: the millisecond modulus and durations (R1, R2, R5), station time across dates (00_scope.md),
and the circle of 65,536 days on which the duty unit and the alarm order instants (R124, R159).
-/

namespace Sys2Proof.Machine

/-- One nominal millisecond in units of Q: the millisecond modulus. -/
def millisecondUnits : Nat := 4096000000000

/-- One nominal microsecond in units of Q (R1). -/
def microsecondUnits : Nat := 4096000000

/-- One nominal tick in units of Q (R2). -/
def tickUnits : Nat := 1000000000

/-- Milliseconds of a day (00_scope.md). -/
def dayMs : Nat := 86400000

/-- Dates: the date that follows 65,535 is 0. -/
def dateCount : Nat := 65536

/-- Microseconds of the circle of 65,536 days. -/
def circleUs : Nat := dateCount * dayMs * 1000

/-- Half the circle: 32,768 days. -/
def halfCircleUs : Nat := 32768 * dayMs * 1000

/-- Elapsed time of `d` milliseconds, in units of Q (R5). -/
def msDuration (d : Nat) : Nat := d * millisecondUnits

/-- Elapsed time of `d` microseconds, in units of Q (R5). -/
def usDuration (d : Nat) : Nat := d * microsecondUnits

/-- Microseconds from the station epoch to an instant. -/
def Instant.toUs (i : Instant) : Nat := (i.date * dayMs + i.ms) * 1000 + i.us

/-- The instant so many microseconds after the station epoch, across the roll from date 65,535 to date 0. -/
def Instant.ofUs (n : Nat) : Instant :=
  let m := n % circleUs
  ⟨m / (dayMs * 1000), m / 1000 % dayMs, m % 1000⟩

/-- An instant moved by an amount in µs, forward or backward, across dates (R45, R8). -/
def Instant.addUs (i : Instant) (d : Int) : Instant :=
  Instant.ofUs (((i.toUs : Int) + d) % (circleUs : Int)).toNat

/-- An instant moved forward by so many milliseconds. -/
def Instant.addMs (i : Instant) (d : Nat) : Instant := i.addUs ((d * 1000 : Nat) : Int)

/-- The instant with its microsecond part dropped (R134, R135, R138). -/
def Instant.dropUs (i : Instant) : Instant := { i with us := 0 }

/-- The amount from `old` to `new` in µs, taken across dates (R6, R71). -/
def Instant.minus (new old : Instant) : Int := (new.toUs : Int) - (old.toUs : Int)

/-- Not later, in the order of 00_scope.md: by date, then millisecond of day, then microsecond. The trip unit ranks by it
(R69; log entry 12). -/
def Instant.le (a b : Instant) : Bool :=
  decide (a.date < b.date) ||
    (a.date == b.date && (decide (a.ms < b.ms) || (a.ms == b.ms && decide (a.us ≤ b.us))))

/-- The distance from `b` forward to `a` on the circle of 65,536 days (R124). -/
def Instant.circleFrom (a b : Instant) : Nat :=
  ((a.toUs : Int) - (b.toUs : Int)).emod (circleUs : Int) |>.toNat

/-- `a` is later than `b` on the circle (R124): at exactly 32,768 days each is later than the other. -/
def Instant.laterThan (a b : Instant) : Bool :=
  decide (0 < a.circleFrom b) && decide (a.circleFrom b ≤ halfCircleUs)

/-- `a` is at or after `b` on the circle (R124). -/
def Instant.atOrAfter (a b : Instant) : Bool := decide (a.circleFrom b ≤ halfCircleUs)

/-- A number held within limits: how a setting is clamped (00_scope.md, Settings and identities). -/
def clamp (lo hi n : Nat) : Nat := max lo (min hi n)

/-- A whole number held within limits, for the trims (R29, R30). -/
def clampInt (lo hi n : Int) : Int := max lo (min hi n)

/-- One more, saturating: the count stops at its maximum and stays there (00_scope.md, Units and signs). -/
def bumpTo (limit n : Nat) : Nat := if n < limit then n + 1 else limit

/-- A bit set to a value. -/
def putBit {w : Nat} (b : BitVec w) (k : Nat) (v : Bool) : BitVec w :=
  if v then b ||| BitVec.twoPow w k else b &&& ~~~(BitVec.twoPow w k)

end Sys2Proof.Machine
end

