-- ==== Sys2Proof/Machine/Flags.lean ====
section
/-!
DEFINITION. The flags of a port: its seven notices (R156 to R158) and the attention line that shows them (R164 to R166).
-/

namespace Sys2Proof.Machine

/-- The seven notices (09_notices_and_attention_lines.md), in priority order. -/
inductive Notice where
  | firstOut | gap | quality | handover | tallyDue | alarm | events
  deriving DecidableEq, Repr

/-- The bit of a notice in a notice set (R187); the priority order is the bit order (R163). -/
def Notice.bit : Notice → Nat
  | .firstOut => 0
  | .gap => 1
  | .quality => 2
  | .handover => 3
  | .tallyDue => 4
  | .alarm => 5
  | .events => 6

/-- The latched notices: FIRST_OUT, GAP, QUALITY, HANDOVER (R157). -/
def latchedNotices : NoticeSet := 0x0F

/-- The notice is in the set. -/
def NoticeSet.has (set : NoticeSet) (n : Notice) : Bool := set.getLsbD n.bit

/-- The pending-and-enabled notices (R156). -/
def PortUnit.wanted (u : PortUnit) : NoticeSet := u.pending &&& u.enabled

/-- The line that shows whether any notice is pending-and-enabled, with no gap (R164, R167). -/
def plainLine (wanted : NoticeSet) : Line := if wanted = 0 then .inactive else .active

/-- How long a pulse gap lasts, in elapsed time: 50 µs (R165). -/
def pulseGap : Nat := usDuration 50

/-- The line after a change of the pending-and-enabled notices from `before` to those of `u` (R164 to R166). `again` says that
a CLEAR_NOTICES was taken, which in PULSE style gives a gap while a notice remains. A gap in progress absorbs the change. -/
def lineAfter (elapsed : Nat) (before : NoticeSet) (again : Bool) (u : PortUnit) : Line :=
  match u.style, u.line with
  | .level, _ => plainLine u.wanted
  | .pulse, .gap e => .gap e
  | .pulse, .inactive => plainLine u.wanted
  | .pulse, .active =>
    if u.wanted = 0 then .inactive
    else if again || (u.wanted &&& ~~~before) != 0 then .gap (elapsed + pulseGap)
    else .active

/-- A port unit with another pending set, its line driven from it. -/
def PortUnit.withPending (u : PortUnit) (elapsed : Nat) (again : Bool) (pending : NoticeSet) : PortUnit :=
  { u with pending := pending, line := lineAfter elapsed u.wanted again { u with pending := pending } }

/-- The port unit after a notice is raised or its condition changes (R157, R158). A raise of a notice that is already pending
changes nothing. -/
def PortUnit.setNotice (u : PortUnit) (elapsed : Nat) (n : Notice) (on : Bool) : PortUnit :=
  if u.pending.has n = on then u else u.withPending elapsed false (putBit u.pending n.bit on)

/-- The port unit after CLEAR_NOTICES with a mask (R162, R165). -/
def PortUnit.clearNotices (u : PortUnit) (elapsed : Nat) (mask : NoticeSet) : PortUnit :=
  u.withPending elapsed true (u.pending &&& ~~~(mask &&& latchedNotices))

/-- The port unit after SET_NOTICES (R161): a change of style starts no gap, and a change to LEVEL ends one (R164, R165; log
entry 20). -/
def PortUnit.setEnables (u : PortUnit) (elapsed : Nat) (enabled : NoticeSet) (style : Style) : PortUnit :=
  let v := { u with enabled := enabled, style := style }
  { v with line := if style = u.style then lineAfter elapsed u.wanted false v else plainLine v.wanted }

/-- The port unit at the end of a pulse gap (R165). -/
def PortUnit.endGap (u : PortUnit) (elapsed : Nat) : PortUnit :=
  match u.line with
  | .gap e => if e ≤ elapsed then { u with line := plainLine u.wanted } else u
  | _ => u

/-- The top notice (R163): the lowest bit of the pending-and-enabled set, 0xFF for none (R188). -/
def topNotice (wanted : NoticeSet) : Nat :=
  ((List.range 7).find? fun k => wanted.getLsbD k).getD 0xFF

end Sys2Proof.Machine
end

