-- ==== Sys2Proof/Machine/Operands.lean ====
section
/-!
DEFINITION. The operands of a request: reading the fields of its argument bytes (R187, R188), the choice codes (R188), and
the clamping of settings (00_scope.md, R36, R42, R67, R93, R104, R114, R115, R144).
-/

namespace Sys2Proof.Machine

/-- The number that bytes spell, most significant byte first (R187). -/
def beNumber (bs : List Byte) : Nat := bs.foldl (fun n b => n * 256 + b.toNat) 0

/-- The field of `len` bytes at byte `off` of the arguments. -/
def argField (args : List Byte) (off len : Nat) : Nat := beNumber ((args.drop off).take len)

/-- The arguments of a frame from the bytes after its request code, when the frame has a good shape (R170, check 1): an
argument length of 64 or less, and as many argument bytes as it says. -/
def frameArguments : List Byte → Option (List Byte)
  | [] => none
  | len :: args => if len.toNat ≤ 64 ∧ args.length = len.toNat then some args else none

/-- A value read as on or off: 0 is off and any other value is on (R188). -/
def onOff (n : Nat) : Bool := n != 0

/-- The point modes by code (R188). -/
def pointModeOf : Nat → Option PointMode
  | 0 => some .off
  | 1 => some .status
  | 2 => some .record
  | 3 => some .trip
  | _ => none

/-- The polarities by code (R188). -/
def polarityOf : Nat → Option Polarity
  | 0 => some .activeHigh
  | 1 => some .activeLow
  | _ => none

/-- The overflow modes by code (R188). -/
def overflowModeOf : Nat → Option OverflowMode
  | 0 => some .keepOldest
  | 1 => some .keepNewest
  | _ => none

/-- The lapse actions by code (R188). -/
def lapseActionOf : Nat → Option LapseAction
  | 0 => some .revert
  | 1 => some .standing
  | _ => none

/-- The attention styles by code (R188). -/
def styleOf : Nat → Option Style
  | 0 => some .level
  | 1 => some .pulse
  | _ => none

/-- The ports by letter (R187). -/
def portOf : Nat → Option Port
  | 0x41 => some .a
  | 0x42 => some .b
  | 0x43 => some .c
  | _ => none

/-- A point number that names a point. -/
def pointIndex (n : Nat) : Option (Fin 32) := if h : n < 32 then some ⟨n, h⟩ else none

/-- A tally number that names a tally. -/
def tallyIndex (n : Nat) : Option (Fin 12) := if h : n < 12 then some ⟨n, h⟩ else none

/-- A debounce as stored (R42). -/
def clampDebounce (n : Nat) : Nat := clamp 0 250 n

/-- A chatter limit as stored (R42): 0 stays 0. -/
def clampChatterLimit (n : Nat) : Nat := if n = 0 then 0 else clamp 2 30 n

/-- A chatter window as stored (R42). -/
def clampChatterWindow (n : Nat) : Nat := clamp 1 60 n

/-- The discipline settings as stored (R36). -/
def disciplineSettingsOf (args : List Byte) : DisciplineSettings :=
  { stepEnable := onOff (argField args 0 1), stepLimit := clamp 1 500 (argField args 1 2),
    lockWindow := clamp 10 1000 (argField args 3 2), loopDivisor := clamp 1 64 (argField args 5 1),
    holdoverLimit := clamp 60 86400 (argField args 6 4) }

/-- A tally configuration as stored (R104), from the 14 bytes after the tally number. -/
def tallyConfigOf (args : List Byte) : TallyConfig :=
  { inUse := onOff (argField args 0 1), pattern := BitVec.ofNat 36 (argField args 1 5),
    care := BitVec.ofNat 36 (argField args 6 5), qualifyTime := clamp 0 60 (argField args 11 1),
    recordTransitions := onOff (argField args 12 1), dueEnable := onOff (argField args 13 1) }

/-- The largest lifetime, due value and run length of a tally (R111, R114), in ms. -/
def lifetimeMax : Nat := 3599999999999

/-- The largest starts count (R111). -/
def startsMax : Nat := 999999

/-- The largest shift portion (R111), in ms. -/
def shiftPortionMax : Nat := 4294967295

/-- The largest 16-bit count: shift starts (R111), trip and POINT counts (R77), gaps (R89), rejected marks (R22). -/
def count16Max : Nat := 65535

/-- The rights of a rights byte (R187). -/
def rightsOf (n : Nat) : Rights := ⟨n.testBit 0, n.testBit 1, n.testBit 2, n.testBit 3⟩

/-- The slots of a SET_ROTA frame: k slots of start minute 2 and crew 1, from byte 2 (R188). -/
def slotsOf (args : List Byte) (k : Nat) : List Slot :=
  (List.range k).map fun j => ⟨argField args (2 + 3 * j) 2, argField args (4 + 3 * j) 1⟩

end Sys2Proof.Machine
end

