-- ==== Sys2Proof/Machine/Layout.lean ====
section
/-!
DEFINITION. The byte layouts of chapter 12: fields (R187), codes (R188), records (R189) and the pieces that the response
payloads are made of (R190).
-/

namespace Sys2Proof.Machine

/-- A number in `k` bytes, most significant byte first (R187). -/
def beBytes (k v : Nat) : List Byte := (List.range k).reverse.map fun i => BitVec.ofNat 8 (v / 256 ^ i)

/-- A signed number in `k` bytes, two's complement (R187). -/
def beSigned (k : Nat) (v : Int) : List Byte := beBytes k (v % ((256 ^ k : Nat) : Int)).toNat

/-- A flag as a byte: set or on 1, clear or off 0 (log entry 15). -/
def flagByte (b : Bool) : List Byte := [if b then 1 else 0]

/-- An instant (R187): 8 bytes. -/
def instantBytes (i : Instant) : List Byte := beBytes 2 i.date ++ beBytes 4 i.ms ++ beBytes 2 i.us

/-- An optional instant (R187): 9 bytes, all zero after the presence byte when absent. -/
def optInstantBytes : Option Instant → List Byte
  | none => 0 :: instantBytes .zero
  | some i => 1 :: instantBytes i

/-- A slot number, 0xFF for none (R187). -/
def slotByte : Option Nat → List Byte
  | none => [0xFF]
  | some k => beBytes 1 k

/-- A port letter (R187). -/
def portLetter : Port → Byte
  | .a => 0x41
  | .b => 0x42
  | .c => 0x43

/-- A port letter or 0x00 for none (R187). -/
def optPortByte : Option Port → List Byte
  | none => [0x00]
  | some p => [portLetter p]

/-- Quality codes (R188). -/
def Quality.code : Quality → Byte
  | .unset => 0
  | .free => 1
  | .acquiring => 2
  | .locked => 3
  | .holdover => 4

/-- Point mode codes (R188). -/
def PointMode.code : PointMode → Byte
  | .off => 0
  | .status => 1
  | .record => 2
  | .trip => 3

/-- Polarity codes (R188). -/
def Polarity.code : Polarity → Byte
  | .activeHigh => 0
  | .activeLow => 1

/-- Chatter state codes (R188). -/
def Chatter.code : Chatter → Nat
  | .clear => 0
  | .counting _ _ => 1
  | .suppressed _ _ => 2

/-- First-out latch codes (R188). -/
def Latch.code : Latch → Byte
  | .armed => 0
  | .provisional => 1
  | .final => 2

/-- Annunciation codes (R188). -/
def Annunciation.code : Annunciation → Byte
  | .normal => 0
  | .activeUnack => 1
  | .activeAck => 2
  | .returnedUnack => 3

/-- Tally run state codes (R188): RUNNING paused is 3. -/
def RunState.code (paused : Bool) : RunState → Byte
  | .idle => 0
  | .qualifying => 1
  | .running => if paused then 3 else 2

/-- Duty state codes (R188). -/
def DutyState.code : DutyState → Nat
  | .vacant => 0
  | .onDuty => 1
  | .due => 2
  | .released => 3

/-- Overflow mode codes (R188). -/
def OverflowMode.code : OverflowMode → Byte
  | .keepOldest => 0
  | .keepNewest => 1

/-- Lapse action codes (R188). -/
def LapseAction.code : LapseAction → Byte
  | .revert => 0
  | .standing => 1

/-- Attention style codes (R188). -/
def Style.code : Style → Byte
  | .level => 0
  | .pulse => 1

/-- The line as READ_NOTICES shows it (R190): inactive 0, active 1; inactive during a pulse gap (R165). -/
def Line.code : Line → Byte
  | .active => 1
  | _ => 0

/-- Refusal codes (R187). -/
def RefusalCode.code : RefusalCode → Byte
  | .frame => 0x10
  | .unknown => 0x11
  | .denied => 0x12
  | .notDuty => 0x13
  | .badIndex => 0x14
  | .range => 0x15
  | .state => 0x16
  | .frozen => 0x17
  | .busy => 0x18
  | .crew => 0x19

/-- The response buffer as a read transaction returns it (R172, R187): status, payload length, payload. A refused response
carries the request code and the detail. -/
def Response.bytes : Response → List Byte
  | .none => [0x00, 0]
  | .ok payload => 0x01 :: BitVec.ofNat 8 payload.length :: payload
  | .refused r request detail => r.code :: 3 :: request :: beBytes 2 detail

/-! ### Records (R189) -/

/-- Change cause codes (R189). -/
def ChangeCause.code : ChangeCause → Byte
  | .change => 0
  | .afterChatter => 1
  | .afterRestart => 2

/-- Chatter phase codes (R189). -/
def ChatterPhase.code : ChatterPhase → Byte
  | .suppressed => 0
  | .released => 1

/-- TIME_SET mode codes (R188). -/
def TimeSetMode.code : TimeSetMode → Byte
  | .immediate => 0
  | .atMark => 1

/-- HANDOVER phase codes (R189). -/
def HandoverPhase.code : HandoverPhase → Byte
  | .due => 0
  | .skipped => 1
  | .opened => 2
  | .released => 3
  | .reclaimed => 4
  | .taken => 5
  | .accepted => 6
  | .overdue => 7
  | .reoffered => 8
  | .lapsedRevert => 9
  | .lapsedStanding => 10

/-- POWER cause codes (R189). -/
def PowerCause.code : PowerCause → Byte
  | .outage => 0
  | .resetLine => 1
  | .restartRequest => 2
  | .cold => 3

/-- Record kind codes (R189). -/
def RecordBody.kind : RecordBody → Byte
  | .point .. => 0x01
  | .chatter .. => 0x02
  | .firstOut .. => 0x03
  | .timeStep .. => 0x04
  | .timeSet .. => 0x05
  | .quality .. => 0x06
  | .tallyRun .. => 0x07
  | .tallyStop .. => 0x08
  | .tallyDue .. => 0x09
  | .tallyPreset .. => 0x0A
  | .ack .. => 0x0B
  | .firstOutReset .. => 0x0C
  | .handover .. => 0x0D
  | .rota .. => 0x0E
  | .power .. => 0x0F

/-- A ranked point with its offset (R189, R190). -/
def rankBytes (e : Nat × BitVec 32) : List Byte := beBytes 1 e.1 ++ beBytes 4 e.2.toNat

/-- The body of a record (R189). -/
def RecordBody.bytes : RecordBody → List Byte
  | .point n active cause => beBytes 1 n ++ flagByte active ++ [cause.code]
  | .chatter n phase count => beBytes 1 n ++ [phase.code] ++ beBytes 2 count
  | .firstOut first overflow entries =>
    instantBytes first ++ beBytes 1 entries.length ++ beBytes 1 overflow ++ entries.flatMap rankBytes
  | .timeStep e => beSigned 4 e
  | .timeSet old port mode => instantBytes old ++ [portLetter port, mode.code]
  | .quality old new => [old.code, new.code]
  | .tallyRun t => beBytes 1 t
  | .tallyStop t len => beBytes 1 t ++ beBytes 6 len
  | .tallyDue t life => beBytes 1 t ++ beBytes 6 life
  | .tallyPreset t crew oldL newL oldS newS =>
    beBytes 1 t ++ beBytes 1 crew ++ beBytes 6 oldL ++ beBytes 6 newL ++ beBytes 4 oldS ++ beBytes 4 newS
  | .ack crew port points => beBytes 1 crew ++ [portLetter port] ++ beBytes 1 points.length ++ points.flatMap (beBytes 1)
  | .firstOutReset crew => beBytes 1 crew
  | .handover phase outgoing incoming slot reoffers skipped =>
    [phase.code] ++ beBytes 1 outgoing ++ beBytes 1 incoming ++ slotByte slot ++ beBytes 1 reoffers ++ beBytes 1 skipped
  | .rota slots => beBytes 1 slots
  | .power cause start qs qe =>
    [cause.code] ++ (match start with | none => [] | some i => instantBytes i) ++ [qs.code, qe.code]

/-- The length of a record, header included (R86). -/
def RecordBody.length : RecordBody → Nat
  | .point .. => 19
  | .chatter .. => 20
  | .firstOut _ _ entries => 26 + 5 * entries.length
  | .timeStep .. => 20
  | .timeSet .. => 26
  | .quality .. => 18
  | .tallyRun .. => 17
  | .tallyStop .. => 23
  | .tallyDue .. => 23
  | .tallyPreset .. => 38
  | .ack _ _ points => 19 + points.length
  | .firstOutReset .. => 17
  | .handover .. => 22
  | .rota .. => 17
  | .power _ none _ _ => 19
  | .power _ (some _) _ _ => 27

/-- The flags byte of a record header (R189): bit 0 OUTAGE, bit 1 WITHHELD. -/
def Record.flags (r : Record) : Nat := (if r.outage then 1 else 0) + (if r.withheld then 2 else 0)

/-- A record as bytes (R189): a 16-byte header and the body. -/
def Record.bytes (r : Record) : List Byte :=
  beBytes 1 r.body.length ++ [r.body.kind] ++ beBytes 2 r.seq ++ instantBytes r.instant ++ [r.quality.code] ++
    beBytes 2 r.burst ++ beBytes 1 r.flags ++ r.body.bytes

/-- The copy of a record that a port outside the tally's read mask receives (R97): value fields zeroed, WITHHELD set. -/
def Record.withhold (r : Record) (mask : BitVec 12) : Record :=
  match r.body with
  | .tallyRun t => if mask.getLsbD t then r else { r with withheld := true }
  | .tallyStop t _ => if mask.getLsbD t then r else { r with withheld := true, body := .tallyStop t 0 }
  | .tallyDue t _ => if mask.getLsbD t then r else { r with withheld := true, body := .tallyDue t 0 }
  | .tallyPreset t crew _ _ _ _ =>
    if mask.getLsbD t then r else { r with withheld := true, body := .tallyPreset t crew 0 0 0 0 }
  | _ => r

/-! ### Pieces of payloads (R190) -/

/-- A point entry: mode, polarity, debounce, chatter limit, chatter window, one byte each. -/
def PointEntry.bytes (e : PointEntry) : List Byte :=
  [e.mode.code, e.polarity.code] ++ beBytes 1 e.debounce ++ beBytes 1 e.chatterLimit ++ beBytes 1 e.chatterWindow

/-- The discipline settings, as in SET_DISCIPLINE. -/
def DisciplineSettings.bytes (d : DisciplineSettings) : List Byte :=
  flagByte d.stepEnable ++ beBytes 2 d.stepLimit ++ beBytes 2 d.lockWindow ++ beBytes 1 d.loopDivisor ++
    beBytes 4 d.holdoverLimit

/-- A tally configuration, as in SET_TALLY after the tally byte: 14 bytes. -/
def TallyConfig.bytes (c : TallyConfig) : List Byte :=
  flagByte c.inUse ++ beBytes 5 c.pattern.toNat ++ beBytes 5 c.care.toNat ++ beBytes 1 c.qualifyTime ++
    flagByte c.recordTransitions ++ flagByte c.dueEnable

/-- The handover settings, as in SET_HANDOVER. -/
def HandoverSettings.bytes (h : HandoverSettings) : List Byte :=
  beBytes 1 h.releaseWindow ++ beBytes 1 h.acceptWindow ++ beBytes 1 h.reofferLimit ++ [h.lapse.code] ++
    beBytes 1 h.standingCrew

/-- A rota in READ_DUTY: count and six slots of 3 bytes; slots beyond the count read as zero. -/
def rotaBytes (r : List Slot) : List Byte :=
  beBytes 1 r.length ++
    (List.range 6).flatMap fun k => match r[k]? with | none => [0, 0, 0] | some x => beBytes 2 x.minute ++ beBytes 1 x.crew

/-- A rights byte (R187). -/
def Rights.code (r : Rights) : Nat :=
  (if r.time then 1 else 0) + (if r.config then 2 else 0) + (if r.events then 4 else 0) + (if r.duty then 8 else 0)

/-- A notice set as a byte (R187). -/
def noticeByte (n : NoticeSet) : List Byte := beBytes 1 n.toNat

end Sys2Proof.Machine
end

