-- ==== Sys2Proof/Machine/Ops.lean ====
section
/-!
DEFINITION. The named operations that every block uses: the state with one block replaced, the current instant (R1), the
applied trim (R4), the burst number for headers (R62), notices at the ports (R157, R158), and taking a request at a STOP
(R169 to R171, R175).
-/

namespace Sys2Proof.Machine

/-! ### The state with one block replaced -/

/-- The state with another time base. -/
def State.withTime (s : State) (t : TimeBase) : State := { s with time := t }

/-- The state with another discipline unit. -/
def State.withDiscipline (s : State) (d : Discipline) : State := { s with discipline := d }

/-- The state with another trip unit. -/
def State.withTrip (s : State) (t : TripUnit) : State := { s with trip := t }

/-- The state with another event queue. -/
def State.withQueue (s : State) (q : EventQueue) : State := { s with queue := q }

/-- The state with another tally unit. -/
def State.withTally (s : State) (t : TallyUnit) : State := { s with tally := t }

/-- The state with another duty unit. -/
def State.withDuty (s : State) (d : DutyUnit) : State := { s with duty := d }

/-- The state with another shift book. -/
def State.withBook (s : State) (b : ShiftBook) : State := { s with book := b }

/-- The state with another supply monitor. -/
def State.withSupply (s : State) (m : SupplyMonitor) : State := { s with supply := m }

/-- The state with another unit at a port. -/
def State.withPort (s : State) (p : Port) (u : PortUnit) : State := { s with ports := s.ports.set p u }

/-- The state with another point. -/
def State.withPoint (s : State) (n : Fin 32) (x : Point) : State := { s with points := s.points.set n.val x n.isLt }

/-- The state with another tally entry. -/
def State.withEntry (s : State) (i : Fin 12) (t : Tally) : State :=
  s.withTally { s.tally with entries := s.tally.entries.set i.val t i.isLt }

/-- A point of the point unit. -/
def State.point (s : State) (n : Fin 32) : Point := s.points[n.val]

/-- An entry of the tally unit. -/
def State.entry (s : State) (i : Fin 12) : Tally := s.tally.entries[i.val]

/-- The unit of a port. -/
def State.port (s : State) (p : Port) : PortUnit := s.ports.get p

/-- An action taken at ports A, B and C. -/
def atAllPorts (f : Port → State → State) (s : State) : State := f .c (f .b (f .a s))

/-- An action taken at every point, each in turn (log entry 28). -/
def atAllPoints (f : Fin 32 → State → State) (s : State) : State := (List.finRange 32).foldl (fun s n => f n s) s

/-- An action taken at every tally, each in turn (log entry 28). -/
def atAllTallies (f : Fin 12 → State → State) (s : State) : State := (List.finRange 12).foldl (fun s i => f i s) s

/-! ### The time base as other blocks read it -/

/-- The part is in supply state RUN. -/
def State.running (s : State) : Bool := s.supply.state == .run

/-- The current instant (R1): the microsecond is Q divided by 4,096,000,000, truncated. -/
def State.now (s : State) : Instant := ⟨s.time.date, s.time.ms, s.time.q / microsecondUnits⟩

/-- The applied trim T = F + S (R4). -/
def State.trim (s : State) : Int := s.discipline.freqTrim + s.discipline.slewTrim

/-- An expiry in elapsed time has been reached (R5). -/
def State.reached (s : State) (expiry : Nat) : Bool := decide (expiry ≤ s.elapsed)

/-- The present tick has made a millisecond boundary (R3): the stored instants are compared at it (R127, R159; log entry 5). -/
def State.atBoundary (s : State) : Bool := s.boundaryAt == some s.elapsed

/-- The burst number for a header (R62): 0 while no burst is open. -/
def State.burstNumber (s : State) : Nat := match s.trip.burst with | none => 0 | some b => b.number

/-! ### Notices at the ports -/

/-- A notice at a port raised or its condition changed (R157, R158). In BACKUP the ports take no raise and no change (R167). -/
def setNotice (p : Port) (n : Notice) (on : Bool) (s : State) : State :=
  if s.running then s.withPort p ((s.port p).setNotice s.elapsed n on) else s

/-- A latched notice raised at ports A, B and C (R157). -/
def raiseAtAll (n : Notice) (s : State) : State := atAllPorts (fun p => setNotice p n true) s

/-! ### Taking a request -/

/-- What an owning block does with a request: it carries it out, with a payload, or refuses it with a code and a detail
(R170, R171). A refusal leaves the state of the part as it was. -/
inductive Answer where
  | accept (s : State) (payload : List Byte)
  | refuse (code : RefusalCode) (detail : Nat)

/-- The frame state of a port becomes idle at the STOP (R169). -/
def State.idleFrame (s : State) (p : Port) : State := s.withPort p { s.port p with frame := none }

/-- The response of a port is replaced (R171). -/
def State.respond (s : State) (p : Port) (r : Response) : State := s.withPort p { s.port p with response := r }

/-- A request refused at a port: the response buffer and the refusal record take it (R171, R175). -/
def State.refuse (s : State) (p : Port) (request : Byte) (code : RefusalCode) (detail : Nat) : State :=
  s.withPort p
    { s.port p with
      response := .refused code request detail
      refusal := some ⟨request, code, detail, s.now⟩ }

/-- The state after a request is answered (R171). -/
def State.answered (s : State) (p : Port) (request : Byte) : Answer → State
  | .accept t payload => t.respond p (.ok payload)
  | .refuse code detail => s.refuse p request code detail

/-- A request frame taken at the STOP of a port (R169, R170): `rest` holds the bytes after the request code. The frame shape
and the argument length are checked, then the owning block serves the request. In BACKUP the port acknowledges nothing and
takes no request (R168, R178; log entry 23). -/
def takeRequest (p : Port) (request : Byte) (lengthFits : Nat → Bool) (serve : List Byte → State → Answer)
    (rest : List Byte) (s : State) : State :=
  if s.running then
    let s := s.idleFrame p
    match frameArguments rest with
    | none => s.refuse p request .frame (min 255 (1 + rest.length))
    | some args =>
      if lengthFits args.length then s.answered p request (serve args s)
      else s.refuse p request .frame args.length
  else s

/-- The argument length of a request that takes one fixed length (R170, check 3). -/
def exactly (n : Nat) : Nat → Bool := fun len => len == n

end Sys2Proof.Machine
end

