-- ==== Sys2Proof/Machine/EventQueue.lean ====
section
/-!
DEFINITION. The event queue (05_the_event_queue.md): production of records (R84, R85, R88), overflow (R90, R91), and the
requests SET_QUEUE_MODE (R92), READ_EVENTS (R93 to R97) and SUBSCRIBE (R98).
-/

namespace Sys2Proof.Machine

/-- The queue holds at most 128 records (R87). -/
def queueRoom : Nat := 128

/-- The port is in the reader set of a held record (R87). -/
def Held.readBy (h : Held) (p : Port) : Bool := (h.readers.get p).isSome

/-- The reader set of a held record is not empty (R87). -/
def Held.wanted (h : Held) : Bool := h.readBy .a || h.readBy .b || h.readBy .c

/-- The port's lead gap in a held record (R89): 0 where the port is not in the reader set. -/
def Held.leadGap (h : Held) (p : Port) : Nat := (h.readers.get p).getD 0

/-- A held record with a port taken out of its reader set. -/
def Held.without (h : Held) (p : Port) : Held := { h with readers := h.readers.set p none }

/-- The port's stream (R87): the held records that it has yet to read, in queue order. -/
def EventQueue.stream (q : EventQueue) (p : Port) : List Held := q.held.filter (·.readBy p)

/-- The level EVENTS notice of a port evaluated again (R100). -/
def syncEvents (p : Port) (s : State) : State := setNotice p .events (!(s.queue.stream p).isEmpty) s

/-- A count with some more added, stopping at 65,535 (R89). -/
def addGap (n more : Nat) : Nat := min count16Max (n + more)

/-- A loss added to the port's lead gap in the first record of a list that the port reads; none where no record is (R91). -/
def addLeadGap (p : Port) (loss : Nat) : List Held → Option (List Held)
  | [] => none
  | h :: t =>
    match h.readers.get p with
    | some g => some ({ h with readers := h.readers.set p (some (addGap g loss)) } :: t)
    | none => (addLeadGap p loss t).map (h :: ·)

/-- A loss of records to a port, in its next held record or, where it has none, in its tail gap (R91). -/
def EventQueue.addLoss (q : EventQueue) (p : Port) (loss : Nat) : EventQueue :=
  match addLeadGap p loss q.held with
  | some held => { q with held := held }
  | none => { q with tailGap := q.tailGap.set p (addGap (q.tailGap.get p) loss) }

/-- A loss counted at a port, with its GAP notice (R89, R91). -/
def loseAt (p : Port) (loss : Nat) (s : State) : State :=
  setNotice p .gap true (s.withQueue (s.queue.addLoss p loss))

/-- The loss of a discarded record at a subscribed port (R90): its tail gap increases by one and GAP is raised. -/
def discardAt (p : Port) (s : State) : State :=
  if s.queue.subscribed.get p then
    setNotice p .gap true
      (s.withQueue { s.queue with tailGap := s.queue.tailGap.set p (addGap (s.queue.tailGap.get p) 1) })
  else s

/-- The reader set of a record that enters: each subscribed port, with its tail gap as its lead gap (R88). -/
def EventQueue.newReaders (q : EventQueue) : PerPort (Option Nat) :=
  ⟨if q.subscribed.a then some q.tailGap.a else none, if q.subscribed.b then some q.tailGap.b else none,
    if q.subscribed.c then some q.tailGap.c else none⟩

/-- The tail gaps after a record has entered: 0 for each port of its reader set (R88). -/
def EventQueue.clearedTails (q : EventQueue) : PerPort Nat :=
  ⟨if q.subscribed.a then 0 else q.tailGap.a, if q.subscribed.b then 0 else q.tailGap.b,
    if q.subscribed.c then 0 else q.tailGap.c⟩

/-- A record enters the queue at its end (R88). -/
def enterRecord (r : Record) (s : State) : State :=
  atAllPorts syncEvents
    (s.withQueue
      { s.queue with held := s.queue.held ++ [⟨r, s.queue.newReaders⟩], tailGap := s.queue.clearedTails })

/-- The loss of a removed record at a port of its reader set (R91): its lead gap plus one. GAP is raised before EVENTS stops
being pending: DESIGN CHOICE (log entry 36). -/
def loseRemoved (h : Held) (p : Port) (s : State) : State :=
  match h.readers.get p with
  | none => s
  | some g => syncEvents p (loseAt p (g + 1) s)

/-- The oldest held record is removed under KEEP_NEWEST (R91; log entry 21). -/
def removeOldest (s : State) : State :=
  match s.queue.held with
  | [] => s
  | h :: t => atAllPorts (loseRemoved h) (s.withQueue { s.queue with held := t })

/-- Some port is subscribed: the reader set of a new record is not empty (R87). -/
def EventQueue.anySubscribed (q : EventQueue) : Bool := q.subscribed.a || q.subscribed.b || q.subscribed.c

/-- A record that has taken its sequence number is stored, discarded or not stored (R87, R88, R90, R91). -/
def storeRecord (r : Record) (s : State) : State :=
  if s.queue.anySubscribed then
    if s.queue.held.length < queueRoom then enterRecord r s
    else match s.queue.mode with
      | .keepOldest => atAllPorts discardAt s
      | .keepNewest => enterRecord r (removeOldest s)
  else s

/-- A record produced at an instant of its own (R84): it takes the sequence number in the counter, whatever becomes of it
(R85), the quality in force (R9) and the number of the open burst (R62). -/
def produceAt (i : Instant) (outage : Bool) (body : RecordBody) (s : State) : State :=
  storeRecord
    { seq := s.queue.seq, instant := i, quality := s.time.quality, burst := s.burstNumber, outage := outage,
      withheld := false, body := body }
    (s.withQueue { s.queue with seq := (s.queue.seq + 1) % 65536 })

/-- A record produced with the current instant: every kind but POINT (R84). -/
def produce (outage : Bool) (body : RecordBody) (s : State) : State := produceAt s.now outage body s

/-! ### SET_QUEUE_MODE -/

/-- SET_QUEUE_MODE (R92). -/
def serveSetQueueMode (p : Port) (args : List Byte) (s : State) : Answer :=
  if (s.port p).rights.config then
    match overflowModeOf (argField args 0 1) with
    | none => .refuse .range (argField args 0 1)
    | some m => .accept (s.withQueue { s.queue with mode := m }) [m.code]
  else .refuse .denied 0

/-- The command SET_QUEUE_MODE. -/
def execSetQueueMode (p : Port) (rest : List Byte) (s : State) : Host.Outcome State Fault Refusal :=
  .next (takeRequest p 0x22 (exactly 1) (serveSetQueueMode p) rest s)

/-! ### READ_EVENTS -/

/-- The records taken from the head of a stream (R94): at most `n` of them, in `room` bytes, and a record with a lead gap for
the port only as the first. -/
def takeRecords (p : Port) (n room : Nat) (first : Bool) : List Held → List Held
  | [] => []
  | h :: t =>
    match n with
    | 0 => []
    | n + 1 =>
      if h.record.body.length ≤ room ∧ (first ∨ h.leadGap p = 0) then
        h :: takeRecords p n (room - h.record.body.length) false t
      else []

/-- The held records after the first `k` of the port's stream are delivered (R96): the port leaves their reader sets, and a
record whose reader set becomes empty leaves the queue. -/
def deliver (p : Port) : Nat → List Held → List Held
  | 0, held => held
  | _ + 1, [] => []
  | k + 1, h :: t =>
    if h.readBy p then
      if (h.without p).wanted then h.without p :: deliver p k t else deliver p k t
    else h :: deliver p (k + 1) t

/-- Bytes of a READ_EVENTS payload that records share (R93). -/
def eventsRoom : Nat := 236

/-- READ_EVENTS (R93 to R97). -/
def serveReadEvents (p : Port) (args : List Byte) (s : State) : Answer :=
  if (s.port p).rights.events then
    let stream := s.queue.stream p
    let taken := takeRecords p (clamp 1 8 (argField args 0 1)) eventsRoom true stream
    let gap := match taken with | [] => s.queue.tailGap.get p | h :: _ => h.leadGap p
    .accept
      (syncEvents p (s.withQueue { s.queue with held := deliver p taken.length s.queue.held }))
      (beBytes 2 gap ++ beBytes 1 taken.length ++ beBytes 1 (stream.length - taken.length) ++
        taken.flatMap fun h => (h.record.withhold (s.port p).readMask).bytes)
  else .refuse .denied 0

/-- The command READ_EVENTS. -/
def execReadEvents (p : Port) (rest : List Byte) (s : State) : Host.Outcome State Fault Refusal :=
  .next (takeRequest p 0x20 (exactly 1) (serveReadEvents p) rest s)

/-! ### SUBSCRIBE -/

/-- A port leaves the subscription set (R98, R99). -/
def unsubscribe (p : Port) (s : State) : State :=
  if s.queue.subscribed.get p then
    syncEvents p
      (s.withQueue
        { s.queue with
          held := (s.queue.held.map (·.without p)).filter (·.wanted)
          tailGap := s.queue.tailGap.set p 0
          subscribed := s.queue.subscribed.set p false })
  else s

/-- A port joins the subscription set (R98). -/
def joinSubscription (p : Port) (s : State) : State :=
  if s.queue.subscribed.get p then s
  else
    s.withQueue
      { s.queue with tailGap := s.queue.tailGap.set p 0, subscribed := s.queue.subscribed.set p true }

/-- SUBSCRIBE (R98). -/
def serveSubscribe (p : Port) (args : List Byte) (s : State) : Answer :=
  if (s.port p).rights.events then
    if onOff (argField args 0 1) then .accept (joinSubscription p s) (flagByte true)
    else .accept (unsubscribe p s) (flagByte false)
  else .refuse .denied 0

/-- The command SUBSCRIBE. -/
def execSubscribe (p : Port) (rest : List Byte) (s : State) : Host.Outcome State Fault Refusal :=
  .next (takeRequest p 0x21 (exactly 1) (serveSubscribe p) rest s)

end Sys2Proof.Machine
end

