-- ==== Sys2Proof/Machine/Tallies.lean ====
section
/-!
DEFINITION. The tally unit (06_run_hour_tallies.md): conditions and inputs (R102, R103), qualification and running (R106 to
R111), due compares (R113), presets (R116), closing and restore actions (R120, R121), and the requests SET_TALLY, SET_DUE and
READ_TALLY. PRESET_TALLY, which is duty-bound, stands with the duty unit.
-/

namespace Sys2Proof.Machine

/-! ### Conditions -/

/-- The condition of a tally over the 36 inputs (R103): every input of the care set has the value the pattern gives it. A
tally out of use has a false condition. -/
def TallyConfig.holds (c : TallyConfig) (inputs : BitVec 36) : Bool := c.inUse && (inputs ^^^ c.pattern) &&& c.care == 0

/-- The condition of a tally as last evaluated (R117). -/
def State.condition (s : State) (i : Fin 12) : Bool := (s.entry i).config.holds s.tally.inputs

/-- The debounced state vector (R50): bit n is point n. -/
def State.stateVector (s : State) : BitVec 32 :=
  (List.finRange 32).foldl (fun v n => putBit v n.val (s.point n).active) 0

/-- Input 32, first-out latched (R102). -/
def inputFirstOut : Nat := 32

/-- Input 33, time LOCKED (R102). -/
def inputLocked : Nat := 33

/-- Input 34, duty held (R102). -/
def inputDuty : Nat := 34

/-- Input 35, burst open (R102). -/
def inputBurst : Nat := 35

/-- The 36 inputs as the owning blocks have them now (R102). -/
def State.presentInputs (s : State) : BitVec 36 :=
  let v := BitVec.setWidth 36 s.stateVector
  let v := putBit v inputFirstOut (s.trip.latch != .armed)
  let v := putBit v inputLocked (s.time.quality == .locked)
  let v := putBit v inputDuty (s.duty.state != .vacant)
  putBit v inputBurst s.trip.burst.isSome

/-! ### Counting -/

/-- An addition goes above the maximum of a count, or is made to a count that stands at it: the saturated flag is set (R111;
log entry 17). -/
def saturates (limit n more : Nat) : Bool := decide (limit < n + more) || n == limit

/-- A count with an addition, held at its maximum (R111). -/
def addTo (limit n more : Nat) : Nat := min limit (n + more)

/-- Run time added to the lifetime and the shift portion of a tally (R107, R109), with R111 for each. -/
def Tally.credit (t : Tally) (more : Nat) : Tally :=
  { t with
    lifetime := addTo lifetimeMax t.lifetime more
    shiftPortion := addTo shiftPortionMax t.shiftPortion more
    saturatedFlag := t.saturatedFlag || saturates lifetimeMax t.lifetime more ||
      saturates shiftPortionMax t.shiftPortion more }

/-- A start counted (R107), with R111 for each count. -/
def Tally.countStart (t : Tally) : Tally :=
  { t with
    starts := addTo startsMax t.starts 1
    shiftStarts := addTo count16Max t.shiftStarts 1
    saturatedFlag := t.saturatedFlag || saturates startsMax t.starts 1 || saturates count16Max t.shiftStarts 1 }

/-! ### Due compares -/

/-- Due pending holds (R113). -/
def Tally.dueHolds (t : Tally) : Bool := t.config.dueEnable && decide (t.dueValue ≤ t.lifetime)

/-- The tallies that have due pending, one bit each. -/
def State.dueTallies (s : State) : BitVec 12 :=
  (List.finRange 12).foldl (fun v i => putBit v i.val (s.entry i).duePending) 0

/-- The level TALLY_DUE notice of a port evaluated again against its read mask (R113, R158). -/
def syncTallyDue (p : Port) (s : State) : State :=
  setNotice p .tallyDue ((s.dueTallies &&& (s.port p).readMask) != 0) s

/-- Due pending of a tally evaluated again (R113): turning on produces a TALLY_DUE record, and a change is handed to the
ports. -/
def evaluateDue (outage : Bool) (i : Fin 12) (s : State) : State :=
  let t := s.entry i
  if t.dueHolds = t.duePending then s
  else
    let s := s.withEntry i { t with duePending := t.dueHolds }
    let s := if t.dueHolds then produce outage (.tallyDue i.val t.lifetime) s else s
    atAllPorts syncTallyDue s

/-! ### Presets -/

/-- A preset applied (R116). -/
def applyPreset (outage : Bool) (i : Fin 12) (x : StagedPreset) (s : State) : State :=
  let t := s.entry i
  let s := s.withEntry i { t with lifetime := x.lifetime, starts := x.starts, presetFlag := true }
  let s := produce outage (.tallyPreset i.val x.crew t.lifetime x.lifetime t.starts x.starts) s
  let s := evaluateDue outage i s
  s.withEntry i { s.entry i with staged := none }

/-! ### Qualifying and running -/

/-- Qualification completes (R107): the tally runs, a start is counted, the qualify count is credited. -/
def completeQualification (outage : Bool) (i : Fin 12) (s : State) : State :=
  let t := s.entry i
  let s := s.withEntry i
    { (t.countStart.credit t.qualifyCount) with run := .running, runLength := t.qualifyCount, qualifyCount := 0 }
  let s := if t.config.recordTransitions then produce outage (.tallyRun i.val) s else s
  evaluateDue outage i s

/-- An in-use IDLE tally whose condition is true enters QUALIFYING (R106): a qualify time of 0 completes at once. -/
def enterQualifying (outage : Bool) (i : Fin 12) (s : State) : State :=
  let t := s.entry i
  let s := s.withEntry i { t with run := .qualifying, qualifyCount := 0 }
  if t.config.qualifyTime = 0 then completeQualification outage i s else s

/-- A QUALIFYING tally whose condition is false returns to IDLE (R108). -/
def abandonQualifying (i : Fin 12) (s : State) : State :=
  s.withEntry i { s.entry i with run := .idle, qualifyCount := 0 }

/-- The staged preset of a tally, if any, applied at the end of its run (R110, stage 2). -/
def applyStagedPreset (outage : Bool) (i : Fin 12) (s : State) : State :=
  match (s.entry i).staged with
  | none => s
  | some x => applyPreset outage i x s

/-- A run ends (R110). -/
def endRun (outage : Bool) (i : Fin 12) (s : State) : State :=
  let t := s.entry i
  let s := if t.config.recordTransitions then produce outage (.tallyStop i.val t.runLength) s else s
  let s := applyStagedPreset outage i s
  s.withEntry i { s.entry i with run := .idle, runLength := 0 }

/-- The condition of a tally evaluated, and its run state moved (R103). -/
def evaluateTally (outage : Bool) (i : Fin 12) (s : State) : State :=
  match (s.entry i).run, s.condition i with
  | .idle, true => enterQualifying outage i s
  | .qualifying, false => abandonQualifying i s
  | .running, false => endRun outage i s
  | _, _ => s

/-- A change of an input handed to the tally unit (R102): the condition of every tally is evaluated. While the unit is paused
the change is not evaluated; the input is read at the restore action (R120). -/
def handInput (k : Nat) (v : Bool) (s : State) : State :=
  if s.tally.paused || s.tally.inputs.getLsbD k == v then s
  else atAllTallies (evaluateTally false) (s.withTally { s.tally with inputs := putBit s.tally.inputs k v })

/-- The qualify count has reached the qualify time (R107). -/
def Tally.qualified (t : Tally) : Bool := t.run == .qualifying && decide (t.config.qualifyTime * 1000 ≤ t.qualifyCount)

/-- The qualification of a tally completes where its count has reached its qualify time (R107; log entries 5 and 6). -/
def completeIfQualified (i : Fin 12) (s : State) : State :=
  if (s.entry i).qualified && !s.tally.paused then completeQualification false i s else s

/-- The command QUALIFICATION_COMPLETE (R107). -/
def execQualificationComplete (i : Fin 12) (s : State) : Host.Outcome State Fault Refusal :=
  .next (completeIfQualified i s)

/-- A millisecond boundary counted by a tally (R107, R109): the boundary at which the qualify count reaches the qualify time
completes the qualification. The run length holds at its maximum. -/
def countBoundary (i : Fin 12) (s : State) : State :=
  let t := s.entry i
  match t.run with
  | .idle => s
  | .qualifying => completeIfQualified i (s.withEntry i { t with qualifyCount := t.qualifyCount + 1 })
  | .running =>
    evaluateDue false i (s.withEntry i { (t.credit 1) with runLength := addTo lifetimeMax t.runLength 1 })

/-- A millisecond boundary handed to the tally unit (R3, R109): a paused unit counts none (R120). -/
def tallyBoundary (s : State) : State := if s.tally.paused then s else atAllTallies countBoundary s

/-! ### Closing and restore actions -/

/-- A QUALIFYING tally at the closing action (R120): IDLE, its count discarded, no record. -/
def closeTally (i : Fin 12) (s : State) : State :=
  if (s.entry i).run = .qualifying then abandonQualifying i s else s

/-- The closing action of the tally unit (R120). -/
def tallyClosing (s : State) : State :=
  let s := atAllTallies closeTally s
  s.withTally { s.tally with paused := true }

/-- A tally at the restore action (R121): its condition is evaluated, and due pending is evaluated again. -/
def restoreTally (i : Fin 12) (s : State) : State := evaluateDue true i (evaluateTally true i s)

/-- The restore action of the tally unit (R121): every tally from the inputs as they stand; then due pending is handed to the
ports. -/
def tallyRestore (s : State) : State :=
  let s := s.withTally { s.tally with inputs := s.presentInputs, paused := false }
  atAllPorts syncTallyDue (atAllTallies restoreTally s)

/-! ### SET_TALLY -/

/-- The effect of SET_TALLY on a tally (R105). -/
def configureTally (i : Fin 12) (c : TallyConfig) (s : State) : State :=
  let s := s.withEntry i { s.entry i with config := c }
  let s := if (s.entry i).qualified then completeQualification false i s else s
  evaluateDue false i (evaluateTally false i s)

/-- SET_TALLY (R104). -/
def serveSetTally (p : Port) (args : List Byte) (s : State) : Answer :=
  if (s.port p).rights.config then
    match tallyIndex (argField args 0 1) with
    | none => .refuse .badIndex (argField args 0 1)
    | some i =>
      let c := tallyConfigOf (args.drop 1)
      .accept (configureTally i c s) (beBytes 1 i.val ++ c.bytes)
  else .refuse .denied 0

/-- The command SET_TALLY. -/
def execSetTally (p : Port) (rest : List Byte) (s : State) : Host.Outcome State Fault Refusal :=
  .next (takeRequest p 0x29 (exactly 15) (serveSetTally p) rest s)

/-! ### SET_DUE -/

/-- SET_DUE (R114). -/
def serveSetDue (p : Port) (args : List Byte) (s : State) : Answer :=
  if (s.port p).rights.config then
    match tallyIndex (argField args 0 1) with
    | none => .refuse .badIndex (argField args 0 1)
    | some i =>
      let value := clamp 0 lifetimeMax (argField args 1 6)
      let t := evaluateDue false i (s.withEntry i { s.entry i with dueValue := value })
      .accept t (beBytes 1 i.val ++ beBytes 6 value ++ flagByte (t.entry i).duePending)
  else .refuse .denied 0

/-- The command SET_DUE. -/
def execSetDue (p : Port) (rest : List Byte) (s : State) : Host.Outcome State Fault Refusal :=
  .next (takeRequest p 0x2A (exactly 7) (serveSetDue p) rest s)

/-! ### READ_TALLY -/

/-- The two hours readings (R118): hours in tenths; hours, minutes, seconds, milliseconds. -/
def hoursReadings (lifetime : Nat) : List Byte :=
  beBytes 4 (lifetime / 360000) ++ beBytes 4 (lifetime / 3600000) ++ beBytes 1 (lifetime % 3600000 / 60000) ++
    beBytes 1 (lifetime % 60000 / 1000) ++ beBytes 2 (lifetime % 1000)

/-- The staged preset in READ_TALLY (R190). The spec states no value for its bytes when no preset is staged: they are free
values (log entry 13). -/
def stagedBytes (freeIndex : Nat) : Option StagedPreset → List Byte
  | some x => 1 :: (beBytes 6 x.lifetime ++ beBytes 4 x.starts ++ beBytes 1 x.crew)
  | none => 0 :: (List.range 11).map (Config.absentByte freeIndex)

/-- The qualify count in QUALIFYING and the run length in RUNNING (R117); both are 0 in IDLE. -/
def Tally.progress (t : Tally) : Nat :=
  match t.run with
  | .idle => 0
  | .qualifying => t.qualifyCount
  | .running => t.runLength

/-- The payload of READ_TALLY (R117, R190). -/
def tallyPayload (i : Fin 12) (s : State) : List Byte :=
  let t := s.entry i
  beBytes 1 i.val ++ t.config.bytes ++ flagByte (s.condition i) ++ [t.run.code s.tally.paused] ++
    beBytes 6 t.progress ++ beBytes 6 t.lifetime ++ hoursReadings t.lifetime ++ beBytes 4 t.starts ++
    beBytes 4 t.shiftPortion ++ beBytes 2 t.shiftStarts ++ beBytes 6 t.dueValue ++ flagByte t.duePending ++
    beBytes 1 ((if t.presetFlag then 1 else 0) + (if t.saturatedFlag then 2 else 0)) ++
    stagedBytes s.freeIndex t.staged

/-- READ_TALLY (R117). -/
def serveReadTally (p : Port) (args : List Byte) (s : State) : Answer :=
  match tallyIndex (argField args 0 1) with
  | none => .refuse .badIndex (argField args 0 1)
  | some i =>
    if (s.port p).readMask.getLsbD i.val then .accept { s with freeIndex := s.freeIndex + 1 } (tallyPayload i s)
    else .refuse .denied i.val

/-- The command READ_TALLY. -/
def execReadTally (p : Port) (rest : List Byte) (s : State) : Host.Outcome State Fault Refusal :=
  .next (takeRequest p 0x28 (exactly 1) (serveReadTally p) rest s)

end Sys2Proof.Machine
end

