-- ==== Sys2Proof/Machine/Trips.lean ====
section
/-!
DEFINITION. The trip unit (04_trip_bursts_first_out_and_annunciation.md): bursts (R61 to R65), the first-out latch and its
ranked list (R68 to R71), the annunciation table (R74), the shift counts (R77, R78), and the requests SET_BURST,
READ_FIRST_OUT and READ_ANNUNCIATION. RESET_FIRST_OUT and ACK_TRIPS, which are duty-bound, stand with the duty unit.
-/

namespace Sys2Proof.Machine

/-! ### Bursts -/

/-- The number of the next burst (R61): after 65,535 comes 1. -/
def nextBurst (last : Nat) : Nat := if last = count16Max then 1 else last + 1

/-- The 10 s limit of a burst (R64). -/
def burstLimit : Nat := msDuration 10000

/-- The trip unit when a POINT record is produced: it opens a burst (R61) or prolongs the open one (R63), and counts the
record (R77). -/
def TripUnit.onPointRecord (t : TripUnit) (elapsed : Nat) : TripUnit :=
  let quiet := elapsed + msDuration t.quietTime
  let t := { t with pointCount := bumpTo count16Max t.pointCount }
  match t.burst with
  | none =>
    { t with burst := some ⟨nextBurst t.lastBurst, quiet, elapsed + burstLimit⟩, lastBurst := nextBurst t.lastBurst }
  | some b => { t with burst := some { b with quietExpiry := quiet } }

/-- A POINT record produced (R51, stage 2; R61, R63). -/
def producePoint (n : Fin 32) (active : Bool) (cause : ChangeCause) (i : Instant) (outage : Bool) (s : State) : State :=
  produceAt i outage (.point n.val active cause) (s.withTrip (s.trip.onPointRecord s.elapsed))

/-- The offset of a ranked entry from the first-out instant, in µs, taken across dates (R71). An offset that does not fit the
signed field of 4 bytes has no stated value (log entry 12). -/
def rankOffset (entry first : Instant) : BitVec 32 :=
  if -2147483648 ≤ entry.minus first ∧ entry.minus first ≤ 2147483647 then BitVec.ofInt 32 (entry.minus first)
  else Config.unstatedOffset (entry.minus first)

/-- The first-out instant (R68): the change instant of the entry in place 1. -/
def TripUnit.firstOut (t : TripUnit) : Option Instant := t.ranked.head?.map (·.instant)

/-- The pairs of point and offset, in rank order (R71, R79). -/
def TripUnit.ranks (t : TripUnit) : List (Nat × BitVec 32) :=
  t.ranked.map fun e => (e.point, rankOffset e.instant (t.firstOut.getD .zero))

/-- The first-out made final at the close of its burst (R65, stage 1; R71). -/
def finaliseFirstOut (s : State) : State :=
  if s.trip.latch = .provisional then
    let s := s.withTrip { s.trip with latch := .final }
    raiseAtAll .firstOut
      (produce false (.firstOut (s.trip.firstOut.getD .zero) s.trip.overflow s.trip.ranks) s)
  else s

/-- The open burst closes (R65). -/
def closeBurst (s : State) : State :=
  match s.trip.burst with
  | none => s
  | some _ =>
    let s := finaliseFirstOut s
    handInput inputBurst false (s.withTrip { s.trip with burst := none })

/-- The quiet wait expires (R63; log entries 5 and 6). -/
def expireQuietWait (s : State) : State :=
  match s.trip.burst with
  | none => s
  | some b => if s.running && s.reached b.quietExpiry then closeBurst s else s

/-- The command QUIET_WAIT_EXPIRY (R63). -/
def execQuietWaitExpiry (s : State) : Host.Outcome State Fault Refusal := .next (expireQuietWait s)

/-- The 10 s limit expires (R64; log entries 5 and 6). -/
def expireBurstLimit (s : State) : State :=
  match s.trip.burst with
  | none => s
  | some b => if s.running && s.reached b.limitExpiry then closeBurst s else s

/-- The command BURST_LIMIT_EXPIRY (R64). -/
def execBurstLimitExpiry (s : State) : Host.Outcome State Fault Refusal := .next (expireBurstLimit s)

/-! ### The first-out latch -/

/-- The ranked list holds at most 16 entries (R70). -/
def rankRoom : Nat := 16

/-- An entry placed by change instant (R69): after every entry that is not later. -/
def rankInto (e : Ranked) : List Ranked → List Ranked
  | [] => [e]
  | h :: t => if h.instant.le e.instant then h :: rankInto e t else e :: h :: t

/-- An activation ranked in PROVISIONAL (R69, R70): its order of entry counts the activations before it (log entry 26). -/
def TripUnit.rank (t : TripUnit) (n : Nat) (i : Instant) : TripUnit :=
  { t with
    ranked := (rankInto ⟨n, i, t.ranked.length + t.overflow⟩ t.ranked).take rankRoom
    overflow := if t.ranked.length < rankRoom then t.overflow else bumpTo 255 t.overflow }

/-- The latch acts on a TRIP activation (R68, R69, R72). -/
def latchActivation (n : Nat) (i : Instant) (s : State) : State :=
  match s.trip.latch with
  | .armed =>
    let s := s.withTrip
      { s.trip with latch := .provisional, latchingBurst := s.burstNumber, ranked := [⟨n, i, 0⟩], overflow := 0 }
    handInput inputFirstOut true (raiseAtAll .firstOut s)
  | .provisional =>
    let t := s.trip.rank n i
    let newFirst := match s.trip.ranked with | [] => true | h :: _ => !h.instant.le i
    let s := s.withTrip t
    if newFirst then raiseAtAll .firstOut s else s
  | .final => s

/-! ### The annunciation table -/

/-- The move of an annunciation entry at a TRIP activation or return (R74). -/
def Annunciation.moved (a : Annunciation) (active : Bool) : Annunciation :=
  match active, a with
  | true, .normal => .activeUnack
  | true, .activeUnack => .activeUnack
  | true, .activeAck => .activeAck
  | true, .returnedUnack => .activeUnack
  | false, .normal => .normal
  | false, .activeUnack => .returnedUnack
  | false, .activeAck => .normal
  | false, .returnedUnack => .returnedUnack

/-- The annunciation entry of a point. -/
def TripUnit.entry (t : TripUnit) (n : Fin 32) : Annunciation := t.annunciation[n.val]

/-- The trip unit with another annunciation entry. -/
def TripUnit.withEntry (t : TripUnit) (n : Fin 32) (a : Annunciation) : TripUnit :=
  { t with annunciation := t.annunciation.set n.val a n.isLt }

/-- A change of a TRIP point handed to the trip unit (R51, stage 3; R74): the entry moves; an activation is counted (R77) and
the latch acts. -/
def takeTripChange (n : Fin 32) (active : Bool) (i : Instant) (s : State) : State :=
  let t := s.trip.withEntry n ((s.trip.entry n).moved active)
  if active then latchActivation n.val i (s.withTrip { t with tripCount := bumpTo count16Max t.tripCount })
  else s.withTrip t

/-- The points whose annunciation entry is not NORMAL, in ascending order, with their states (R78, R151). -/
def TripUnit.standing (t : TripUnit) : List (Nat × Annunciation) :=
  ((List.finRange 32).filter fun n => t.entry n != .normal).map fun n => (n.val, t.entry n)

/-! ### SET_BURST and the reads -/

/-- SET_BURST (R67). -/
def serveSetBurst (p : Port) (args : List Byte) (s : State) : Answer :=
  if (s.port p).rights.config then
    let quiet := clamp 50 5000 (argField args 0 2)
    .accept (s.withTrip { s.trip with quietTime := quiet }) (beBytes 2 quiet)
  else .refuse .denied 0

/-- The command SET_BURST. -/
def execSetBurst (p : Port) (rest : List Byte) (s : State) : Host.Outcome State Fault Refusal :=
  .next (takeRequest p 0x1A (exactly 2) (serveSetBurst p) rest s)

/-- The payload of READ_FIRST_OUT (R79, R190). -/
def firstOutPayload (s : State) : List Byte :=
  let t := s.trip
  [t.latch.code] ++ flagByte t.burst.isSome ++ beBytes 2 s.burstNumber ++ beBytes 2 t.lastBurst ++
    beBytes 2 t.latchingBurst ++ optInstantBytes t.firstOut ++ beBytes 1 t.ranked.length ++ beBytes 1 t.overflow ++
    t.ranks.flatMap rankBytes

/-- READ_FIRST_OUT (R79). -/
def serveReadFirstOut (_args : List Byte) (s : State) : Answer := .accept s (firstOutPayload s)

/-- The command READ_FIRST_OUT. -/
def execReadFirstOut (p : Port) (rest : List Byte) (s : State) : Host.Outcome State Fault Refusal :=
  .next (takeRequest p 0x18 (exactly 0) serveReadFirstOut rest s)

/-- The payload of READ_ANNUNCIATION (R80, R190). -/
def annunciationPayload (s : State) : List Byte :=
  s.trip.annunciation.toList.map (·.code) ++ beBytes 2 s.trip.tripCount ++ beBytes 2 s.trip.pointCount

/-- READ_ANNUNCIATION (R80). -/
def serveReadAnnunciation (_args : List Byte) (s : State) : Answer := .accept s (annunciationPayload s)

/-- The command READ_ANNUNCIATION. -/
def execReadAnnunciation (p : Port) (rest : List Byte) (s : State) : Host.Outcome State Fault Refusal :=
  .next (takeRequest p 0x19 (exactly 0) serveReadAnnunciation rest s)

end Sys2Proof.Machine
end

