-- ==== Sys2Proof/Machine/Points.lean ====
section
/-!
DEFINITION. The point unit (03_input_points.md): edges (R41), debounce (R43 to R45), chatter (R46 to R49), what a confirmed
change produces (R51), configuration (R52 to R56), READ_POINTS (R57), closing and restore actions (R58, R59).
-/

namespace Sys2Proof.Machine

/-- The logical level of a line seen through a polarity (R41): true is active. -/
def Polarity.level (p : Polarity) (high : Bool) : Bool :=
  match p with
  | .activeHigh => high
  | .activeLow => !high

/-- The present logical level of a point's line under its stored polarity (R41). -/
def State.lineActive (s : State) (n : Fin 32) : Bool := (s.point n).entry.polarity.level (s.lines.getLsbD n.val)

/-- The length of a point's chatter window in elapsed time (R46 to R48). -/
def Point.window (x : Point) : Nat := msDuration (x.entry.chatterWindow * 1000)

/-! ### Confirmed changes -/

/-- The entry of a point in the debounced state vector takes a state (R50), without the hand-over to the tally unit. -/
def setActive (n : Fin 32) (active : Bool) (s : State) : State := s.withPoint n { s.point n with active := active }

/-- A confirmed change that passes the chatter state machine (R51). The tally unit evaluates the handed change after the
POINT record of stage 2 and before the burst-open input (log entry 10). -/
def confirmChange (n : Fin 32) (active : Bool) (cause : ChangeCause) (i : Instant) (outage : Bool) (s : State) : State :=
  let s := setActive n active s
  match (s.point n).entry.mode with
  | .off => handInput n.val active s
  | .status => handInput n.val active s
  | .record => handInput inputBurst true (handInput n.val active (producePoint n active cause i outage s))
  | .trip =>
    takeTripChange n active i
      (handInput inputBurst true (handInput n.val active (producePoint n active cause i outage s)))

/-! ### Debounce and edges -/

/-- A debounce starts at an edge taken now (R43). -/
def startDebounce (n : Fin 32) (atRestore : Bool) (s : State) : State :=
  s.withPoint n
    { s.point n with debouncing := some ⟨s.now, s.elapsed + msDuration (s.point n).entry.debounce, atRestore⟩ }

/-- The debounce of a point goes back to idle (R43). -/
def cancelDebounce (n : Fin 32) (s : State) : State := s.withPoint n { s.point n with debouncing := none }

/-- The chatter state of a point becomes another. -/
def setChatter (n : Fin 32) (c : Chatter) (s : State) : State := s.withPoint n { s.point n with chatter := c }

/-- An edge of a point's line acts (R41, R43, R48): through the stability wait of a suppressed point, else through its
debounce. -/
def takeEdge (n : Fin 32) (s : State) : State :=
  let x := s.point n
  match x.chatter, x.debouncing with
  | .suppressed edges _, _ => setChatter n (.suppressed (bumpTo count16Max edges) (s.elapsed + x.window)) s
  | _, some _ => cancelDebounce n s
  | _, none => if s.lineActive n = x.active then s else startDebounce n false s

/-- The electrical level of a line as now sampled. A change is an edge where the point is watched: in RUN and not in mode OFF
(R41, R58). -/
def sampleLine (n : Fin 32) (high : Bool) (s : State) : State :=
  if s.lines.getLsbD n.val = high then s
  else
    let s := { s with lines := putBit s.lines n.val high }
    if s.running && (s.point n).entry.mode != .off then takeEdge n s else s

/-- The command POINT_EDGE (R41). -/
def execPointEdge (n : Fin 32) (high : Bool) (s : State) : Host.Outcome State Fault Refusal := .next (sampleLine n high s)

/-! ### Chatter -/

/-- A point is suppressed (R47): the change does not pass on. The count is the change count (log entry 16). -/
def suppressPoint (n : Fin 32) (count : Nat) (s : State) : State :=
  let s := produce false (.chatter n.val .suppressed count) s
  setChatter n (.suppressed 0 (s.elapsed + (s.point n).window)) s

/-- A confirmed change counted by the chatter state machine (R46): it passes on, or suppresses the point. -/
def countChange (n : Fin 32) (active : Bool) (cause : ChangeCause) (i : Instant) (outage : Bool) (s : State) : State :=
  let x := s.point n
  if x.entry.chatterLimit = 0 then confirmChange n active cause i outage s
  else match x.chatter with
    | .clear => confirmChange n active cause i outage (setChatter n (.counting 1 (s.elapsed + x.window)) s)
    | .counting count expiry =>
      if count + 1 ≤ x.entry.chatterLimit then
        confirmChange n active cause i outage (setChatter n (.counting (count + 1) expiry) s)
      else suppressPoint n (count + 1) s
    | .suppressed _ _ => s

/-- The debounce of a point expires (R44): the change is confirmed with the instant of its starting edge. A debounce that
began at a restore gives cause AFTER_RESTART and the OUTAGE flag (R59). Log entries 5 and 6. -/
def expireDebounce (n : Fin 32) (s : State) : State :=
  match (s.point n).debouncing with
  | none => s
  | some d =>
    if s.running && s.reached d.expiry then
      countChange n (!(s.point n).active) (if d.atRestore then .afterRestart else .change) d.start d.atRestore
        (cancelDebounce n s)
    else s

/-- The command DEBOUNCE_EXPIRY (R44). -/
def execDebounceExpiry (n : Fin 32) (s : State) : Host.Outcome State Fault Refusal := .next (expireDebounce n s)

/-- The chatter window of a COUNTING point expires (R49; log entries 5 and 6). -/
def expireWindow (n : Fin 32) (s : State) : State :=
  match (s.point n).chatter with
  | .counting _ expiry => if s.running && s.reached expiry then setChatter n .clear s else s
  | _ => s

/-- The command CHATTER_WINDOW_EXPIRY (R49). -/
def execChatterWindowExpiry (n : Fin 32) (s : State) : Host.Outcome State Fault Refusal := .next (expireWindow n s)

/-- A suppressed point is released (R48): a CHATTER record, and an AFTER_CHATTER change where its line differs from the frozen
state. -/
def releasePoint (n : Fin 32) (edges : Nat) (s : State) : State :=
  let s := setChatter n .clear (produce false (.chatter n.val .released edges) s)
  if s.lineActive n = (s.point n).active then s
  else confirmChange n (s.lineActive n) .afterChatter s.now false s

/-- The stability wait of a suppressed point expires (R48; log entries 5 and 6). -/
def expireStability (n : Fin 32) (s : State) : State :=
  match (s.point n).chatter with
  | .suppressed edges expiry => if s.running && s.reached expiry then releasePoint n edges s else s
  | _ => s

/-- The command STABILITY_WAIT_EXPIRY (R48). -/
def execStabilityWaitExpiry (n : Fin 32) (s : State) : Host.Outcome State Fault Refusal := .next (expireStability n s)

/-! ### Rewrites -/

/-- A debounce moved by a rewrite amount. -/
def Debounce.moved (d : Debounce) (amount : Int) : Debounce := { d with start := d.start.addUs amount }

/-- A rewrite of station time moves the starting instant of a debounce in progress (R45). DEDUCED: a debounce is in progress until
its expiry is taken (R44), also at the tick of the expiry (log entry 32). -/
def moveDebounce (amount : Int) (n : Fin 32) (s : State) : State :=
  match (s.point n).debouncing with
  | none => s
  | some d => s.withPoint n { s.point n with debouncing := some (d.moved amount) }

/-! ### Configuration -/

/-- The CHATTER record of a suppressed point whose running state is discarded (R55, R59). -/
def reportRelease (outage : Bool) (n : Fin 32) (s : State) : State :=
  match (s.point n).chatter with
  | .suppressed edges _ => produce outage (.chatter n.val .released edges) s
  | _ => s

/-- A point taken fresh at a change of mode (R55). -/
def takeFresh (n : Fin 32) (e : PointEntry) (s : State) : State :=
  let s := reportRelease false n s
  let active := e.mode != .off && e.polarity.level (s.lines.getLsbD n.val)
  handInput n.val active (s.withPoint n ⟨e, active, none, .clear⟩)

/-- A change of polarity that leaves the mode (R56): any debounce is cancelled and the new level acts as an edge taken now. In
OFF it has no effect beyond the stored field. -/
def invertLine (n : Fin 32) (s : State) : State :=
  if (s.point n).entry.mode = .off then s else takeEdge n (cancelDebounce n s)

/-- A chatter limit of 0 written (R56): a COUNTING point returns to CLEAR, a SUPPRESSED point is released. -/
def stopChatter (n : Fin 32) (s : State) : State :=
  match (s.point n).chatter with
  | .clear => s
  | .counting _ _ => setChatter n .clear s
  | .suppressed edges _ => releasePoint n edges s

/-- An entry written that leaves the mode (R56): the polarity acts before the chatter limit (log entry 18). -/
def applySettings (n : Fin 32) (e : PointEntry) (s : State) : State :=
  let old := (s.point n).entry
  let s := s.withPoint n { s.point n with entry := e }
  let s := if e.polarity = old.polarity then s else invertLine n s
  if e.chatterLimit = 0 then stopChatter n s else s

/-- An entry written to a point (R52, R55, R56). -/
def writeEntry (n : Fin 32) (e : PointEntry) (s : State) : State :=
  if e.mode = (s.point n).entry.mode then applySettings n e s else takeFresh n e s

/-- The first-out is latched: point configuration is frozen (R54). -/
def State.frozen (s : State) : Bool := s.trip.latch != .armed

/-- A mode would take the point out of TRIP while its annunciation entry is not NORMAL (R52, R53). -/
def State.holdsTrip (s : State) (n : Fin 32) (mode : PointMode) : Bool :=
  (s.point n).entry.mode == .trip && mode != .trip && s.trip.entry n != .normal

/-- SET_POINT (R52). Where neither the mode nor the polarity names a choice, the detail is the mode: DESIGN CHOICE (log entry
35). -/
def serveSetPoint (p : Port) (args : List Byte) (s : State) : Answer :=
  if (s.port p).rights.config then
    match pointIndex (argField args 0 1) with
    | none => .refuse .badIndex (argField args 0 1)
    | some n =>
      match pointModeOf (argField args 1 1), polarityOf (argField args 2 1) with
      | none, _ => .refuse .range (argField args 1 1)
      | _, none => .refuse .range (argField args 2 1)
      | some mode, some polarity =>
        if s.frozen then .refuse .frozen n.val
        else if s.holdsTrip n mode then .refuse .state n.val
        else
          let e : PointEntry :=
            ⟨mode, polarity, clampDebounce (argField args 3 2), clampChatterLimit (argField args 5 2),
              clampChatterWindow (argField args 7 2)⟩
          .accept (writeEntry n e s) (beBytes 1 n.val ++ e.bytes)
  else .refuse .denied 0

/-- The command SET_POINT. -/
def execSetPoint (p : Port) (rest : List Byte) (s : State) : Host.Outcome State Fault Refusal :=
  .next (takeRequest p 0x11 (exactly 9) (serveSetPoint p) rest s)

/-- A field of a point entry as SET_POINTS writes it (R53). -/
inductive FieldWrite where
  | mode (m : PointMode)
  | polarity (p : Polarity)
  | debounce (n : Nat)
  | chatterLimit (n : Nat)
  | chatterWindow (n : Nat)
  deriving DecidableEq, Repr

/-- The field and the value as stored that a selector and a value name (R53, R42): none where the selector names no field, or
names a choice and the value none of its choices. -/
def fieldWriteOf (selector value : Nat) : Option FieldWrite :=
  match selector with
  | 0 => (pointModeOf value).map .mode
  | 1 => (polarityOf value).map .polarity
  | 2 => some (.debounce (clampDebounce value))
  | 3 => some (.chatterLimit (clampChatterLimit value))
  | 4 => some (.chatterWindow (clampChatterWindow value))
  | _ => none

/-- The entry with the field written. -/
def FieldWrite.into (w : FieldWrite) (e : PointEntry) : PointEntry :=
  match w with
  | .mode m => { e with mode := m }
  | .polarity p => { e with polarity := p }
  | .debounce n => { e with debounce := n }
  | .chatterLimit n => { e with chatterLimit := n }
  | .chatterWindow n => { e with chatterWindow := n }

/-- The stored value in the response (R53, R190). -/
def FieldWrite.value : FieldWrite → Nat
  | .mode m => m.code.toNat
  | .polarity p => p.code.toNat
  | .debounce n => n
  | .chatterLimit n => n
  | .chatterWindow n => n

/-- The field written to one point of the mask. -/
def writeField (w : FieldWrite) (mask : BitVec 32) (n : Fin 32) (s : State) : State :=
  if mask.getLsbD n.val then writeEntry n (w.into (s.point n).entry) s else s

/-- The lowest point of the mask that a mode write would take out of TRIP with a standing trip (R53, check 5). -/
def firstHeldTrip (w : FieldWrite) (mask : BitVec 32) (s : State) : Option (Fin 32) :=
  match w with
  | .mode m => (List.finRange 32).find? fun n => mask.getLsbD n.val && s.holdsTrip n m
  | _ => none

/-- The lowest point of a mask, 0 for an empty one (R53, check 4). -/
def lowestPoint (mask : BitVec 32) : Nat := ((List.range 32).find? fun k => mask.getLsbD k).getD 0

/-- SET_POINTS (R53). -/
def serveSetPoints (p : Port) (args : List Byte) (s : State) : Answer :=
  if (s.port p).rights.config then
    let mask := BitVec.ofNat 32 (argField args 0 4)
    let selector := argField args 4 1
    if 4 < selector then .refuse .range selector
    else
      match fieldWriteOf selector (argField args 5 2) with
      | none => .refuse .range (argField args 5 2)
      | some w =>
        if s.frozen then .refuse .frozen (lowestPoint mask)
        else
          match firstHeldTrip w mask s with
          | some n => .refuse .state n.val
          | none =>
            .accept (atAllPoints (writeField w mask) s) (beBytes 4 mask.toNat ++ beBytes 1 selector ++ beBytes 2 w.value)
  else .refuse .denied 0

/-- The command SET_POINTS. -/
def execSetPoints (p : Port) (rest : List Byte) (s : State) : Host.Outcome State Fault Refusal :=
  .next (takeRequest p 0x12 (exactly 7) (serveSetPoints p) rest s)

/-! ### READ_POINTS -/

/-- The chatter states of all points, 2 bits each, point 0 in the lowest bits (R190). -/
def State.chatterStates (s : State) : Nat :=
  (List.finRange 32).foldl (fun v n => v + (s.point n).chatter.code * 4 ^ n.val) 0

/-- The entries of a range of points. -/
def State.entryRange (s : State) (first count : Nat) : List Byte :=
  ((List.finRange 32).filter fun n => decide (first ≤ n.val) && decide (n.val < first + count)).flatMap
    fun n => (s.point n).entry.bytes

/-- READ_POINTS (R57). -/
def serveReadPoints (args : List Byte) (s : State) : Answer :=
  let first := argField args 0 1
  if first ≤ 31 then
    let count := min (clamp 1 32 (argField args 1 1)) (32 - first)
    .accept s
      (beBytes 1 first ++ beBytes 1 count ++ s.entryRange first count ++ beBytes 4 s.stateVector.toNat ++
        beBytes 8 s.chatterStates)
  else .refuse .badIndex 0

/-- The command READ_POINTS. -/
def execReadPoints (p : Port) (rest : List Byte) (s : State) : Host.Outcome State Fault Refusal :=
  .next (takeRequest p 0x10 (exactly 2) serveReadPoints rest s)

/-! ### Closing and restore actions -/

/-- The closing action of the point unit (R58): every debounce is cancelled; chatter states are held. -/
def pointClosing (s : State) : State := atAllPoints cancelDebounce s

/-- A point at the restore action (R59). -/
def restorePoint (n : Fin 32) (s : State) : State :=
  if (s.point n).entry.mode = .off then s
  else
    let s := setChatter n .clear (reportRelease true n s)
    if s.lineActive n = (s.point n).active then s else startDebounce n true s

/-- The restore action of the point unit (R59). -/
def pointRestore (s : State) : State := atAllPoints restorePoint s

end Sys2Proof.Machine
end

