-- ==== Sys2Proof/Machine/Duty.lean ====
section
/-!
DEFINITION. The duty unit (07_rota_and_duty_handover.md) and the writing of the shift book (08_the_shift_book.md): slots
(R124, R128), the check of deadlines and slots (R127 to R130, R137 to R139), the requests of the exchange (R132 to R136),
duty-bound authority (R142), and the duty-bound requests ACK_TRIPS, RESET_FIRST_OUT and PRESET_TALLY.
-/

namespace Sys2Proof.Machine

/-! ### Slots -/

/-- The slot instant of a slot on a date (R124). -/
def Slot.onDate (x : Slot) (date : Nat) : Instant := ⟨date, x.minute * 60000, 0⟩

/-- The date before a date: the date before 0 is 65,535 (R124). -/
def dateBefore (date : Nat) : Nat := (date + 65535) % dateCount

/-- The slots of a rota with their numbers. -/
def numbered (rota : List Slot) : List (Nat × Slot) := (List.range rota.length).zip rota

/-- The most recent slot instant at or before an instant, with its slot (R124): the latest on the same date, else the last
slot on the preceding date. An empty rota has none. -/
def mostRecentSlot (rota : List Slot) (i : Instant) : Option (Instant × Nat × Slot) :=
  match ((numbered rota).filter fun x => decide (x.2.minute * 60000 ≤ i.ms)).getLast? with
  | some x => some (x.2.onDate i.date, x)
  | none => (numbered rota).getLast?.map fun x => (x.2.onDate (dateBefore i.date), x)

/-- How many instants of one slot lie strictly between an instant and one `span` µs after it on the circle (R128). -/
def Slot.between (x : Slot) (served : Instant) (span : Nat) : Nat :=
  let dayUs := dayMs * 1000
  let ahead := (x.minute * 60000 * 1000 + dayUs - served.toUs % dayUs) % dayUs
  let first := if ahead = 0 then dayUs else ahead
  if first < span then (span - 1 - first) / dayUs + 1 else 0

/-- The skipped count (R128): the slot instants strictly between the last served one and the one falling due, stopping at
255. -/
def skippedCount (rota : List Slot) (served due : Instant) : Nat :=
  min 255 ((rota.map fun x => x.between served (due.circleFrom served)).sum)

/-! ### Records -/

/-- A HANDOVER record (R131), with the latched HANDOVER notice at all ports. -/
def produceHandover (outage : Bool) (phase : HandoverPhase) (outgoing incoming : Nat) (slot : Option Nat)
    (reoffers skipped : Nat) (s : State) : State :=
  raiseAtAll .handover (produce outage (.handover phase outgoing incoming slot reoffers skipped) s)

/-- A HANDOVER record that carries the duty crew, the expected crew, the current slot and the re-offers used as held (R131). -/
def reportHandover (outage : Bool) (phase : HandoverPhase) (skipped : Nat) (s : State) : State :=
  produceHandover outage phase s.duty.crew s.duty.handover.expected s.duty.handover.slot s.duty.handover.reoffers skipped s

/-- The duty unit with other handover fields. -/
def State.withHandover (s : State) (h : HandoverFields) : State := s.withDuty { s.duty with handover := h }

/-- A change of the duty-held input handed to the tally unit (R102, R131). -/
def handDutyHeld (s : State) : State := handInput inputDuty (s.duty.state != .vacant) s

/-! ### The rota -/

/-- The pending rota applied (R126). -/
def applyRota (outage : Bool) (s : State) : State :=
  match s.duty.pendingRota with
  | none => s
  | some r =>
    produce outage (.rota r.length)
      (s.withDuty
        { s.duty with rota := r, pendingRota := none, lastServed := (mostRecentSlot r s.now).map (·.1) })

/-! ### The check -/

/-- The release deadline passes in DUE (R137). -/
def expireRelease (outage : Bool) (s : State) : State :=
  match s.duty.state, s.duty.handover.releaseDeadline with
  | .due, some d =>
    if s.now.atOrAfter d then
      reportHandover outage .overdue 0 (s.withHandover { s.duty.handover with overdue := true, releaseDeadline := none })
    else s
  | _, _ => s

/-- The handover is re-offered (R138). -/
def reoffer (outage : Bool) (s : State) : State :=
  reportHandover outage .reoffered 0
    (s.withHandover
      { s.duty.handover with
        reoffers := s.duty.handover.reoffers + 1
        acceptDeadline := some (s.now.dropUs.addMs (s.duty.settings.acceptWindow * 60000)) })

/-- The handover lapses (R139). At a lapse into VACANT the duty-held input is handed over after the records of the event
(R131; log entry 11). -/
def lapse (outage : Bool) (s : State) : State :=
  let h := s.duty.handover
  match s.duty.settings.lapse with
  | .revert =>
    let s := produceHandover outage .lapsedRevert s.duty.crew s.duty.crew h.slot h.reoffers 0 s
    s.withDuty { s.duty with state := .onDuty, handover := .clear }
  | .standing =>
    let crew := s.duty.settings.standingCrew
    let s := produceHandover outage .lapsedStanding s.duty.crew crew h.slot h.reoffers 0 s
    if crew = 0 then
      handDutyHeld
        (applyRota outage (s.withDuty { s.duty with state := .vacant, crew := 0, port := none, handover := .clear }))
    else s.withDuty { s.duty with state := .onDuty, crew := crew, port := some .a, handover := .clear }

/-- The accept deadline passes in RELEASED: a re-offer or a lapse (R138, R139). -/
def expireAccept (outage : Bool) (s : State) : State :=
  match s.duty.state, s.duty.handover.acceptDeadline with
  | .released, some d =>
    if s.now.atOrAfter d then
      if s.duty.handover.reoffers < s.duty.settings.reofferLimit then reoffer outage s else lapse outage s
    else s
  | _, _ => s

/-- A slot that falls due acts by state (R128 to R130): `due` is its instant, `k` its number, `x` the slot, `skipped` the
skipped count. -/
def slotFalls (outage : Bool) (due : Instant) (k : Nat) (x : Slot) (skipped : Nat) (s : State) : State :=
  let s := s.withDuty { s.duty with lastServed := some due }
  let deadline := due.addMs (s.duty.settings.releaseWindow * 60000)
  match s.duty.state with
  | .vacant => s
  | .onDuty =>
    let s := s.withDuty { s.duty with state := .due, handover := ⟨some k, x.crew, some deadline, none, false, 0⟩ }
    let s := reportHandover outage .due skipped s
    if skipped = 0 then s else reportHandover outage .skipped skipped s
  | .due =>
    reportHandover outage .skipped skipped
      (s.withHandover { s.duty.handover with slot := some k, expected := x.crew, releaseDeadline := some deadline })
  | .released =>
    reportHandover outage .skipped skipped
      (s.withHandover { s.duty.handover with slot := some k, expected := x.crew })

/-- The slot stage of a check (R128). -/
def checkSlots (outage : Bool) (s : State) : State :=
  match mostRecentSlot s.duty.rota s.now with
  | none => s
  | some (due, k, x) =>
    match s.duty.lastServed with
    | none => s.withDuty { s.duty with lastServed := some due }
    | some served =>
      if due.laterThan served then slotFalls outage due k x (skippedCount s.duty.rota served due) s else s

/-- A check of the duty unit (R127): deadlines, then slots, then a release deadline that the slots set and the clock has
reached. No check is made in BACKUP (R123). -/
def dutyCheck (outage : Bool) (s : State) : State :=
  if s.running then
    let s := expireAccept outage (expireRelease outage s)
    if s.time.quality = .unset then s else expireRelease outage (checkSlots outage s)
  else s

/-- The command SLOT_DUE (R128): the check of R127 at the tick of a millisecond boundary, so that a deadline that has passed
goes first (log entries 5 and 6). -/
def execSlotDue (s : State) : Host.Outcome State Fault Refusal := .next (if s.atBoundary then dutyCheck false s else s)

/-- The command RELEASE_DEADLINE_EXPIRY (R137; log entries 5 and 6). -/
def execReleaseDeadlineExpiry (s : State) : Host.Outcome State Fault Refusal :=
  .next (if s.running && s.atBoundary then expireRelease false s else s)

/-- The command ACCEPT_DEADLINE_EXPIRY (R138, R139; log entries 5 and 6). -/
def execAcceptDeadlineExpiry (s : State) : Host.Outcome State Fault Refusal :=
  .next (if s.running && s.atBoundary then expireAccept false s else s)

/-! ### Authority -/

/-- The crew is one of the crews 1 to 15. -/
def isCrew (crew : Nat) : Bool := decide (1 ≤ crew) && decide (crew ≤ 15)

/-- The duty-bound check (R142): the refusal, or none where the request passes. -/
def dutyBound (p : Port) (crew : Nat) (s : State) : Option (RefusalCode × Nat) :=
  if !(s.port p).rights.duty then some (.denied, 0)
  else if !isCrew crew then some (.range, crew)
  else if s.duty.state = .vacant ∨ s.duty.state = .released then some (.state, s.duty.state.code)
  else if s.duty.port ≠ some p ∨ s.duty.crew ≠ crew then some (.notDuty, s.duty.crew)
  else none

/-! ### SET_ROTA -/

/-- A slot whose start minute or expected crew is out of range (R125, check 3). -/
def Slot.outOfRange (x : Slot) : Bool := decide (1439 < x.minute) || decide (15 < x.crew)

/-- The first slot that is out of range, else the first whose start minute is not above that of the slot before it (R125,
check 3; log entry 14). -/
def badSlot (slots : List Slot) : Option Nat :=
  match slots.findIdx? (·.outOfRange) with
  | some k => some k
  | none => ((slots.zip slots.tail).findIdx? fun x => decide (x.2.minute ≤ x.1.minute)).map (· + 1)

/-- The authority check of SET_ROTA (R125, check 1). -/
def rotaAuthority (p : Port) (crew : Nat) (s : State) : Option (RefusalCode × Nat) :=
  if s.duty.state = .vacant then if (s.port p).rights.config then none else some (.denied, 0)
  else dutyBound p crew s

/-- SET_ROTA (R125). -/
def serveSetRota (p : Port) (args : List Byte) (s : State) : Answer :=
  match rotaAuthority p (argField args 0 1) s with
  | some (code, detail) => .refuse code detail
  | none =>
    let k := argField args 1 1
    if 6 < k then .refuse .badIndex k
    else if args.length ≠ 2 + 3 * k then .refuse .frame args.length
    else
      match badSlot (slotsOf args k) with
      | some j => .refuse .range j
      | none =>
        let stored := s.withDuty { s.duty with pendingRota := some (slotsOf args k) }
        if s.duty.state = .vacant then .accept (applyRota false stored) (beBytes 1 k ++ flagByte false)
        else .accept stored (beBytes 1 k ++ flagByte true)

/-- The command SET_ROTA: an argument length below 2 is refused with FRAME (R170, R188). -/
def execSetRota (p : Port) (rest : List Byte) (s : State) : Host.Outcome State Fault Refusal :=
  .next (takeRequest p 0x31 (fun len => decide (2 ≤ len)) (serveSetRota p) rest s)

/-! ### The snapshot and the shift book -/

/-- The tally block of a tally in a shift book record (R119, R148). -/
def Tally.bookBlock (t : Tally) : BookTally :=
  ⟨t.shiftPortion, t.shiftStarts, t.lifetime, t.presetFlag, t.saturatedFlag⟩

/-- The shift values of a tally reset in the same event (R119). -/
def resetShift (i : Fin 12) (s : State) : State :=
  s.withEntry i
    { s.entry i with shiftPortion := 0, shiftStarts := 0, presetFlag := false, saturatedFlag := false }

/-- The handover number after a number: after 65,535 comes 1 (R149). -/
def nextHandoverNumber (n : Nat) : Nat := if n = count16Max then 1 else n + 1

/-- The book with a record placed at age 0, the one at age 7 dropped when it holds 8 (R149), and the current shift start
moved to the record's shift end (R148). -/
def ShiftBook.write (b : ShiftBook) (r : BookRecord) : ShiftBook :=
  { records := (r :: b.records).take 8, nextNumber := nextHandoverNumber b.nextNumber, shiftStart := r.shiftEnd }

/-- The record of a snapshot (R148, R151). -/
def State.bookRecord (s : State) (outgoing incoming : Nat) (h : HandoverFields) : BookRecord :=
  { number := s.book.nextNumber, shiftStart := s.book.shiftStart, shiftEnd := s.now, outgoing := outgoing,
    incoming := incoming, slot := h.slot, reoffers := h.reoffers, overdue := h.overdue, trips := s.trip.tripCount,
    points := s.trip.pointCount, latch := s.trip.latch, standing := s.trip.standing,
    tallies := s.tally.entries.toList.map (·.bookBlock) }

/-- The snapshot at a take or an acceptance (R132, R133, stage 2; R78, R119, R148). -/
def snapshot (outgoing incoming : Nat) (h : HandoverFields) (s : State) : State :=
  let s := s.withBook (s.book.write (s.bookRecord outgoing incoming h))
  let s := s.withTrip { s.trip with tripCount := 0, pointCount := 0 }
  atAllTallies resetShift s

/-! ### The exchange -/

/-- The duty unit with a crew on duty at a port, in ON_DUTY, handover fields cleared (R132, R133, stage 3). -/
def DutyUnit.held (d : DutyUnit) (crew : Nat) (p : Port) : DutyUnit :=
  { d with state := .onDuty, crew := crew, port := some p, handover := .clear }

/-- A vacant duty is taken (R132). -/
def takeDuty (p : Port) (crew : Nat) (s : State) : State :=
  let s := produceHandover false .taken 0 crew none 0 0 s
  let s := snapshot 0 crew .clear s
  handDutyHeld (s.withDuty (s.duty.held crew p))

/-- A released handover is accepted (R133). -/
def acceptHandover (p : Port) (crew : Nat) (s : State) : State :=
  let h := s.duty.handover
  let s := produceHandover false .accepted s.duty.crew crew h.slot h.reoffers 0 s
  let s := snapshot s.duty.crew crew h s
  applyRota false (s.withDuty { s.duty.held crew p with relieved := some ⟨s.elapsed, s.duty.port, s.duty.crew⟩ })

/-- The payload of ACCEPT_DUTY: state, duty crew, duty port (R190). -/
def dutyPayload (s : State) : List Byte := beBytes 1 s.duty.state.code ++ beBytes 1 s.duty.crew ++ optPortByte s.duty.port

/-- ACCEPT_DUTY (R132, R133). -/
def serveAcceptDuty (p : Port) (args : List Byte) (s : State) : Answer :=
  let crew := argField args 0 1
  if !(s.port p).rights.duty then .refuse .denied 0
  else if !isCrew crew then .refuse .range crew
  else
    match s.duty.state with
    | .vacant => let t := takeDuty p crew s; .accept t (dutyPayload t)
    | .released =>
      if crew = s.duty.crew ∨ (s.duty.handover.expected ≠ 0 ∧ crew ≠ s.duty.handover.expected) then
        .refuse .crew s.duty.handover.expected
      else let t := acceptHandover p crew s; .accept t (dutyPayload t)
    | _ => .refuse .state s.duty.state.code

/-- The command ACCEPT_DUTY. -/
def execAcceptDuty (p : Port) (rest : List Byte) (s : State) : Host.Outcome State Fault Refusal :=
  .next (takeRequest p 0x32 (exactly 1) (serveAcceptDuty p) rest s)

/-- OPEN_HANDOVER (R134). -/
def serveOpenHandover (p : Port) (args : List Byte) (s : State) : Answer :=
  match dutyBound p (argField args 0 1) s with
  | some (code, detail) => .refuse code detail
  | none =>
    if s.duty.state = .onDuty then
      let deadline := s.now.dropUs.addMs (s.duty.settings.releaseWindow * 60000)
      let t := s.withDuty { s.duty with state := .due, handover := ⟨none, 0, some deadline, none, false, 0⟩ }
      .accept (produceHandover false .opened s.duty.crew 0 none 0 0 t) (beBytes 1 DutyState.due.code ++ instantBytes deadline)
    else .refuse .state 0

/-- The command OPEN_HANDOVER. -/
def execOpenHandover (p : Port) (rest : List Byte) (s : State) : Host.Outcome State Fault Refusal :=
  .next (takeRequest p 0x33 (exactly 1) (serveOpenHandover p) rest s)

/-- The checks that RELEASE_DUTY and RECLAIM_DUTY share (R135, R136); their rules name no detail, so it is 0 (R171). -/
def holderCheck (p : Port) (crew : Nat) (wanted : DutyState) (s : State) : Option RefusalCode :=
  if !(s.port p).rights.duty then some .denied
  else if !isCrew crew then some .range
  else if s.duty.state = .vacant then some .state
  else if s.duty.port ≠ some p ∨ s.duty.crew ≠ crew then some .notDuty
  else if s.duty.state ≠ wanted then some .state
  else none

/-- RELEASE_DUTY (R135). -/
def serveReleaseDuty (p : Port) (args : List Byte) (s : State) : Answer :=
  match holderCheck p (argField args 0 1) .due s with
  | some code => .refuse code 0
  | none =>
    let deadline := s.now.dropUs.addMs (s.duty.settings.acceptWindow * 60000)
    let t := s.withDuty
      { s.duty with state := .released, handover := { s.duty.handover with acceptDeadline := some deadline } }
    .accept (reportHandover false .released 0 t) (beBytes 1 DutyState.released.code ++ instantBytes deadline)

/-- The command RELEASE_DUTY. -/
def execReleaseDuty (p : Port) (rest : List Byte) (s : State) : Host.Outcome State Fault Refusal :=
  .next (takeRequest p 0x34 (exactly 1) (serveReleaseDuty p) rest s)

/-- An acceptance of this tick has relieved this crew at this port (R140). -/
def State.justRelieved (s : State) (p : Port) (crew : Nat) : Bool := s.duty.relieved == some ⟨s.elapsed, some p, crew⟩

/-- The checks of RECLAIM_DUTY (R136), with STATE for the crew that an acceptance of the same tick has relieved, as the last row
of R140 gives it. DEDUCED: R136 has NOT_DUTY for such a crew, and the rule of the pair goes before it (log entry 34). -/
def reclaimCheck (p : Port) (crew : Nat) (s : State) : Option RefusalCode :=
  match holderCheck p crew .released s with
  | some .notDuty => some (if s.justRelieved p crew then .state else .notDuty)
  | answer => answer

/-- RECLAIM_DUTY (R136). -/
def serveReclaimDuty (p : Port) (args : List Byte) (s : State) : Answer :=
  match reclaimCheck p (argField args 0 1) s with
  | some code => .refuse code 0
  | none =>
    let t := s.withDuty { s.duty with state := .due, handover := { s.duty.handover with acceptDeadline := none } }
    .accept (reportHandover false .reclaimed 0 t) (beBytes 1 DutyState.due.code)

/-- The command RECLAIM_DUTY. -/
def execReclaimDuty (p : Port) (rest : List Byte) (s : State) : Host.Outcome State Fault Refusal :=
  .next (takeRequest p 0x35 (exactly 1) (serveReclaimDuty p) rest s)

/-! ### Settings and reading -/

/-- SET_HANDOVER (R144). -/
def serveSetHandover (p : Port) (args : List Byte) (s : State) : Answer :=
  if (s.port p).rights.config then
    match lapseActionOf (argField args 3 1) with
    | none => .refuse .range (argField args 3 1)
    | some action =>
      if 15 < argField args 4 1 then .refuse .range (argField args 4 1)
      else
        let settings : HandoverSettings :=
          ⟨clamp 1 240 (argField args 0 1), clamp 1 30 (argField args 1 1), clamp 0 7 (argField args 2 1), action,
            argField args 4 1⟩
        .accept (s.withDuty { s.duty with settings := settings }) settings.bytes
  else .refuse .denied 0

/-- The command SET_HANDOVER. -/
def execSetHandover (p : Port) (rest : List Byte) (s : State) : Host.Outcome State Fault Refusal :=
  .next (takeRequest p 0x36 (exactly 5) (serveSetHandover p) rest s)

/-- The payload of READ_DUTY (R145, R190). The count byte of an absent pending rota is 0: DESIGN CHOICE (log entry 37). -/
def readDutyPayload (s : State) : List Byte :=
  let d := s.duty
  dutyPayload s ++ slotByte d.handover.slot ++ beBytes 1 d.handover.expected ++
    optInstantBytes d.handover.releaseDeadline ++ optInstantBytes d.handover.acceptDeadline ++
    flagByte d.handover.overdue ++ beBytes 1 d.handover.reoffers ++ rotaBytes d.rota ++
    flagByte d.pendingRota.isSome ++ rotaBytes (d.pendingRota.getD []) ++ optInstantBytes d.lastServed ++ d.settings.bytes

/-- READ_DUTY (R145). -/
def serveReadDuty (_args : List Byte) (s : State) : Answer := .accept s (readDutyPayload s)

/-- The command READ_DUTY. -/
def execReadDuty (p : Port) (rest : List Byte) (s : State) : Host.Outcome State Fault Refusal :=
  .next (takeRequest p 0x30 (exactly 0) serveReadDuty rest s)

/-! ### The duty-bound requests of the trip unit and the tally unit -/

/-- RESET_FIRST_OUT (R73). -/
def serveResetFirstOut (p : Port) (args : List Byte) (s : State) : Answer :=
  match dutyBound p (argField args 0 1) s with
  | some (code, detail) => .refuse code detail
  | none =>
    if s.trip.burst.isSome then .refuse .busy s.burstNumber
    else
      match s.trip.latch with
      | .final =>
        let t := s.withTrip { s.trip with latch := .armed, latchingBurst := 0, ranked := [], overflow := 0 }
        .accept (handInput inputFirstOut false (produce false (.firstOutReset (argField args 0 1)) t)) [Latch.armed.code]
      | latch => .accept s [latch.code]

/-- The command RESET_FIRST_OUT. -/
def execResetFirstOut (p : Port) (rest : List Byte) (s : State) : Host.Outcome State Fault Refusal :=
  .next (takeRequest p 0x1B (exactly 1) (serveResetFirstOut p) rest s)

/-- An annunciation entry acknowledged (R75). -/
def Annunciation.acknowledged : Annunciation → Annunciation
  | .activeUnack => .activeAck
  | .returnedUnack => .normal
  | a => a

/-- The selected points whose entries an acknowledgement changes, in ascending order (R75). -/
def TripUnit.toAcknowledge (t : TripUnit) (mask : BitVec 32) : List (Fin 32) :=
  (List.finRange 32).filter fun n => mask.getLsbD n.val && (t.entry n).acknowledged != t.entry n

/-- The trip unit with the entry of a point acknowledged. -/
def TripUnit.acknowledge (t : TripUnit) (n : Fin 32) : TripUnit := t.withEntry n (t.entry n).acknowledged

/-- A set of points as a mask (R187). -/
def pointMask (points : List (Fin 32)) : BitVec 32 := points.foldl (fun v n => putBit v n.val true) 0

/-- The points that ACK_TRIPS selects (R75): with the all flag set, every point; the mask is not examined then. -/
def ackSelection (args : List Byte) : BitVec 32 :=
  if onOff (argField args 1 1) then BitVec.allOnes 32 else BitVec.ofNat 32 (argField args 2 4)

/-- ACK_TRIPS (R75). -/
def serveAckTrips (p : Port) (args : List Byte) (s : State) : Answer :=
  match dutyBound p (argField args 0 1) s with
  | some (code, detail) => .refuse code detail
  | none =>
    let changed := s.trip.toAcknowledge (ackSelection args)
    let t := s.withTrip (changed.foldl TripUnit.acknowledge s.trip)
    .accept
      (if changed.isEmpty then t else produce false (.ack (argField args 0 1) p (changed.map (·.val))) t)
      (beBytes 4 (pointMask changed).toNat)

/-- The command ACK_TRIPS. -/
def execAckTrips (p : Port) (rest : List Byte) (s : State) : Host.Outcome State Fault Refusal :=
  .next (takeRequest p 0x1C (exactly 6) (serveAckTrips p) rest s)

/-- PRESET_TALLY (R115). -/
def servePresetTally (p : Port) (args : List Byte) (s : State) : Answer :=
  match dutyBound p (argField args 0 1) s with
  | some (code, detail) => .refuse code detail
  | none =>
    match tallyIndex (argField args 1 1) with
    | none => .refuse .badIndex (argField args 1 1)
    | some i =>
      let x : StagedPreset :=
        ⟨clamp 0 lifetimeMax (argField args 2 6), clamp 0 startsMax (argField args 8 4), argField args 0 1⟩
      let running := (s.entry i).run == .running
      .accept
        (if running then s.withEntry i { s.entry i with staged := some x } else applyPreset false i x s)
        (beBytes 1 i.val ++ beBytes 6 x.lifetime ++ beBytes 4 x.starts ++ flagByte running)

/-- The command PRESET_TALLY. -/
def execPresetTally (p : Port) (rest : List Byte) (s : State) : Host.Outcome State Fault Refusal :=
  .next (takeRequest p 0x2B (exactly 12) (servePresetTally p) rest s)

end Sys2Proof.Machine
end

