-- ==== Sys2Proof/Machine/Book.lean ====
section
/-!
DEFINITION. Reading the shift book (08_the_shift_book.md): READ_SHIFT_BOOK (R152 to R154).
-/

namespace Sys2Proof.Machine

/-- Part 0 of a record (R153, R190): its header and its standing list. -/
def BookRecord.headerBytes (r : BookRecord) : List Byte :=
  instantBytes r.shiftStart ++ instantBytes r.shiftEnd ++ beBytes 1 r.outgoing ++ beBytes 1 r.incoming ++
    slotByte r.slot ++ beBytes 1 r.reoffers ++ flagByte r.overdue ++ beBytes 2 r.trips ++ beBytes 2 r.points ++
    [r.latch.code] ++ beBytes 1 r.standing.length ++ r.standing.flatMap fun e => beBytes 1 e.1 ++ [e.2.code]

/-- A tally block (R154, R190): outside the mask its values read as 0, its flags as clear, and the withheld marker is set. -/
def tallyBlockBytes (mask : BitVec 12) (k : Nat) (b : BookTally) : List Byte :=
  if mask.getLsbD k then
    beBytes 1 k ++ beBytes 1 ((if b.presetFlag then 2 else 0) + (if b.saturatedFlag then 4 else 0)) ++
      beBytes 4 b.shiftPortion ++ beBytes 2 b.shiftStarts ++ beBytes 6 b.lifetime
  else beBytes 1 k ++ beBytes 1 1 ++ beBytes 4 0 ++ beBytes 2 0 ++ beBytes 6 0

/-- Parts 1 and 2 of a record (R154): six tally blocks from tally `first` on. -/
def BookRecord.tallyBytes (r : BookRecord) (mask : BitVec 12) (first : Nat) : List Byte :=
  (((List.range r.tallies.length).zip r.tallies).drop first |>.take 6).flatMap fun e => tallyBlockBytes mask e.1 e.2

/-- The common fields of every part (R152, R190): age, part, stored count, handover number. -/
def bookCommonBytes (age part stored number : Nat) : List Byte :=
  beBytes 1 age ++ beBytes 1 part ++ beBytes 1 stored ++ beBytes 2 number

/-- READ_SHIFT_BOOK (R152). -/
def serveReadShiftBook (p : Port) (args : List Byte) (s : State) : Answer :=
  let age := argField args 0 1
  let part := argField args 1 1
  match s.book.records[age]? with
  | none => .refuse .badIndex age
  | some r =>
    let common := bookCommonBytes age part s.book.records.length r.number
    match part with
    | 0 => .accept s (common ++ r.headerBytes)
    | 1 => .accept s (common ++ r.tallyBytes (s.port p).readMask 0)
    | 2 => .accept s (common ++ r.tallyBytes (s.port p).readMask 6)
    | _ => .refuse .range part

/-- The command READ_SHIFT_BOOK. -/
def execReadShiftBook (p : Port) (rest : List Byte) (s : State) : Host.Outcome State Fault Refusal :=
  .next (takeRequest p 0x38 (exactly 2) (serveReadShiftBook p) rest s)

end Sys2Proof.Machine
end

