-- ==== Sys2Proof/Machine/TimeBase.lean ====
section
/-!
DEFINITION. The time base (01_station_time_base.md): rewrites (R6 to R8), quality transitions (R9 to R11), SET_TIME (R12 to
R16), READ_TIME (R17), the millisecond boundary handed to the blocks (R3), and the alarm compare that boundaries and rewrites make
(R159).
-/

namespace Sys2Proof.Machine

/-! ### The alarm compare -/

/-- The alarm compare of a port (R159). -/
def State.alarmHolds (s : State) (p : Port) : Bool :=
  match (s.port p).alarm with
  | none => false
  | some a => s.time.quality != .unset && s.now.atOrAfter a

/-- The alarm compare of a port evaluated (R159). -/
def evaluateAlarm (p : Port) (s : State) : State := setNotice p .alarm (s.alarmHolds p) s

/-- The command ALARM_REACHED (R159; log entries 5 and 6): the compare of a millisecond boundary, at the boundary's tick. -/
def execAlarmReached (p : Port) (s : State) : Host.Outcome State Fault Refusal :=
  .next (if s.atBoundary then evaluateAlarm p s else s)

/-! ### Rewrites and boundaries -/

/-- The instant replaced (R6): Q becomes 0. -/
def replaceTime (date ms : Nat) (s : State) : State := s.withTime { s.time with date := date, ms := ms, q := 0 }

/-- The rewrite amount (R6): the new instant less the present one. -/
def State.rewriteAmount (s : State) (date ms : Nat) : Int := (⟨date, ms, 0⟩ : Instant).minus s.now

/-- A rewrite (R6), by a set or by a step: every debounce in progress moves by the rewrite amount (R45; log entry 32). -/
def rewriteTime (date ms : Nat) (s : State) : State :=
  atAllPoints (moveDebounce (s.rewriteAmount date ms)) (replaceTime date ms s)

/-- The present instant handed to the blocks that hold instants in station time, at a boundary (R3) and at a rewrite (R7): the
duty unit checks (R127), the ports compare their alarms (R159). The duty unit goes first: DESIGN CHOICE (log entry 33). -/
def handInstant (s : State) : State := atAllPorts evaluateAlarm (dutyCheck false s)

/-- A millisecond boundary handed to the tally unit, which counts it (R109), and then to the duty unit and the ports, which
compare their instants (R3, R127, R159). The tally unit goes first: DESIGN CHOICE (log entry 33). -/
def handBoundary (s : State) : State := handInstant (tallyBoundary s)

/-- The boundary of this tick is taken, if it waits (R3; log entry 5). -/
def takeBoundary (s : State) : State := if s.boundaryWaits then handBoundary { s with boundaryWaits := false } else s

/-- The first setting of the clock handed to the duty unit (R11): the most recent slot counts as served. -/
def handFirstSet (s : State) : State :=
  s.withDuty { s.duty with lastServed := (mostRecentSlot s.duty.rota s.now).map (·.1) }

/-- The quality becomes another (R9): in RUN a QUALITY record and the notice follow, in BACKUP neither (R10). The tally unit
is handed input 33 after the record (R102). A cause that leaves the quality as it was is no transition. -/
def moveQuality (new : Quality) (s : State) : State :=
  let old := s.time.quality
  if new = old then s
  else
    let s := s.withTime { s.time with quality := new }
    let s := if s.running then raiseAtAll .quality (produce false (.quality old new) s) else s
    handInput inputLocked (new == .locked) s

/-- The move of the quality by a time set (R13, R15), with the hand-off of R11 where it leaves UNSET. -/
def moveQualityBySet (new : Quality) (s : State) : State :=
  if s.time.quality = .unset then handFirstSet (moveQuality new s) else moveQuality new s

/-- A time set (R13, R15): the rewrite, its TIME_SET record with the instant just before it, the move of the quality, and the
hand-over to the blocks that hold instants. -/
def setTimeTo (date ms : Nat) (port : Port) (mode : TimeSetMode) (new : Quality) (s : State) : State :=
  let old := s.now
  handInstant (moveQualityBySet new (produce false (.timeSet old port mode) (rewriteTime date ms s)))

/-! ### READ_TIME -/

/-- The payload of READ_TIME (R17, R190). -/
def timePayload (s : State) : List Byte :=
  instantBytes s.now ++ [s.time.quality.code] ++ beSigned 4 s.trim ++ flagByte s.time.staged.isSome

/-- READ_TIME (R17). -/
def serveReadTime (_args : List Byte) (s : State) : Answer := .accept s (timePayload s)

/-- The command READ_TIME. -/
def execReadTime (p : Port) (rest : List Byte) (s : State) : Host.Outcome State Fault Refusal :=
  .next (takeRequest p 0x01 (exactly 0) serveReadTime rest s)

/-! ### SET_TIME -/

/-- The quality after an immediate set (R13): UNSET becomes FREE, any other stays. -/
def qualityAfterSet (q : Quality) : Quality := if q = .unset then .free else q

/-- SET_TIME in mode IMMEDIATE, past the check of the mode (R12, R13). -/
def setImmediate (p : Port) (date ms : Nat) (s : State) : Answer :=
  if dayMs ≤ ms then .refuse .range 0
  else if s.trip.burst.isSome then .refuse .busy 0
  else
    let t := setTimeTo date ms p .immediate (qualityAfterSet s.time.quality) s
    .accept t (timePayload t)

/-- SET_TIME in mode AT_MARK, past the check of the mode (R12, R14): the part below a second is dropped. -/
def stageSet (p : Port) (date ms : Nat) (s : State) : Answer :=
  if dayMs ≤ ms then .refuse .range 0
  else
    let t := s.withTime { s.time with staged := some ⟨date, ms / 1000 * 1000, p⟩ }
    .accept t (timePayload t)

/-- A staged set discarded (R16). -/
def discardStaged (s : State) : State := s.withTime { s.time with staged := none }

/-- SET_TIME in mode WITHDRAW (R12, R16). -/
def withdrawSet (s : State) : Answer := .accept (discardStaged s) (timePayload (discardStaged s))

/-- SET_TIME (R12): the TIME right, then the mode, then the checks of the mode. -/
def serveSetTime (p : Port) (args : List Byte) (s : State) : Answer :=
  if (s.port p).rights.time then
    match argField args 6 1 with
    | 0 => setImmediate p (argField args 0 2) (argField args 2 4) s
    | 1 => stageSet p (argField args 0 2) (argField args 2 4) s
    | 2 => withdrawSet s
    | mode => .refuse .range mode
  else .refuse .denied 0

/-- The bytes of a SET_TIME frame after its request code (R188). -/
def setTimeFrame (date : BitVec 16) (ms : BitVec 32) (mode : Byte) : List Byte :=
  7 :: (beBytes 2 date.toNat ++ beBytes 4 ms.toNat ++ [mode])

/-- The command SET_TIME in mode IMMEDIATE. -/
def execSetTimeImmediate (p : Port) (date : BitVec 16) (ms : BitVec 32) (s : State) : Host.Outcome State Fault Refusal :=
  .next (takeRequest p 0x02 (exactly 7) (serveSetTime p) (setTimeFrame date ms 0) s)

/-- The command SET_TIME in mode AT_MARK. -/
def execSetTimeAtMark (p : Port) (date : BitVec 16) (ms : BitVec 32) (s : State) : Host.Outcome State Fault Refusal :=
  .next (takeRequest p 0x02 (exactly 7) (serveSetTime p) (setTimeFrame date ms 1) s)

/-- The command SET_TIME in mode WITHDRAW. -/
def execSetTimeWithdraw (p : Port) (date : BitVec 16) (ms : BitVec 32) (s : State) : Host.Outcome State Fault Refusal :=
  .next (takeRequest p 0x02 (exactly 7) (serveSetTime p) (setTimeFrame date ms 2) s)

/-- The command SET_TIME whose mode names none of the three. -/
def execSetTime (p : Port) (rest : List Byte) (s : State) : Host.Outcome State Fault Refusal :=
  .next (takeRequest p 0x02 (exactly 7) (serveSetTime p) rest s)

end Sys2Proof.Machine
end

