-- ==== Sys2Proof/Machine/Notices.lean ====
section
/-!
DEFINITION. The requests about a port's own notices and alarm (09_notices_and_attention_lines.md): SET_ALARM (R160),
SET_NOTICES (R161), CLEAR_NOTICES (R162), READ_NOTICES (R163), and the end of a pulse gap (R165).
-/

namespace Sys2Proof.Machine

/-- The alarm of a port replaced, and its compare made (R160). -/
def setAlarmTo (p : Port) (alarm : Option Instant) (s : State) : State :=
  evaluateAlarm p (s.withPort p { s.port p with alarm := alarm })

/-- SET_ALARM (R160). -/
def serveSetAlarm (p : Port) (args : List Byte) (s : State) : Answer :=
  if onOff (argField args 0 1) then
    if dayMs ≤ argField args 3 4 then .refuse .range 0
    else
      let alarm : Instant := ⟨argField args 1 2, argField args 3 4, 0⟩
      let t := setAlarmTo p (some alarm) s
      .accept t (optInstantBytes (some alarm) ++ flagByte ((t.port p).pending.has .alarm))
  else
    let t := setAlarmTo p none s
    .accept t (optInstantBytes none ++ flagByte ((t.port p).pending.has .alarm))

/-- The command SET_ALARM. -/
def execSetAlarm (p : Port) (rest : List Byte) (s : State) : Host.Outcome State Fault Refusal :=
  .next (takeRequest p 0x43 (exactly 7) (serveSetAlarm p) rest s)

/-- SET_NOTICES (R161): marks beyond the seven notices are ignored. -/
def serveSetNotices (p : Port) (args : List Byte) (s : State) : Answer :=
  match styleOf (argField args 1 1) with
  | none => .refuse .range (argField args 1 1)
  | some style =>
    let u := (s.port p).setEnables s.elapsed (BitVec.ofNat 7 (argField args 0 1)) style
    .accept (s.withPort p u) (noticeByte u.enabled ++ [u.style.code] ++ noticeByte u.pending)

/-- The command SET_NOTICES. -/
def execSetNotices (p : Port) (rest : List Byte) (s : State) : Host.Outcome State Fault Refusal :=
  .next (takeRequest p 0x41 (exactly 2) (serveSetNotices p) rest s)

/-- CLEAR_NOTICES (R162). -/
def serveClearNotices (p : Port) (args : List Byte) (s : State) : Answer :=
  let u := (s.port p).clearNotices s.elapsed (BitVec.ofNat 7 (argField args 0 1))
  .accept (s.withPort p u) (noticeByte u.pending)

/-- The command CLEAR_NOTICES. -/
def execClearNotices (p : Port) (rest : List Byte) (s : State) : Host.Outcome State Fault Refusal :=
  .next (takeRequest p 0x42 (exactly 1) (serveClearNotices p) rest s)

/-- The payload of READ_NOTICES (R163, R190). -/
def noticesPayload (u : PortUnit) : List Byte :=
  noticeByte u.pending ++ noticeByte u.enabled ++ [u.style.code] ++ beBytes 1 (topNotice u.wanted) ++ [u.line.code]

/-- READ_NOTICES (R163). -/
def serveReadNotices (p : Port) (_args : List Byte) (s : State) : Answer := .accept s (noticesPayload (s.port p))

/-- The command READ_NOTICES. -/
def execReadNotices (p : Port) (rest : List Byte) (s : State) : Host.Outcome State Fault Refusal :=
  .next (takeRequest p 0x40 (exactly 0) (serveReadNotices p) rest s)

/-- The end of a pulse gap at a port (R165; log entries 5 and 6). -/
def endPulseGap (p : Port) (s : State) : State := s.withPort p ((s.port p).endGap s.elapsed)

/-- The command PULSE_GAP_END (R165). -/
def execPulseGapEnd (p : Port) (s : State) : Host.Outcome State Fault Refusal := .next (endPulseGap p s)

end Sys2Proof.Machine
end

