-- ==== Sys2Proof/Machine/DisciplineUnit.lean ====
section
/-!
DEFINITION. The discipline unit (02_reference_marks_and_discipline.md): taking marks (R21 to R24), the offset (R26), step or
slew (R27 to R29), learning (R30), lock and unlock (R31, R32), missing marks (R23), holdover (R35), and its requests.
-/

namespace Sys2Proof.Machine

/-- The acceptance interval: 800 ms (R22). -/
def acceptanceInterval : Nat := msDuration 800

/-- The missing-mark timeout: 1,200 ms (R23). -/
def missingMarkDuration : Nat := msDuration 1200

/-- A taken mark is accepted (R22): no last accepted mark, or 800 ms or more of elapsed time since it. -/
def State.acceptsMark (s : State) : Bool :=
  match s.discipline.lastMarkAt with
  | none => true
  | some t => decide (t + acceptanceInterval ≤ s.elapsed)

/-- The offset E of a reading (R26): against the nearest whole second, in µs. -/
def offsetOf (i : Instant) : Int :=
  let u := i.ms % 1000 * 1000 + i.us
  if u < 500000 then (u : Int) else (u : Int) - 1000000

/-- The step limit of the settings in µs (R27). -/
def DisciplineSettings.stepLimitUs (d : DisciplineSettings) : Nat := d.stepLimit * 1000

/-- A step is due for an offset (R27). -/
def DisciplineSettings.stepDue (d : DisciplineSettings) (e : Int) : Bool :=
  d.stepEnable && decide (d.stepLimitUs ≤ e.natAbs)

/-- The slew trim of an offset (R29). -/
def slewOf (e : Int) : Int := clampInt (-500000) 500000 (-e * 1000)

/-- The frequency trim after a mark (R30): learned at a consecutive mark whose offset is below the step limit. -/
def learn (d : DisciplineSettings) (consecutive : Bool) (f e : Int) : Int :=
  if consecutive && decide (e.natAbs < d.stepLimitUs) then
    clampInt (-200000) 200000 (f - (e * 1000).tdiv (d.loopDivisor : Int))
  else f

/-- The quality and the two counters after a mark that counts (R31, R32). -/
def countLock (d : DisciplineSettings) (q : Quality) (lock unlock : Nat) (e : Int) : Quality × Nat × Nat :=
  let inside := decide (e.natAbs ≤ d.lockWindow)
  match q with
  | .acquiring =>
    if inside then if 4 ≤ lock + 1 then (.locked, 0, 0) else (.acquiring, lock + 1, unlock) else (.acquiring, 0, unlock)
  | .locked =>
    if inside then (.locked, lock, 0) else if 4 ≤ unlock + 1 then (.acquiring, 0, 0) else (.locked, lock, unlock + 1)
  | q => (q, lock, unlock)

/-- An accepted mark restarts the unit's timers from its own tick (R22). -/
def restartMarkTimers (s : State) : State :=
  s.withDiscipline
    { s.discipline with lastMarkAt := some s.elapsed, missingMark := some (s.elapsed + missingMarkDuration) }

/-- The instant that becomes the last accepted mark (R24). -/
def setLastMark (s : State) : State := s.withDiscipline { s.discipline with lastMark := some s.now }

/-- A staged set applied at an accepted mark (R15). -/
def applyStagedSet (x : StagedSet) (s : State) : State :=
  let s := s.withDiscipline
    { s.discipline with slewTrim := 0, lockCounter := 0, unlockCounter := 0, stepPending := false }
  let s := discardStaged s
  setLastMark (setTimeTo x.date x.ms x.port .atMark .acquiring s)

/-- A step mark (R28): the time is rewritten to the local reading less E, S and the counters become 0. The TIME_STEP record
carries the quality before the mark; the QUALITY record follows (R34), and then the rewrite is handed on (R7). The records of
tallies that the time-LOCKED input moves come before those of the duty check: DESIGN CHOICE (log entry 33). -/
def stepMark (e : Int) (s : State) : State :=
  let target := s.now.addUs (-e)
  let s := s.withDiscipline
    { s.discipline with slewTrim := 0, lockCounter := 0, unlockCounter := 0, stepPending := false }
  let s := produce false (.timeStep e) (rewriteTime target.date target.ms s)
  setLastMark (handInstant (moveQuality .acquiring s))

/-- A slew mark, or a deferred-step mark, which sets the step-pending flag (R29): S is set, F may be learned (R30), and the
mark counts toward lock or unlock (R31, R32). -/
def slewMark (deferred consecutive : Bool) (e : Int) (s : State) : State :=
  let d := s.discipline
  let fresh := s.time.quality == .free || s.time.quality == .holdover
  let lock := if fresh then 0 else d.lockCounter
  let unlock := if fresh then 0 else d.unlockCounter
  let from_ := if fresh then Quality.acquiring else s.time.quality
  let counted := countLock d.settings from_ lock unlock e
  let s := s.withDiscipline
    { d with
      slewTrim := slewOf e
      freqTrim := learn d.settings consecutive d.freqTrim e
      stepPending := deferred
      lockCounter := counted.2.1
      unlockCounter := counted.2.2 }
  setLastMark (moveQuality counted.1 s)

/-- A measured mark (R24, stages 3 to 10). -/
def measureMark (consecutive : Bool) (s : State) : State :=
  let e := offsetOf s.now
  let s := s.withDiscipline { s.discipline with lastOffset := e }
  if s.discipline.settings.stepDue e then
    if s.trip.burst.isSome then slewMark true consecutive e s else stepMark e s
  else slewMark false consecutive e s

/-- An accepted mark (R15, R24): a staged set is applied while no burst is open, else the mark is measured, but not in UNSET
(R25). -/
def acceptMark (s : State) : State :=
  let consecutive := s.discipline.missingMark.isSome
  let s := restartMarkTimers s
  match s.time.staged, s.trip.burst with
  | some x, none => applyStagedSet x s
  | _, _ => if s.time.quality = .unset then setLastMark s else measureMark consecutive s

/-- An edge on MARK is taken (R21): in RUN, but not at the tick of a warm restart that went before it. -/
def State.takesMark (s : State) : Bool := s.running && s.supply.restartAt != some s.elapsed

/-- A rising edge on MARK (R21, R22): where it is taken, it is accepted, or rejected with a count. -/
def takeMark (s : State) : State :=
  if s.takesMark then
    if s.acceptsMark then acceptMark s
    else s.withDiscipline { s.discipline with rejectedMarks := bumpTo count16Max s.discipline.rejectedMarks }
  else s

/-- The command MARK (R22). -/
def execMark (s : State) : Host.Outcome State Fault Refusal := .next (takeMark s)

/-- The retention domain runs: in RUN always, in BACKUP while the retention-valid marker is valid (R182). -/
def State.retentionRuns (s : State) : Bool := s.running || s.supply.retentionValid

/-- The missing-mark timeout takes effect (R23, R38). -/
def missMark (s : State) : State :=
  let s := s.withDiscipline { s.discipline with missingMark := none, slewTrim := 0 }
  match s.time.quality with
  | .acquiring => moveQuality .free (s.withDiscipline { s.discipline with lockCounter := 0 })
  | .locked => moveQuality .holdover (s.withDiscipline { s.discipline with unlockCounter := 0 })
  | _ => s

/-- The missing-mark timeout expires (R23; log entries 5 and 6). -/
def expireMissingMark (s : State) : State :=
  match s.discipline.missingMark with
  | none => s
  | some expiry => if s.retentionRuns && s.reached expiry then missMark s else s

/-- The command MISSING_MARK_TIMEOUT (R23). -/
def execMissingMarkTimeout (s : State) : Host.Outcome State Fault Refusal := .next (expireMissingMark s)

/-- The elapsed time since the last accepted mark has reached the holdover limit (R35). -/
def State.holdoverPassed (s : State) : Bool :=
  match s.discipline.lastMarkAt with
  | none => false
  | some t => s.reached (t + msDuration (s.discipline.settings.holdoverLimit * 1000))

/-- HOLDOVER whose limit has been reached becomes FREE (R35, R36). -/
def endHoldover (s : State) : State :=
  if s.time.quality = .holdover ∧ s.retentionRuns ∧ s.holdoverPassed then moveQuality .free s else s

/-- The command HOLDOVER_LIMIT_EXPIRY (R35; log entries 5 and 6). -/
def execHoldoverLimitExpiry (s : State) : Host.Outcome State Fault Refusal := .next (endHoldover s)

/-- The payload of READ_DISCIPLINE (R37, R190). -/
def disciplinePayload (s : State) : List Byte :=
  let d := s.discipline
  beSigned 4 d.freqTrim ++ beSigned 4 d.slewTrim ++ beSigned 4 d.lastOffset ++ beBytes 1 d.lockCounter ++
    beBytes 1 d.unlockCounter ++ flagByte d.stepPending ++ beBytes 2 d.rejectedMarks ++ optInstantBytes d.lastMark ++
    d.settings.bytes

/-- READ_DISCIPLINE (R37). -/
def serveReadDiscipline (_args : List Byte) (s : State) : Answer := .accept s (disciplinePayload s)

/-- The command READ_DISCIPLINE. -/
def execReadDiscipline (p : Port) (rest : List Byte) (s : State) : Host.Outcome State Fault Refusal :=
  .next (takeRequest p 0x03 (exactly 0) serveReadDiscipline rest s)

/-- The discipline settings stored (R36): a step enable written as off clears the step-pending flag. -/
def storeDiscipline (d : DisciplineSettings) (s : State) : State :=
  s.withDiscipline { s.discipline with settings := d, stepPending := s.discipline.stepPending && d.stepEnable }

/-- SET_DISCIPLINE (R36): a new holdover limit applies to the HOLDOVER in progress. -/
def serveSetDiscipline (p : Port) (args : List Byte) (s : State) : Answer :=
  if (s.port p).rights.time then
    let t := endHoldover (storeDiscipline (disciplineSettingsOf args) s)
    .accept t (disciplinePayload t)
  else .refuse .denied 0

/-- The command SET_DISCIPLINE. -/
def execSetDiscipline (p : Port) (rest : List Byte) (s : State) : Host.Outcome State Fault Refusal :=
  .next (takeRequest p 0x04 (exactly 10) (serveSetDiscipline p) rest s)

end Sys2Proof.Machine
end

