-- ==== Sys2Proof/Machine/Ports.lean ====
section
/-!
DEFINITION. The port units (10_ports_rights_and_requests.md): the bus side as the outside sees it (R168, R172), SET_RIGHTS
(R174), READ_PORT (R176), a write ended by a repeated START (R169), and the closing and return actions (R167, R178).
-/

namespace Sys2Proof.Machine

/-! ### The bus side -/

/-- The port acknowledges an address (R168): its own, in RUN; nothing in BACKUP. -/
def State.acknowledges (s : State) (p : Port) (address : BitVec 7) : Bool :=
  s.running && address == (s.port p).address

/-- What a read transaction of `n` bytes returns (R172): the response buffer from its first byte, and 0xFF beyond it. From the
warning to the return the port drives no data line, and the bytes read as 0xFF (R178). A read changes nothing. -/
def State.readTransaction (s : State) (p : Port) (n : Nat) : List Byte :=
  let buffer := if s.running then (s.port p).response.bytes else []
  (buffer ++ List.replicate n 0xFF).take n

/-- A write ended by a repeated START (R169): the frame is discarded and nothing else changes. -/
def execRepeatedStartDiscard (p : Port) (_bytes : List Byte) (s : State) : Host.Outcome State Fault Refusal :=
  .next (s.idleFrame p)

/-! ### SET_RIGHTS -/

/-- The named port of SET_RIGHTS: port B or port C (R174, check 2). -/
def grantedPort (letter : Nat) : Option Port :=
  match portOf letter with
  | some .b => some .b
  | some .c => some .c
  | _ => none

/-- The rights and the mask of a port stored, and what follows from it (R174). The reads use the new mask at once, within the
tick of the store: DEDUCED, since R174 names the next tick (log entry 38). -/
def storeRights (q : Port) (rights : Rights) (mask : BitVec 12) (s : State) : State :=
  let old := s.port q
  let s := s.withPort q { old with rights := rights, readMask := mask }
  let s := if old.rights.events && !rights.events then unsubscribe q s else s
  if mask = old.readMask then s else syncTallyDue q s

/-- SET_RIGHTS (R174). -/
def serveSetRights (p : Port) (args : List Byte) (s : State) : Answer :=
  if p = .a then
    match grantedPort (argField args 0 1) with
    | none => .refuse .badIndex (argField args 0 1)
    | some q =>
      let rights := rightsOf (argField args 1 1)
      let mask := BitVec.ofNat 12 (argField args 2 2)
      if s.duty.port = some q ∧ rights.duty = false then .refuse .state s.duty.state.code
      else
        .accept (storeRights q rights mask s)
          (portLetter q :: (beBytes 1 rights.code ++ beBytes 2 mask.toNat))
  else .refuse .denied 0

/-- The command SET_RIGHTS. -/
def execSetRights (p : Port) (rest : List Byte) (s : State) : Host.Outcome State Fault Refusal :=
  .next (takeRequest p 0x49 (exactly 4) (serveSetRights p) rest s)

/-! ### READ_PORT -/

/-- A refusal record in READ_PORT (R190). The spec states no value for its bytes when it is absent: they are free values (log
entry 13). -/
def refusalBytes (freeIndex : Nat) : Option RefusalRecord → List Byte
  | some r => 1 :: r.request :: r.code.code :: (beBytes 2 r.detail ++ instantBytes r.instant)
  | none => 0 :: (List.range 12).map (Config.absentByte freeIndex)

/-- The payload of READ_PORT (R176, R190): identity 620, revision 1. -/
def portPayload (q : Port) (s : State) : List Byte :=
  let u := s.port q
  beBytes 2 620 ++ [1, portLetter q] ++ beBytes 1 u.address.toNat ++ beBytes 1 u.rights.code ++
    beBytes 2 u.readMask.toNat ++ flagByte (s.queue.subscribed.get q) ++ refusalBytes s.freeIndex u.refusal

/-- READ_PORT (R176). -/
def serveReadPort (args : List Byte) (s : State) : Answer :=
  match portOf (argField args 0 1) with
  | none => .refuse .badIndex (argField args 0 1)
  | some q => .accept { s with freeIndex := s.freeIndex + 1 } (portPayload q s)

/-- The command READ_PORT. -/
def execReadPort (p : Port) (rest : List Byte) (s : State) : Host.Outcome State Fault Refusal :=
  .next (takeRequest p 0x48 (exactly 1) serveReadPort rest s)

/-! ### Closing and return actions -/

/-- The closing action of a port unit (R167, R178): the frame, the response, the refusal record and the pending set go, a
pulse gap ends and the line becomes inactive. -/
def PortUnit.close (u : PortUnit) : PortUnit :=
  { u with frame := none, response := .none, refusal := none, pending := 0, line := .inactive }

/-- The closing action at a port. -/
def closePort (p : Port) (s : State) : State := s.withPort p (s.port p).close

/-- The level notices that hold at a port (R167): EVENTS, TALLY_DUE, ALARM. -/
def State.levelNotices (s : State) (p : Port) : NoticeSet :=
  let v := putBit (0 : NoticeSet) Notice.events.bit (!(s.queue.stream p).isEmpty)
  let v := putBit v Notice.tallyDue.bit ((s.dueTallies &&& (s.port p).readMask) != 0)
  putBit v Notice.alarm.bit (s.alarmHolds p)

/-- The level of a port's address pin. -/
def pinOf (pins : AddressPins) : Port → Bool
  | .a => pins.a
  | .b => pins.b
  | .c => pins.c

/-- The return action of a port unit (R167, R168, R178): the address pin is sampled, the level notices are evaluated from an
empty pending set, and the line becomes active with no gap if any is pending-and-enabled. -/
def returnPort (pins : AddressPins) (p : Port) (s : State) : State :=
  let u := { s.port p with address := addressOfPin (pinOf pins p), pending := s.levelNotices p }
  s.withPort p { u with line := plainLine u.wanted }

end Sys2Proof.Machine
end

