-- ==== Sys2Proof/Machine/Supplies.lean ====
section
/-!
DEFINITION. The supply monitor (11_supplies_outages_and_restarts.md): the main-loss warning (R181), BACKUP (R182), the return
(R183), the cold start (R184), warm restarts (R185) and the POWER record (R186), with the RESTART request (R177).
-/

namespace Sys2Proof.Machine

/-! ### The warning -/

/-- The supply monitor writes the present instant and quality as the start of the interruption (R181, R185). -/
def writeStart (s : State) : State :=
  s.withSupply { s.supply with outageStart := some s.now, qualityAtStart := s.time.quality }

/-- The closing actions of the trip unit (R81) and the tally unit (R120), in the order given (log entry 9). -/
def closeBurstAndTallies (order : ClosingOrder) (s : State) : State :=
  match order with
  | .tripFirst => tallyClosing (closeBurst s)
  | .tallyFirst => closeBurst (tallyClosing s)

/-- The closing actions of every block (R181): point unit (R58), trip and tally unit, time base (R16), and the ports, whose
closing loses the raises of the others (R167; log entry 29). -/
def closingActions (order : ClosingOrder) (s : State) : State :=
  atAllPorts closePort (discardStaged (closeBurstAndTallies order (pointClosing s)))

/-- The main-loss warning (R181): taken in RUN; the state becomes BACKUP after the closing actions, and a VBAK below 1.8 V then
loses the retention-valid marker (R182). -/
def mainLoss (order : ClosingOrder) (vbakLow : Bool) (s : State) : State :=
  if s.running then
    let s := closingActions order (writeStart s)
    s.withSupply
      { s.supply with state := .backup, qualification := none, retentionValid := s.supply.retentionValid && !vbakLow }
  else s

/-- The command MAIN_LOSS_WARNING (R181). -/
def execMainLossWarning (order : ClosingOrder) (vbakLow : Bool) (s : State) : Host.Outcome State Fault Refusal :=
  .next (mainLoss order vbakLow s)

/-- VBAK below 1.8 V (R182): in BACKUP the retention-valid marker becomes lost; in RUN it has no effect. -/
def loseRetention (s : State) : State :=
  if s.running then s else s.withSupply { s.supply with retentionValid := false }

/-- The command RETENTION_LOST (R182). -/
def execRetentionLost (s : State) : Host.Outcome State Fault Refusal := .next (loseRetention s)

/-! ### The return qualification -/

/-- The return qualification: 50 ms of elapsed time (R180). -/
def returnQualification : Nat := msDuration 50

/-- VMAIN rises above 3.0 V in BACKUP (R180): the qualification starts, unless it runs already. -/
def startQualification (s : State) : State :=
  if s.running || s.supply.qualification.isSome then s
  else s.withSupply { s.supply with qualification := some (s.elapsed + returnQualification) }

/-- The command RETURN_QUALIFICATION_START (R180). -/
def execReturnQualificationStart (s : State) : Host.Outcome State Fault Refusal := .next (startQualification s)

/-- VMAIN falls to 3.0 V or below (R180): the qualification stops. -/
def stopQualification (s : State) : State :=
  if s.running then s else s.withSupply { s.supply with qualification := none }

/-- The command RETURN_QUALIFICATION_STOP (R180). -/
def execReturnQualificationStop (s : State) : Host.Outcome State Fault Refusal := .next (stopQualification s)

/-! ### The return -/

/-- The POWER record (R186): no interruption start for COLD. -/
def producePower (cause : PowerCause) (s : State) : State :=
  produce false
    (.power cause (if cause = .cold then none else some (s.supply.outageStart.getD .zero)) s.supply.qualityAtStart
      s.time.quality)
    s

/-- The stages of a return (R183): the ports, the POWER record, the restore actions of the tally unit, the point unit and the
duty unit, all at one instant. -/
def returnStages (cause : PowerCause) (pins : AddressPins) (s : State) : State :=
  let s := s.withSupply { s.supply with state := .run, qualification := none, addressPins := pins }
  let s := producePower cause (atAllPorts (returnPort pins) s)
  dutyCheck true (pointRestore (tallyRestore s))

/-- The cold start (R184): every block takes its cold values, and the start goes on as a return with cause COLD. -/
def coldStart (pins : AddressPins) (resetHigh : Bool) (s : State) : State :=
  returnStages .cold pins (State.cold s.lines pins resetHigh s.freeIndex s.pending)

/-- The RESET line as a sample in RUN or a return finds it (R185): high arms recognition, low leaves it waiting for the line to
go high. -/
def SupplyMonitor.sawReset (m : SupplyMonitor) (high : Bool) (elapsed : Nat) : SupplyMonitor :=
  { m with resetArmed := high, resetHigh := high, resetHighAt := if high then elapsed else m.resetHighAt }

/-- The return from an outage (R183), with the level of the RESET line at it (R185). -/
def outageReturn (pins : AddressPins) (resetHigh : Bool) (s : State) : State :=
  returnStages .outage pins (s.withSupply (s.supply.sawReset resetHigh s.elapsed))

/-- The return qualification expires (R180, R183, R184; log entries 5 and 6). -/
def expireQualification (pins : AddressPins) (resetHigh : Bool) (s : State) : State :=
  match s.supply.qualification with
  | none => s
  | some expiry =>
    if !s.running && s.reached expiry then
      if s.supply.retentionValid then outageReturn pins resetHigh s else coldStart pins resetHigh s
    else s

/-- The command RETURN (R183, R184). -/
def execReturnOfSupply (pins : AddressPins) (resetHigh : Bool) (s : State) : Host.Outcome State Fault Refusal :=
  .next (expireQualification pins resetHigh s)

/-! ### Warm restarts -/

/-- The tick of a warm restart is held (R21). -/
def noteRestart (s : State) : State := s.withSupply { s.supply with restartAt := some s.elapsed }

/-- A warm restart (R185): the warning's closing actions and the return's stages at one tick, with no BACKUP between. A boundary
of the tick that still waits is taken first, so that the restart finds nothing that it has not found (R146; log entry 5). -/
def warmRestart (cause : PowerCause) (pins : AddressPins) (order : ClosingOrder) (s : State) : State :=
  returnStages cause pins (closingActions order (noteRestart (writeStart (takeBoundary s))))

/-- How long RESET must be low: 100 µs of elapsed time (R185). -/
def resetLowTime : Nat := usDuration 100

/-- A low level of 100 µs can be complete (R185): recognition is armed, and 100 µs have run from the tick after the last sample
that found the line high. The low level starts at that tick at the earliest, and its 100 µs run from its start (R5; log entry
22). -/
def SupplyMonitor.recognises (m : SupplyMonitor) (elapsed : Nat) : Bool :=
  m.resetArmed && decide (m.resetHighAt + tickUnits + resetLowTime ≤ elapsed)

/-- RESET low for 100 µs (R185): taken in RUN while recognition is armed; recognition then waits for the line to go high. A
shorter low level has no effect. -/
def assertReset (pins : AddressPins) (order : ClosingOrder) (s : State) : State :=
  if s.running && s.supply.recognises s.elapsed then
    warmRestart .resetLine pins order (s.withSupply { s.supply with resetArmed := false, resetHigh := false })
  else s

/-- The command RESET_ASSERTION (R185). -/
def execResetAssertion (pins : AddressPins) (order : ClosingOrder) (s : State) : Host.Outcome State Fault Refusal :=
  .next (assertReset pins order s)

/-- RESET high at a sample (R185): recognition is armed. In BACKUP the line is not sampled. -/
def rearmReset (s : State) : State :=
  if s.running then s.withSupply (s.supply.sawReset true s.elapsed) else s

/-- The command RESET_REARM (R185). -/
def execResetRearm (s : State) : Host.Outcome State Fault Refusal := .next (rearmReset s)

/-- RESTART (R177): port A alone; the response OK with length 0 is left after the restart has cleared the buffers. -/
def serveRestart (p : Port) (pins : AddressPins) (order : ClosingOrder) (_args : List Byte) (s : State) : Answer :=
  if p = .a then .accept (warmRestart .restartRequest pins order s) [] else .refuse .denied 0

/-- The command RESTART. -/
def execRestart (p : Port) (rest : List Byte) (pins : AddressPins) (order : ClosingOrder) (s : State) :
    Host.Outcome State Fault Refusal :=
  .next (takeRequest p 0x4F (exactly 0) (serveRestart p pins order) rest s)

end Sys2Proof.Machine
end

