-- ==== Sys2Proof/Machine/Frames.lean ====
section
/-!
DEFINITION. Request frames by their code (R170, check 2; R188): the table of the requests, and the frame whose code names
none of them.
-/

namespace Sys2Proof.Machine

/-- A request of the table (R188): the argument lengths that pass the check of R170, and the serving by its owning block. -/
structure RequestRow where
  code : Byte
  lengthFits : Nat → Bool
  serve : Port → AddressPins → List Byte → State → Answer

/-- The requests of R188. -/
def requestTable : List RequestRow :=
  [⟨0x01, exactly 0, fun _ _ => serveReadTime⟩, ⟨0x02, exactly 7, fun p _ => serveSetTime p⟩,
    ⟨0x03, exactly 0, fun _ _ => serveReadDiscipline⟩, ⟨0x04, exactly 10, fun p _ => serveSetDiscipline p⟩,
    ⟨0x10, exactly 2, fun _ _ => serveReadPoints⟩, ⟨0x11, exactly 9, fun p _ => serveSetPoint p⟩,
    ⟨0x12, exactly 7, fun p _ => serveSetPoints p⟩, ⟨0x18, exactly 0, fun _ _ => serveReadFirstOut⟩,
    ⟨0x19, exactly 0, fun _ _ => serveReadAnnunciation⟩, ⟨0x1A, exactly 2, fun p _ => serveSetBurst p⟩,
    ⟨0x1B, exactly 1, fun p _ => serveResetFirstOut p⟩, ⟨0x1C, exactly 6, fun p _ => serveAckTrips p⟩,
    ⟨0x20, exactly 1, fun p _ => serveReadEvents p⟩, ⟨0x21, exactly 1, fun p _ => serveSubscribe p⟩,
    ⟨0x22, exactly 1, fun p _ => serveSetQueueMode p⟩, ⟨0x28, exactly 1, fun p _ => serveReadTally p⟩,
    ⟨0x29, exactly 15, fun p _ => serveSetTally p⟩, ⟨0x2A, exactly 7, fun p _ => serveSetDue p⟩] ++
  [⟨0x2B, exactly 12, fun p _ => servePresetTally p⟩, ⟨0x30, exactly 0, fun _ _ => serveReadDuty⟩,
    ⟨0x31, fun len => decide (2 ≤ len), fun p _ => serveSetRota p⟩, ⟨0x32, exactly 1, fun p _ => serveAcceptDuty p⟩,
    ⟨0x33, exactly 1, fun p _ => serveOpenHandover p⟩, ⟨0x34, exactly 1, fun p _ => serveReleaseDuty p⟩,
    ⟨0x35, exactly 1, fun p _ => serveReclaimDuty p⟩, ⟨0x36, exactly 5, fun p _ => serveSetHandover p⟩,
    ⟨0x38, exactly 2, fun p _ => serveReadShiftBook p⟩, ⟨0x40, exactly 0, fun p _ => serveReadNotices p⟩,
    ⟨0x41, exactly 2, fun p _ => serveSetNotices p⟩, ⟨0x42, exactly 1, fun p _ => serveClearNotices p⟩,
    ⟨0x43, exactly 7, fun p _ => serveSetAlarm p⟩, ⟨0x48, exactly 1, fun _ _ => serveReadPort⟩,
    ⟨0x49, exactly 4, fun p _ => serveSetRights p⟩,
    ⟨0x4F, exactly 0, fun p pins => serveRestart p pins .tripFirst⟩]

/-- The command UNKNOWN (R170): a frame taken at STOP whose code names no request is refused with UNKNOWN, its detail the code,
once its shape has passed. A code of the table, which is not this row's, is served as R170 says (log entry 8). -/
def execUnknown (p : Port) (code : Byte) (rest : List Byte) (s : State) : Host.Outcome State Fault Refusal :=
  match requestTable.find? fun r => r.code == code with
  | none => .next (takeRequest p code (fun _ => true) (fun _ _ => .refuse .unknown code.toNat) rest s)
  | some r => .next (takeRequest p code r.lengthFits (r.serve p s.supply.addressPins) rest s)

end Sys2Proof.Machine
end

