-- ==== Sys2Proof/Machine/Ticks.lean ====
section
/-!
DEFINITION. The oscillator tick (R2), the millisecond boundary (R3), and the end of a tick: whatever has come due at a tick is
taken before the next tick, whether or not a command took it (log entry 5).
-/

namespace Sys2Proof.Machine

/-! ### The end of a tick -/

/-- What has come due at a point is taken: debounce (R44), chatter window (R49), stability wait (R48). -/
def settlePoint (n : Fin 32) (s : State) : State := expireStability n (expireWindow n (expireDebounce n s))

/-- What has come due in RUN is taken, in the order of the chapters (log entry 5). -/
def settleRun (s : State) : State :=
  let s := endHoldover (expireMissingMark s)
  let s := atAllPoints settlePoint s
  atAllPorts endPulseGap (expireBurstLimit (expireQuietWait s))

/-- What has come due in BACKUP is taken: the two timers of the discipline unit (R38) and the return (R183), with the pins as
last seen. -/
def settleBackup (s : State) : State :=
  let s := endHoldover (expireMissingMark s)
  expireQualification s.supply.addressPins s.supply.resetHigh s

/-- Whatever has come due at this tick is taken, a boundary that still waits first: DESIGN CHOICE (log entry 5). -/
def settle (s : State) : State :=
  let s := takeBoundary s
  let s := if s.running then s else settleBackup s
  if s.running then settleRun s else s

/-! ### The tick -/

/-- The amount a tick adds to Q (R2): 1,000,000,000 + T. -/
def State.increment (s : State) : Nat := (((tickUnits : Nat) : Int) + s.trim).toNat

/-- The date after a date: after 65,535 comes 0 (R3). -/
def dateAfter (date : Nat) : Nat := if date = 65535 then 0 else date + 1

/-- The time base past a millisecond boundary (R3). -/
def TimeBase.nextMs (t : TimeBase) : TimeBase :=
  if t.ms + 1 = dayMs then { t with ms := 0, date := dateAfter t.date } else { t with ms := t.ms + 1 }

/-- The tick accumulator and elapsed time advanced by one tick (R2, R5). At a sum of the millisecond modulus or more a boundary
occurs (R3): the clock carries, and the boundary waits to be handed over at this tick (log entry 5). -/
def advanceClock (s : State) : State :=
  let q := s.time.q + s.increment
  let s := { s with elapsed := s.elapsed + s.increment }
  if q < millisecondUnits then s.withTime { s.time with q := q }
  else
    { s.withTime { s.time.nextMs with q := q - millisecondUnits } with boundaryAt := some s.elapsed, boundaryWaits := true }

/-- A tick of an oscillator that runs from VMAIN with retention lost (R184): the return qualification counts it untrimmed, and
nothing else moves. Without a qualification the oscillator stands still (R182; log entry 19). -/
def countUntrimmed (s : State) : State :=
  if s.supply.qualification.isSome then { s with elapsed := s.elapsed + tickUnits } else s

/-- One oscillator tick (R2): what came due at the tick before is taken, then the clock advances. -/
def tick (s : State) : State :=
  let s := settle s
  if s.retentionRuns then advanceClock s else countUntrimmed s

/-- The command OSCILLATOR_TICK (R2). Whether a boundary occurs is decided by R2 alone; one that does waits for the later
events of the tick (log entries 5 and 7). -/
def execOscillatorTick (s : State) : Host.Outcome State Fault Refusal := .next (tick s)

/-- The command MILLISECOND_BOUNDARY (R3): a tick at which the tick accumulator overflows, and its boundary taken at once. At a
tick that has made its boundary already it is that boundary, taken now if it still waits. Whether the accumulator overflows is
decided by R2 alone (log entries 5 to 7). -/
def execMillisecondBoundary (s : State) : Host.Outcome State Fault Refusal :=
  .next (takeBoundary (if s.atBoundary then s else tick s))

end Sys2Proof.Machine
end

