-- ==== Sys2Proof/Machine/Dispatch.lean ====
section
/-!
DEFINITION. The dispatch of commands to their meanings: one arm per constructor of `Instr`.
-/

namespace Sys2Proof.Machine

/-- The effect of a command on everything but the queue of commands that wait. -/
def exec (i : Instr) (s : State) : Host.Outcome State Fault Refusal :=
  match i with
  | .readTime port rest => Sys2Proof.Machine.execReadTime port rest s
  | .setTimeImmediate port date ms => Sys2Proof.Machine.execSetTimeImmediate port date ms s
  | .setTimeAtMark port date ms => Sys2Proof.Machine.execSetTimeAtMark port date ms s
  | .setTimeWithdraw port date ms => Sys2Proof.Machine.execSetTimeWithdraw port date ms s
  | .readDiscipline port rest => Sys2Proof.Machine.execReadDiscipline port rest s
  | .setDiscipline port rest => Sys2Proof.Machine.execSetDiscipline port rest s
  | .setPoint port rest => Sys2Proof.Machine.execSetPoint port rest s
  | .setPoints port rest => Sys2Proof.Machine.execSetPoints port rest s
  | .readPoints port rest => Sys2Proof.Machine.execReadPoints port rest s
  | .setBurst port rest => Sys2Proof.Machine.execSetBurst port rest s
  | .resetFirstOut port rest => Sys2Proof.Machine.execResetFirstOut port rest s
  | .ackTrips port rest => Sys2Proof.Machine.execAckTrips port rest s
  | .readFirstOut port rest => Sys2Proof.Machine.execReadFirstOut port rest s
  | .readAnnunciation port rest => Sys2Proof.Machine.execReadAnnunciation port rest s
  | .setQueueMode port rest => Sys2Proof.Machine.execSetQueueMode port rest s
  | .readEvents port rest => Sys2Proof.Machine.execReadEvents port rest s
  | .subscribe port rest => Sys2Proof.Machine.execSubscribe port rest s
  | .setTally port rest => Sys2Proof.Machine.execSetTally port rest s
  | .setDue port rest => Sys2Proof.Machine.execSetDue port rest s
  | .presetTally port rest => Sys2Proof.Machine.execPresetTally port rest s
  | .readTally port rest => Sys2Proof.Machine.execReadTally port rest s
  | .setRota port rest => Sys2Proof.Machine.execSetRota port rest s
  | .acceptDuty port rest => Sys2Proof.Machine.execAcceptDuty port rest s
  | .openHandover port rest => Sys2Proof.Machine.execOpenHandover port rest s
  | .releaseDuty port rest => Sys2Proof.Machine.execReleaseDuty port rest s
  | .reclaimDuty port rest => Sys2Proof.Machine.execReclaimDuty port rest s
  | .setHandover port rest => Sys2Proof.Machine.execSetHandover port rest s
  | .readDuty port rest => Sys2Proof.Machine.execReadDuty port rest s
  | .readShiftBook port rest => Sys2Proof.Machine.execReadShiftBook port rest s
  | .setAlarm port rest => Sys2Proof.Machine.execSetAlarm port rest s
  | .setNotices port rest => Sys2Proof.Machine.execSetNotices port rest s
  | .clearNotices port rest => Sys2Proof.Machine.execClearNotices port rest s
  | .readNotices port rest => Sys2Proof.Machine.execReadNotices port rest s
  | .setRights port rest => Sys2Proof.Machine.execSetRights port rest s
  | .readPort port rest => Sys2Proof.Machine.execReadPort port rest s
  | .restart port rest pins order => Sys2Proof.Machine.execRestart port rest pins order s
  | .unknown port code rest => Sys2Proof.Machine.execUnknown port code rest s
  | .repeatedStartDiscard port bytes => Sys2Proof.Machine.execRepeatedStartDiscard port bytes s
  | .mark => Sys2Proof.Machine.execMark s
  | .missingMarkTimeout => Sys2Proof.Machine.execMissingMarkTimeout s
  | .holdoverLimitExpiry => Sys2Proof.Machine.execHoldoverLimitExpiry s
  | .millisecondBoundary => Sys2Proof.Machine.execMillisecondBoundary s
  | .pointEdge point high => Sys2Proof.Machine.execPointEdge point high s
  | .debounceExpiry point => Sys2Proof.Machine.execDebounceExpiry point s
  | .chatterWindowExpiry point => Sys2Proof.Machine.execChatterWindowExpiry point s
  | .stabilityWaitExpiry point => Sys2Proof.Machine.execStabilityWaitExpiry point s
  | .quietWaitExpiry => Sys2Proof.Machine.execQuietWaitExpiry s
  | .burstLimitExpiry => Sys2Proof.Machine.execBurstLimitExpiry s
  | .qualificationComplete tally => Sys2Proof.Machine.execQualificationComplete tally s
  | .slotDue => Sys2Proof.Machine.execSlotDue s
  | .releaseDeadlineExpiry => Sys2Proof.Machine.execReleaseDeadlineExpiry s
  | .acceptDeadlineExpiry => Sys2Proof.Machine.execAcceptDeadlineExpiry s
  | .alarmReached port => Sys2Proof.Machine.execAlarmReached port s
  | .pulseGapEnd port => Sys2Proof.Machine.execPulseGapEnd port s
  | .mainLossWarning order vbakLow => Sys2Proof.Machine.execMainLossWarning order vbakLow s
  | .retentionLost => Sys2Proof.Machine.execRetentionLost s
  | .returnQualificationStart => Sys2Proof.Machine.execReturnQualificationStart s
  | .returnQualificationStop => Sys2Proof.Machine.execReturnQualificationStop s
  | .returnOfSupply pins resetHigh => Sys2Proof.Machine.execReturnOfSupply pins resetHigh s
  | .resetAssertion pins order => Sys2Proof.Machine.execResetAssertion pins order s
  | .resetRearm => Sys2Proof.Machine.execResetRearm s
  | .oscillatorTick => Sys2Proof.Machine.execOscillatorTick s
  | .setTime port rest => Sys2Proof.Machine.execSetTime port rest s

end Sys2Proof.Machine
end

