-- ==== Sys2Proof/Safety.lean ====
section
/-!
DEFINITION. The terms that claims about the part use: what a request leaves at its port, what an event may change, what the
production of a record does to the queue alone, and the invariants that every step keeps. No command faults, so a safe run
is one in which these invariants hold.
-/

namespace Sys2Proof.Machine

/-! ### What a request leaves at its port -/

/-- The state with a request accepted at a port: the frame is idle and the response is OK with this payload (R171). -/
def State.okAt (s : State) (p : Port) (payload : List Byte) : State :=
  s.withPort p { s.port p with frame := none, response := .ok payload }

/-- The state with a request refused at a port: the response and the refusal record, and nothing else (R171, R175). -/
def State.refusedAt (s : State) (p : Port) (request : Byte) (code : RefusalCode) (detail : Nat) : State :=
  s.withPort p
    { s.port p with
      frame := none
      response := .refused code request detail
      refusal := some ⟨request, code, detail, s.now⟩ }

/-- A request frame taken at a STOP (R169): its port, its request code (R188), and the bytes after the code. -/
structure Frame where
  port : Port
  code : Byte
  rest : List Byte
  deriving DecidableEq, Repr

/-- The frame of a command that is a request. -/
def frameOf : Instr → Option Frame
  | .readTime p rest => some ⟨p, 0x01, rest⟩
  | .readDiscipline p rest => some ⟨p, 0x03, rest⟩
  | .setDiscipline p rest => some ⟨p, 0x04, rest⟩
  | .setPoint p rest => some ⟨p, 0x11, rest⟩
  | .setPoints p rest => some ⟨p, 0x12, rest⟩
  | .readPoints p rest => some ⟨p, 0x10, rest⟩
  | .setBurst p rest => some ⟨p, 0x1A, rest⟩
  | .resetFirstOut p rest => some ⟨p, 0x1B, rest⟩
  | .ackTrips p rest => some ⟨p, 0x1C, rest⟩
  | .readFirstOut p rest => some ⟨p, 0x18, rest⟩
  | .readAnnunciation p rest => some ⟨p, 0x19, rest⟩
  | .setQueueMode p rest => some ⟨p, 0x22, rest⟩
  | .readEvents p rest => some ⟨p, 0x20, rest⟩
  | .subscribe p rest => some ⟨p, 0x21, rest⟩
  | .setTally p rest => some ⟨p, 0x29, rest⟩
  | .setDue p rest => some ⟨p, 0x2A, rest⟩
  | .presetTally p rest => some ⟨p, 0x2B, rest⟩
  | .readTally p rest => some ⟨p, 0x28, rest⟩
  | .setRota p rest => some ⟨p, 0x31, rest⟩
  | .acceptDuty p rest => some ⟨p, 0x32, rest⟩
  | .openHandover p rest => some ⟨p, 0x33, rest⟩
  | .releaseDuty p rest => some ⟨p, 0x34, rest⟩
  | .reclaimDuty p rest => some ⟨p, 0x35, rest⟩
  | .setHandover p rest => some ⟨p, 0x36, rest⟩
  | .readDuty p rest => some ⟨p, 0x30, rest⟩
  | .readShiftBook p rest => some ⟨p, 0x38, rest⟩
  | .setAlarm p rest => some ⟨p, 0x43, rest⟩
  | .setNotices p rest => some ⟨p, 0x41, rest⟩
  | .clearNotices p rest => some ⟨p, 0x42, rest⟩
  | .readNotices p rest => some ⟨p, 0x40, rest⟩
  | .setRights p rest => some ⟨p, 0x49, rest⟩
  | .readPort p rest => some ⟨p, 0x48, rest⟩
  | .setTime p rest => some ⟨p, 0x02, rest⟩
  | .setTimeImmediate p date ms => some ⟨p, 0x02, setTimeFrame date ms 0⟩
  | .setTimeAtMark p date ms => some ⟨p, 0x02, setTimeFrame date ms 1⟩
  | .setTimeWithdraw p date ms => some ⟨p, 0x02, setTimeFrame date ms 2⟩
  | .restart p rest _ _ => some ⟨p, 0x4F, rest⟩
  | .unknown p code rest => some ⟨p, code, rest⟩
  | .repeatedStartDiscard _ _ | .mark | .missingMarkTimeout | .holdoverLimitExpiry | .millisecondBoundary => none
  | .pointEdge _ _ | .debounceExpiry _ | .chatterWindowExpiry _ | .stabilityWaitExpiry _ | .quietWaitExpiry => none
  | .burstLimitExpiry | .qualificationComplete _ | .slotDue | .releaseDeadlineExpiry | .acceptDeadlineExpiry => none
  | .alarmReached _ | .pulseGapEnd _ | .mainLossWarning _ _ | .retentionLost | .returnQualificationStart => none
  | .returnQualificationStop | .returnOfSupply _ _ | .resetAssertion _ _ | .resetRearm | .oscillatorTick => none

/-- The fixed argument length of a request (R188); SET_ROTA has none. -/
def fixedLength (code : Byte) : Option Nat :=
  if [0x01, 0x03, 0x18, 0x19, 0x30, 0x40, 0x4F].contains code then some 0
  else if [0x1B, 0x20, 0x21, 0x22, 0x28, 0x32, 0x33, 0x34, 0x35, 0x42, 0x48].contains code then some 1
  else if [0x10, 0x1A, 0x38, 0x41].contains code then some 2
  else if code = 0x49 then some 4
  else if code = 0x36 then some 5
  else if code = 0x1C then some 6
  else if [0x02, 0x12, 0x2A, 0x43].contains code then some 7
  else if code = 0x11 then some 9
  else if code = 0x04 then some 10
  else if code = 0x2B then some 12
  else if code = 0x29 then some 15
  else none

/-! ### What an event may change -/

/-- At every port nothing but the pending notices and the line differs (R156). -/
def PortsKeep (s t : State) : Prop :=
  ∀ q, t.port q = { s.port q with pending := (t.port q).pending, line := (t.port q).line }

/-- At every port nothing but the pending notices and the line differs, but for the answer at the port of the request. -/
def PortsAnswer (s t : State) (p : Port) (payload : List Byte) : Prop :=
  ∀ q, t.port q =
    { (s.okAt p payload).port q with pending := (t.port q).pending, line := (t.port q).line }

/-- The notice is pending at every port. -/
def RaisedAtAll (n : Notice) (t : State) : Prop := ∀ q, (t.port q).pending.has n = true

/-- Every tally but `i` is the same. -/
def OtherTallies (i : Fin 12) (s t : State) : Prop := ∀ j, j ≠ i → t.entry j = s.entry j

/-- Every tally keeps what only requests write: its configuration and its due value (R104, R114). -/
def TalliesKeepSettings (s t : State) : Prop :=
  ∀ i, (t.entry i).config = (s.entry i).config ∧ (t.entry i).dueValue = (s.entry i).dueValue

/-- The ALARM notice of every port stands as the compare of R159 gives it: the quality is not UNSET, and the present instant is
at or after the alarm on the circle of 65,536 days. -/
def AlarmsCompared (t : State) : Prop :=
  ∀ q, (t.port q).pending.has .alarm =
    match (t.port q).alarm with
    | none => false
    | some a => decide (t.time.quality ≠ .unset) && decide (t.now.circleFrom a ≤ 32768 * 86400000 * 1000)

/-- Nothing comes due at a check of the duty unit (R127, R128): no deadline in force has passed, and no slot instant is later
than the last served one. -/
def NothingFallsDue (s : State) : Prop :=
  (∀ d, s.duty.state = .due → s.duty.handover.releaseDeadline = some d → s.now.atOrAfter d = false) ∧
    (∀ d, s.duty.state = .released → s.duty.handover.acceptDeadline = some d → s.now.atOrAfter d = false) ∧
    (s.time.quality = .unset ∨
      ∀ x, mostRecentSlot s.duty.rota s.now = some x →
        ∃ served, s.duty.lastServed = some served ∧ x.1.laterThan served = false)

/-! ### What a write or an event makes of one point or one tally -/

/-- A point after an entry is written to it at an instant and an elapsed time, with its line at a level (R55, R56). A new mode
takes the point fresh. Where the mode stays, a new polarity acts as an edge taken now, and then a chatter limit of 0 clears the
chatter state, a suppressed point taking its line's level (log entry 18). -/
def Point.written (x : Point) (e : PointEntry) (high : Bool) (now : Instant) (elapsed : Nat) : Point :=
  let level := match e.polarity with | .activeHigh => high | .activeLow => !high
  let inverted := decide (e.polarity ≠ x.entry.polarity ∧ e.mode ≠ .off)
  if e.mode ≠ x.entry.mode then ⟨e, decide (e.mode ≠ .off) && level, none, .clear⟩
  else match x.chatter with
    | .suppressed edges expiry =>
      { x with
        entry := e
        active := if e.chatterLimit = 0 then level else x.active
        debouncing := if inverted then none else x.debouncing
        chatter :=
          if e.chatterLimit = 0 then .clear
          else if inverted then
            .suppressed (if edges < 65535 then edges + 1 else 65535) (elapsed + e.chatterWindow * 1000 * 4096000000000)
          else .suppressed edges expiry }
    | chatter =>
      { x with
        entry := e
        debouncing :=
          if inverted then if level = x.active then none else some ⟨now, elapsed + e.debounce * 4096000000000, false⟩
          else x.debouncing
        chatter := if e.chatterLimit = 0 then .clear else chatter }

/-- A tally whose qualification completes with so many milliseconds to its credit (R107, R111, R113): it runs, one start is
counted, and the credit goes to the counts. The flag at a credit of 0 to a full count is the model's (log entry 17). -/
def Tally.started (x : Tally) (credit : Nat) : Tally :=
  let life := min 3599999999999 (x.lifetime + credit)
  { x with
    run := .running
    runLength := credit
    qualifyCount := 0
    starts := min 999999 (x.starts + 1)
    shiftStarts := min 65535 (x.shiftStarts + 1)
    lifetime := life
    shiftPortion := min 4294967295 (x.shiftPortion + credit)
    saturatedFlag :=
      x.saturatedFlag || decide (999999 ≤ x.starts) || decide (65535 ≤ x.shiftStarts) ||
        decide (3599999999999 < x.lifetime + credit ∨ x.lifetime = 3599999999999) ||
        decide (4294967295 < x.shiftPortion + credit ∨ x.shiftPortion = 4294967295)
    duePending := x.config.dueEnable && decide (x.dueValue ≤ life) }

/-- A tally after a millisecond boundary that it counts (R107, R109, R111, R113). -/
def Tally.counted (x : Tally) : Tally :=
  match x.run with
  | .idle => x
  | .qualifying =>
    if x.config.qualifyTime * 1000 ≤ x.qualifyCount + 1 then x.started (x.qualifyCount + 1)
    else { x with qualifyCount := x.qualifyCount + 1 }
  | .running =>
    let life := min 3599999999999 (x.lifetime + 1)
    { x with
      lifetime := life
      shiftPortion := min 4294967295 (x.shiftPortion + 1)
      runLength := min 3599999999999 (x.runLength + 1)
      saturatedFlag :=
        x.saturatedFlag || decide (3599999999999 ≤ x.lifetime) || decide (4294967295 ≤ x.shiftPortion)
      duePending := x.config.dueEnable && decide (x.dueValue ≤ life) }

/-- A tally after the restore action, by the run state held and the condition then found (table of R121; R106, R110). -/
def Tally.restored (x : Tally) (holds : Bool) : Tally :=
  let due := x.config.dueEnable && decide (x.dueValue ≤ x.lifetime)
  match x.run, holds, x.staged with
  | .running, false, none => { x with run := .idle, runLength := 0, duePending := due }
  | .running, false, some y =>
    { x with
      run := .idle, runLength := 0, lifetime := y.lifetime, starts := y.starts, presetFlag := true, staged := none
      duePending := x.config.dueEnable && decide (x.dueValue ≤ y.lifetime) }
  | .idle, true, _ =>
    if x.config.qualifyTime = 0 then x.started 0 else { x with run := .qualifying, qualifyCount := 0, duePending := due }
  | .qualifying, false, _ => { x with run := .idle, qualifyCount := 0, duePending := due }
  | _, _, _ => { x with duePending := due }

/-- A tally after the closing action (R120). -/
def Tally.closed (x : Tally) : Tally := if x.run = .qualifying then { x with run := .idle, qualifyCount := 0 } else x

/-- A slot's instant on a date lies strictly between two instants on the circle (R128). -/
def SlotBetween (rota : List Slot) (served due : Instant) (j : Instant) : Prop :=
  (∃ date x, date < 65536 ∧ x ∈ rota ∧ j = ⟨date, x.minute * 60000, 0⟩) ∧
    0 < j.circleFrom served ∧ j.circleFrom served < due.circleFrom served

/-- An instant in the ranges of station time (table of R1). -/
def Instant.inRange (i : Instant) : Prop := i.date < 65536 ∧ i.ms < 86400000 ∧ i.us < 1000

/-! ### Records -/

/-- A record as a port with this tally read mask receives it (R86, R97, R189): the kind and the body by the table of R189, the
value fields of a withheld tally at 0, and before them the header of 16 bytes. -/
def Record.laidOut (r : Record) (mask : BitVec 12) : List Byte :=
  let instant := fun i : Instant => beBytes 2 i.date ++ beBytes 4 i.ms ++ beBytes 2 i.us
  let withheld := match r.body with
    | .tallyRun t | .tallyStop t _ | .tallyDue t _ | .tallyPreset t _ _ _ _ _ => !mask.getLsbD t
    | _ => false
  let value := fun k v : Nat => beBytes k (if withheld then 0 else v)
  let body : Byte × List Byte := match r.body with
    | .point n active cause => (0x01, beBytes 1 n ++ [if active then 1 else 0] ++
        [match cause with | .change => (0 : Byte) | .afterChatter => 1 | .afterRestart => 2])
    | .chatter n phase count =>
      (0x02, beBytes 1 n ++ [match phase with | .suppressed => (0 : Byte) | .released => 1] ++ beBytes 2 count)
    | .firstOut first overflow entries => (0x03, instant first ++ beBytes 1 entries.length ++ beBytes 1 overflow ++
        entries.flatMap fun e => beBytes 1 e.1 ++ beBytes 4 e.2.toNat)
    | .timeStep e => (0x04, beSigned 4 e)
    | .timeSet old port mode =>
      (0x05, instant old ++ [portLetter port, match mode with | .immediate => (0 : Byte) | .atMark => 1])
    | .quality old new => (0x06, [old.code, new.code])
    | .tallyRun t => (0x07, beBytes 1 t)
    | .tallyStop t length => (0x08, beBytes 1 t ++ value 6 length)
    | .tallyDue t lifetime => (0x09, beBytes 1 t ++ value 6 lifetime)
    | .tallyPreset t crew oldLife newLife oldStarts newStarts => (0x0A, beBytes 1 t ++ beBytes 1 crew ++ value 6 oldLife ++
        value 6 newLife ++ value 4 oldStarts ++ value 4 newStarts)
    | .ack crew port points =>
      (0x0B, beBytes 1 crew ++ [portLetter port] ++ beBytes 1 points.length ++ points.flatMap fun n => beBytes 1 n)
    | .firstOutReset crew => (0x0C, beBytes 1 crew)
    | .handover phase outgoing incoming slot reoffers skipped =>
      (0x0D, [match phase with
        | .due => (0 : Byte) | .skipped => 1 | .opened => 2 | .released => 3 | .reclaimed => 4 | .taken => 5
        | .accepted => 6 | .overdue => 7 | .reoffered => 8 | .lapsedRevert => 9 | .lapsedStanding => 10] ++
        beBytes 1 outgoing ++ beBytes 1 incoming ++ (match slot with | none => [0xFF] | some k => beBytes 1 k) ++
        beBytes 1 reoffers ++ beBytes 1 skipped)
    | .rota slots => (0x0E, beBytes 1 slots)
    | .power cause start atStart atEnd =>
      (0x0F, [match cause with | .outage => (0 : Byte) | .resetLine => 1 | .restartRequest => 2 | .cold => 3] ++
        (match start with | none => [] | some i => instant i) ++ [atStart.code, atEnd.code])
  beBytes 1 (16 + body.2.length) ++ [body.1] ++ beBytes 2 r.seq ++ instant r.instant ++ [r.quality.code] ++
    beBytes 2 r.burst ++ beBytes 1 ((if r.outage then 1 else 0) + if r.withheld || withheld then 2 else 0) ++ body.2

/-- Whether a record that meets the queue is lost or displaces one (R90, R91): the queue is full and the reader set is not
empty. -/
def EventQueue.overflows (q : EventQueue) : Bool := q.anySubscribed && decide (queueRoom ≤ q.held.length)

/-- The queue with its oldest record removed and the loss counted at each of its readers (R91). -/
def EventQueue.withoutOldest (q : EventQueue) : EventQueue :=
  match q.held with
  | [] => q
  | h :: t =>
    let lose := fun (p : Port) (q : EventQueue) =>
      match h.readers.get p with
      | none => q
      | some g => q.addLoss p (g + 1)
    lose .c (lose .b (lose .a { q with held := t }))

/-- The queue after a record of its number is produced: entered (R88), discarded (R90), entered in place of the oldest (R91), or
not stored (R87). -/
def EventQueue.place (q : EventQueue) (r : Record) : EventQueue :=
  let enter := fun (q : EventQueue) =>
    { q with held := q.held ++ [⟨r, q.newReaders⟩], tailGap := q.clearedTails }
  let count := fun (p : Port) => if q.subscribed.get p then addGap (q.tailGap.get p) 1 else q.tailGap.get p
  if !q.anySubscribed then q
  else if q.held.length < queueRoom then enter q
  else match q.mode with
    | .keepOldest => { q with tailGap := ⟨count .a, count .b, count .c⟩ }
    | .keepNewest => enter q.withoutOldest

/-- The queue after a record is produced: it takes the number in the counter (R85), whatever becomes of it. -/
def EventQueue.report (q : EventQueue) (i : Instant) (quality : Quality) (burst : Nat) (outage : Bool) (body : RecordBody) :
    EventQueue :=
  { q with seq := (q.seq + 1) % 65536 }.place ⟨q.seq, i, quality, burst, outage, false, body⟩

/-- The header fields that a block gives a record it produces (R84). -/
structure Produced where
  instant : Instant
  quality : Quality
  burst : Nat
  outage : Bool
  body : RecordBody
  deriving DecidableEq, Repr

/-- The queue `q'` is `q` after some records are produced, and nothing else. -/
def EventQueue.Reports (q q' : EventQueue) : Prop :=
  ∃ l : List Produced, q' = l.foldl (fun q r => q.report r.instant r.quality r.burst r.outage r.body) q

/-- The record is one of a tally. -/
def RecordBody.ofTally : RecordBody → Bool
  | .tallyRun _ | .tallyStop _ _ | .tallyDue _ _ | .tallyPreset _ _ _ _ _ _ => true
  | .point _ _ _ | .chatter _ _ _ | .firstOut _ _ _ | .timeStep _ | .timeSet _ _ _ | .quality _ _ | .ack _ _ _ => false
  | .firstOutReset _ | .handover _ _ _ _ _ _ | .rota _ | .power _ _ _ _ => false

/-- The queue `q'` is `q` after the records of the restore actions of a state whose runs of the tallies in `ends` end there (R59,
R84, R110, R121, R146). Each record carries the OUTAGE flag, but for the tally records of a duty that lapses into VACANT, which
is an ordinary input change. Among them are the TALLY_STOP of each such run that is recorded, the RELEASED record of each suppressed
point, and the HANDOVER record of a release deadline that has passed. -/
def RestoreRecords (s : State) (lapsed : Prop) (ends : Fin 12 → Prop) (q q' : EventQueue) : Prop :=
  ∃ l : List Produced, q' = l.foldl (fun q r => q.report r.instant r.quality r.burst r.outage r.body) q ∧
    (∀ r ∈ l, r.instant = s.now ∧ r.quality = s.time.quality ∧ r.burst = 0 ∧
      (r.outage = true ∨ lapsed ∧ r.body.ofTally = true)) ∧
    (∀ i, ends i → (s.entry i).run = .running → (s.entry i).config.recordTransitions = true →
      ⟨s.now, s.time.quality, 0, true, .tallyStop i.val (s.entry i).runLength⟩ ∈ l) ∧
    (∀ n edges w, (s.point n).entry.mode ≠ .off → (s.point n).chatter = .suppressed edges w →
      ⟨s.now, s.time.quality, 0, true, .chatter n.val .released edges⟩ ∈ l) ∧
    ∀ d, s.duty.state = .due → s.duty.handover.releaseDeadline = some d → s.now.atOrAfter d = true →
      ⟨s.now, s.time.quality, 0, true,
        .handover .overdue s.duty.crew s.duty.handover.expected s.duty.handover.slot s.duty.handover.reoffers 0⟩ ∈ l

/-- The queue after a record is produced now by a state (R84). -/
def State.reported (s : State) (outage : Bool) (body : RecordBody) : EventQueue :=
  s.queue.report s.now s.time.quality s.burstNumber outage body

/-! ### The trip unit at a change of a TRIP point -/

/-- The latch at an activation (R68, R69, R72). -/
def TripUnit.latched (t : TripUnit) (n : Nat) (i : Instant) : TripUnit :=
  match t.latch with
  | .armed =>
    { t with
      latch := .provisional
      latchingBurst := match t.burst with | none => 0 | some b => b.number
      ranked := [⟨n, i, 0⟩]
      overflow := 0 }
  | .provisional => t.rank n i
  | .final => t

/-- The trip unit after a confirmed change of a point: its POINT record opens or prolongs the burst and is counted (R61, R63,
R77) in RECORD and TRIP; in TRIP the entry moves (R74), an activation is counted (R77) and the latch acts. -/
def TripUnit.afterChange (t : TripUnit) (elapsed : Nat) (mode : PointMode) (n : Fin 32) (active : Bool) (i : Instant) :
    TripUnit :=
  match mode with
  | .off | .status => t
  | .record => t.onPointRecord elapsed
  | .trip =>
    let u := t.onPointRecord elapsed
    let u := u.withEntry n ((u.entry n).moved active)
    if active then { u with tripCount := bumpTo count16Max u.tripCount }.latched n.val i else u

/-! ### Invariants -/

/-- The clock and the trims stay in their ranges (tables of R1 and R20; R4, R14). -/
def ClockInRange (s : State) : Prop :=
  s.time.date < 65536 ∧ s.time.ms < dayMs ∧ s.time.q < millisecondUnits ∧
    s.discipline.freqTrim.natAbs ≤ 200000 ∧ s.discipline.slewTrim.natAbs ≤ 500000 ∧
    ∀ x, s.time.staged = some x → x.date < 65536 ∧ x.ms < dayMs ∧ x.ms % 1000 = 0

/-- A record follows another in a port's stream by its sequence number and its lead gap, unless the gap is saturated (R96). -/
def Held.follows (p : Port) (a b : Held) : Prop :=
  b.leadGap p < 65535 → b.record.seq = (a.record.seq + 1 + b.leadGap p) % 65536

/-- Every record of a list follows the one before it. -/
def Sequenced (p : Port) : List Held → Prop
  | [] => True
  | [_] => True
  | a :: b :: t => a.follows p b ∧ Sequenced p (b :: t)

/-- The queue holds at most 128 records, each with a nonempty reader set of subscribed ports (R87); in each port's stream the
sequence numbers and the lead gaps agree, and after its newest record the counter and the tail gap do (R85, R89, R96). -/
def QueueInOrder (s : State) : Prop :=
  s.queue.held.length ≤ queueRoom ∧ s.queue.seq < 65536 ∧
    (∀ h ∈ s.queue.held, h.wanted = true ∧ h.record.seq < 65536 ∧
      ∀ p, h.readBy p = true → s.queue.subscribed.get p = true) ∧
    ∀ p, Sequenced p (s.queue.stream p) ∧
      ∀ last, (s.queue.stream p).getLast? = some last → s.queue.tailGap.get p < 65535 →
        s.queue.seq = (last.record.seq + 1 + s.queue.tailGap.get p) % 65536

/-- The ranked list stands in the order of R69. -/
def Ranking (l : List Ranked) : Prop := l.Pairwise fun a b => a.instant.le b.instant = true

/-- The first-out latch, its list and the burst agree (R61, R68 to R73). -/
def LatchCoherent (s : State) : Prop :=
  (s.trip.latch = .armed → s.trip.ranked = [] ∧ s.trip.overflow = 0 ∧ s.trip.latchingBurst = 0) ∧
    (s.trip.latch = .provisional → ∃ b, s.trip.burst = some b ∧ s.trip.latchingBurst = b.number) ∧
    (s.trip.latch ≠ .armed → s.trip.ranked ≠ []) ∧
    Ranking s.trip.ranked ∧ s.trip.ranked.length ≤ 16 ∧ s.trip.overflow ≤ 255 ∧ s.trip.lastBurst ≤ 65535 ∧
    ∀ b, s.trip.burst = some b → b.number = s.trip.lastBurst ∧ 1 ≤ b.number

/-- A standing annunciation entry is that of a TRIP point in the state it shows (R54, R74), and a point in OFF is inactive with
no debounce and no chatter state (R41, R55). -/
def AnnunciationCoherent (s : State) : Prop :=
  ∀ n, (s.trip.entry n ≠ .normal → (s.point n).entry.mode = .trip) ∧
    (s.trip.entry n = .activeUnack ∨ s.trip.entry n = .activeAck → (s.point n).active = true) ∧
    (s.trip.entry n = .returnedUnack → (s.point n).active = false) ∧
    ((s.point n).entry.mode = .off →
      (s.point n).active = false ∧ (s.point n).debouncing = none ∧ (s.point n).chatter = .clear)

/-- A slot in the ranges of R124. -/
def Slot.fits (x : Slot) : Prop := x.minute ≤ 1439 ∧ x.crew ≤ 15

/-- A rota as R124 and R125 want it. -/
def RotaFits (rota : List Slot) : Prop :=
  rota.length ≤ 6 ∧ (∀ x ∈ rota, x.fits) ∧ rota.Pairwise fun a b => a.minute < b.minute

/-- The duty record (chapter table of R123): VACANT has no crew and no port; any other state has a crew 1 to 15 and a port that
holds DUTY (R135); the handover fields are clear outside a handover; the deadlines are in force one at a time; the settings
and the rotas are in range; port A holds every right and the full mask (R173). -/
def DutyCoherent (s : State) : Prop :=
  (s.duty.state = .vacant → s.duty.crew = 0 ∧ s.duty.port = none) ∧
    (s.duty.state ≠ .vacant →
      1 ≤ s.duty.crew ∧ s.duty.crew ≤ 15 ∧ ∃ p, s.duty.port = some p ∧ (s.port p).rights.duty = true) ∧
    (s.duty.state = .vacant ∨ s.duty.state = .onDuty → s.duty.handover = .clear) ∧
    (s.duty.state = .due → s.duty.handover.acceptDeadline = none) ∧
    (s.duty.state = .released → s.duty.handover.acceptDeadline.isSome = true) ∧
    s.duty.handover.expected ≤ 15 ∧ s.duty.handover.reoffers ≤ 7 ∧ (∀ k, s.duty.handover.slot = some k → k < 6) ∧
    RotaFits s.duty.rota ∧ (∀ r, s.duty.pendingRota = some r → RotaFits r) ∧
    s.duty.settings.reofferLimit ≤ 7 ∧ s.duty.settings.standingCrew ≤ 15 ∧
    (s.port .a).rights = ⟨true, true, true, true⟩ ∧ (s.port .a).readMask = 0xFFF

/-- Each shift book record starts where the one written before it ends, with the next number (R149, R150); the current shift
starts where the newest record ends, and the next number follows the newest record's. -/
def BookJoined : List BookRecord → Prop
  | [] => True
  | [_] => True
  | new :: old :: t =>
    new.shiftStart = old.shiftEnd ∧ new.number = nextHandoverNumber old.number ∧ BookJoined (old :: t)

/-- The shift book holds at most 8 records, joined to one another and to the current shift (R148 to R150). -/
def BookInOrder (s : State) : Prop :=
  s.book.records.length ≤ 8 ∧ BookJoined s.book.records ∧
    ∀ r, s.book.records.head? = some r →
      s.book.shiftStart = r.shiftEnd ∧ s.book.nextNumber = nextHandoverNumber r.number

/-- The line of a port agrees with its pending-and-enabled notices (R164, R165). -/
def PortUnit.lineAgrees (u : PortUnit) : Prop :=
  match u.style, u.line with
  | .level, line => line = plainLine u.wanted
  | .pulse, .inactive => u.wanted = 0
  | .pulse, .active => u.wanted ≠ 0
  | .pulse, .gap _ => True

/-- In RUN every port's line follows its notices and the notices EVENTS and TALLY_DUE hold exactly while their conditions do
(R158, R164, R165); in BACKUP nothing is pending and every line is inactive (R167). -/
def AttentionFollows (s : State) : Prop :=
  ∀ p, if s.running then
      (s.port p).lineAgrees ∧ (s.port p).pending.has .events = !(s.queue.stream p).isEmpty ∧
        (s.port p).pending.has .tallyDue = ((s.dueTallies &&& (s.port p).readMask) != 0)
    else (s.port p).pending = 0 ∧ (s.port p).line = .inactive

/-- A tally short of its qualify time while it qualifies (R107) and within its limits (R111, R114, R115), due exactly while R113
says so, with a staged preset only in a run. -/
def Tally.coherent (t : Tally) : Prop :=
  (t.run = .qualifying → t.qualifyCount < t.config.qualifyTime * 1000) ∧
    t.lifetime ≤ lifetimeMax ∧ t.starts ≤ startsMax ∧ t.shiftPortion ≤ shiftPortionMax ∧ t.shiftStarts ≤ count16Max ∧
    t.dueValue ≤ lifetimeMax ∧ t.duePending = t.dueHolds ∧
    ∀ x, t.staged = some x → t.run = .running ∧ x.lifetime ≤ lifetimeMax ∧ x.starts ≤ startsMax

/-- Every tally is within its limits. In RUN the tally unit has its inputs as their owners have them (R102) and a tally is out
of IDLE exactly while its condition holds (R103); in BACKUP the unit is paused and no tally is QUALIFYING (R120). -/
def TalliesFollow (s : State) : Prop :=
  (∀ i, (s.entry i).coherent) ∧
    if s.running then
      s.tally.paused = false ∧ s.tally.inputs = s.presentInputs ∧
        ∀ i, (s.entry i).run = .idle ↔ s.condition i = false
    else s.tally.paused = true ∧ ∀ i, (s.entry i).run ≠ .qualifying

end Sys2Proof.Machine
end

