-- ==== Sys2Proof/WellFormed.lean ====
section
/-!
DEFINITION. Well-formedness of a command: whether its operands can occur with its row of the table. The type of a command
already bounds points, tallies, ports, dates and milliseconds; what is left are the two rows that the table tells from
others by the bytes of the frame. `exec` does not ask for it: it gives every frame the effect R170 gives it (log entry 8).
-/

namespace Sys2Proof

/-- The request codes of R188. -/
def requestCodes : List Byte :=
  [0x01, 0x02, 0x03, 0x04, 0x10, 0x11, 0x12, 0x18, 0x19, 0x1A, 0x1B, 0x1C, 0x20, 0x21, 0x22, 0x28, 0x29] ++
  [0x2A, 0x2B, 0x30, 0x31, 0x32, 0x33, 0x34, 0x35, 0x36, 0x38, 0x40, 0x41, 0x42, 0x43, 0x48, 0x49, 0x4F]

/-- A SET_TIME frame with a good shape and length whose mode is IMMEDIATE, AT_MARK or WITHDRAW (R12, R188): it belongs to one
of the three rows of those modes. -/
def namesASetTimeMode : List Byte → Bool
  | [len, _, _, _, _, _, _, mode] => len == 7 && decide (mode.toNat < 3)
  | _ => false

/-- The operands of the command fit its row. -/
def Instr.wellFormed : Instr → Bool
  | .unknown _ code _ => !requestCodes.contains code
  | .setTime _ rest => !namesASetTimeMode rest
  | _ => true

end Sys2Proof
end

