-- ==== Sys2Proof/Certificates/Slice0/Obligations.lean ====
section
/-!
DEFINITION. The statements for the provers. OBLIGATIONS.json lists them with the rules they rest on. Where a statement rests
on a choice of the model, its docstring names the log entry.
-/

open Sys2Proof Sys2Proof.Machine

/-! ### The machine -/

/-- One step takes the command at the front of the queue and runs it on the state with the queue's rest; on an empty queue the part
idles (DESIGN CHOICE, log entry 2). -/
def Obligations.StepRunsTheFrontCommand : Prop :=
  (∀ (c : Instr) (rest : List Instr) (s : State),
     step { s with pending := c :: rest } = exec c { s with pending := rest }) ∧
  (∀ s : State, s.pending = [] → step s = .next s)

/-- No command stops the part, and no command touches the queue of the commands that wait. -/
def Obligations.EveryCommandCompletesAndLeavesTheQueue : Prop :=
  ∀ (c : Instr) (s : State), ∃ t, exec c s = .next t ∧ t.pending = s.pending

/-- What the cold start of R184 leaves: every block at its cold values, the POWER record with cause COLD alone in the queue with
number 0 and reader set A, B, C, EVENTS pending and the line active at every port. The levels of the lines and the pins are
those of the outside world. `State.reset` is this state for the pin levels of log entry 3. -/
def Obligations.ColdStartTakesColdValues : Prop :=
  (∀ (s : State) (pins : AddressPins) (high : Bool) (e : Nat),
    s.running = false → s.supply.retentionValid = false → s.supply.qualification = some e → e ≤ s.elapsed →
      exec (.returnOfSupply pins high) s = .next
        { State.cold s.lines pins high s.freeIndex s.pending with
          queue := { EventQueue.cold with held := [⟨.powerCold, .const (some 0)⟩], seq := 1 }
          ports := ⟨(coldPorts pins).a.withEvents, (coldPorts pins).b.withEvents, (coldPorts pins).c.withEvents⟩ }) ∧
    State.reset =
      { State.cold 0 ⟨false, false, false⟩ true 0 [] with
        queue := { EventQueue.cold with held := [⟨.powerCold, .const (some 0)⟩], seq := 1 }
        ports :=
          ⟨(coldPorts ⟨false, false, false⟩).a.withEvents, (coldPorts ⟨false, false, false⟩).b.withEvents,
            (coldPorts ⟨false, false, false⟩).c.withEvents⟩ }

/-! ### Invariants -/

/-- The state right after the cold start meets the invariants below. -/
def Obligations.ResetMeetsTheInvariants : Prop :=
  ClockInRange .reset ∧ QueueInOrder .reset ∧ LatchCoherent .reset ∧ AnnunciationCoherent .reset ∧ DutyCoherent .reset ∧
    BookInOrder .reset ∧ AttentionFollows .reset ∧ TalliesFollow .reset

/-- Every step keeps the clock and the trims in their ranges. -/
def Obligations.StepKeepsTheClockInRange : Prop :=
  ∀ s t : State, ClockInRange s → step s = .next t → ClockInRange t

/-- Every step keeps the queue in order: at most 128 records, reader sets of subscribed ports, and in every port's stream
sequence numbers that run on, with the gaps between its records and after its newest one reported. -/
def Obligations.StepKeepsTheQueueInOrder : Prop :=
  ∀ s t : State, QueueInOrder s → step s = .next t → QueueInOrder t

/-- Every step keeps the first-out latch, the ranked list and the burst in agreement. -/
def Obligations.StepKeepsTheLatchCoherent : Prop :=
  ∀ s t : State, LatchCoherent s → step s = .next t → LatchCoherent t

/-- Every step keeps a standing annunciation entry on a TRIP point in the state it shows, and an OFF point at rest. -/
def Obligations.StepKeepsAnnunciationOnTripPoints : Prop :=
  ∀ s t : State, AnnunciationCoherent s → step s = .next t → AnnunciationCoherent t

/-- Every step keeps the duty record coherent: duty has a crew and a port with the DUTY right, or neither. Every step keeps the
shift book a joined chain of at most eight records. -/
def Obligations.StepKeepsTheDutyRecordAndTheShiftBook : Prop :=
  (∀ s t : State, DutyCoherent s → step s = .next t → DutyCoherent t) ∧
  (∀ s t : State, BookInOrder s → step s = .next t → BookInOrder t)

/-- Every step keeps the attention lines and the level notices with their conditions. The compare of ALARM is made at boundaries
and rewrites alone (R159) and is not part of this. -/
def Obligations.StepKeepsAttentionWithTheNotices : Prop :=
  ∀ s t : State, AttentionFollows s → step s = .next t → AttentionFollows t

/-- Every step keeps every tally within its limits and with its condition, and the tally unit with its inputs. -/
def Obligations.StepKeepsTalliesWithTheirConditions : Prop :=
  ∀ s t : State, TalliesFollow s → step s = .next t → TalliesFollow t

/-! ### Ticks -/

/-- OSCILLATOR_TICK (R2 to R5): after what has come due is taken (`settle`, log entry 5), a tick below the modulus adds
1,000,000,000 + T to Q and to elapsed time and changes nothing else. At a sum of the modulus or more Q keeps the rest, the clock
carries into the millisecond and the date, and the boundary waits to be taken at this tick (log entry 5). With retention lost the time base stands still, and a
return qualification alone counts untrimmed ticks (R182, R184); what a qualification counts after a marker lost during it is
the model's choice (log entry 19). -/
def Obligations.TickAddsTheTrimmedIncrement : Prop :=
  ∀ s u : State, settle s = u →
    (u.retentionRuns = true → u.time.q + (1000000000 + u.trim).toNat < 4096000000000 →
      exec .oscillatorTick s = .next
        { u with
          elapsed := u.elapsed + (1000000000 + u.trim).toNat
          time := { u.time with q := u.time.q + (1000000000 + u.trim).toNat } }) ∧
    (u.retentionRuns = true → 4096000000000 ≤ u.time.q + (1000000000 + u.trim).toNat →
      exec .oscillatorTick s = .next
        { u with
          elapsed := u.elapsed + (1000000000 + u.trim).toNat
          boundaryAt := some (u.elapsed + (1000000000 + u.trim).toNat)
          boundaryWaits := true
          time := { u.time with
            q := u.time.q + (1000000000 + u.trim).toNat - 4096000000000
            ms := if u.time.ms + 1 = 86400000 then 0 else u.time.ms + 1
            date :=
              if u.time.ms + 1 = 86400000 then if u.time.date = 65535 then 0 else u.time.date + 1
              else u.time.date } }) ∧
    (u.retentionRuns = false → u.supply.qualification.isSome = true →
      exec .oscillatorTick s = .next { u with elapsed := u.elapsed + 1000000000 }) ∧
    (u.retentionRuns = false → u.supply.qualification = none → exec .oscillatorTick s = .next u)

/-- MILLISECOND_BOUNDARY (R2, R3, R107, R109, R111, R113, R127, R159): after what has come due before it is taken (`settle`), a tick
whose sum reaches the modulus carries into the millisecond and the date; every tally of an unpaused unit counts the boundary,
which completes a qualification whose time it reaches. A qualification that completes gives its TALLY_RUN record, where the tally
records transitions, and due pending that turns on its TALLY_DUE record, tally by tally in ascending order (log entry 28).
Then, in RUN, the duty unit makes its check and every port its alarm compare. A boundary that waits at its tick is taken in the
same way, and one that has been taken is not taken again; below the
modulus the command is a plain tick (log entry 7). When a boundary can wait is log entry 5, the order of the blocks log entry 33. -/
def Obligations.BoundaryAdvancesTheClockAndTheTallies : Prop :=
  (∀ s : State, s.boundaryAt = some s.elapsed → s.boundaryWaits = false → exec .millisecondBoundary s = .next s) ∧
  (∀ s u : State, settle s = u → s.boundaryAt ≠ some s.elapsed →
    u.retentionRuns = false ∨ u.time.q + (1000000000 + u.trim).toNat < 4096000000000 →
    exec .millisecondBoundary s = exec .oscillatorTick s) ∧
  ∀ s u : State,
    (s.boundaryAt = some s.elapsed ∧ s.boundaryWaits = true ∧ u = { s with boundaryWaits := false }) ∨
      (s.boundaryAt ≠ some s.elapsed ∧ (settle s).retentionRuns = true ∧
        4096000000000 ≤ (settle s).time.q + (1000000000 + (settle s).trim).toNat ∧
        let x := settle s
        let elapsed := x.elapsed + (1000000000 + x.trim).toNat
        u = { x with
          elapsed := elapsed
          boundaryAt := some elapsed
          boundaryWaits := false
          time := { x.time with
            q := x.time.q + (1000000000 + x.trim).toNat - 4096000000000
            ms := if x.time.ms + 1 = 86400000 then 0 else x.time.ms + 1
            date :=
              if x.time.ms + 1 = 86400000 then if x.time.date = 65535 then 0 else x.time.date + 1 else x.time.date } }) →
    ∃ v t : State, exec .millisecondBoundary s = .next t ∧
      v = { u with tally := v.tally, queue := v.queue, ports := v.ports } ∧
      PortsKeep u v ∧
      (u.tally.paused = true → v.tally = u.tally ∧ v.queue = u.queue ∧ v.ports = u.ports) ∧
      (u.tally.paused = false → u.queue.Reports v.queue ∧ v.tally.inputs = u.tally.inputs ∧ v.tally.paused = false ∧
        (∀ i, v.entry i = (u.entry i).counted) ∧
        v.queue = (List.finRange 12).foldl (fun q i =>
          let x := u.entry i
          let y := x.counted
          let report := fun (q : EventQueue) body => q.report u.now u.time.quality u.burstNumber false body
          let ran :=
            if x.run = .qualifying ∧ y.run = .running ∧ x.config.recordTransitions = true then report q (.tallyRun i.val) else q
          if x.duePending = false ∧ y.duePending = true then report ran (.tallyDue i.val y.lifetime) else ran) u.queue) ∧
      (u.running = false → t = v) ∧
      (u.running = true → t = { dutyCheck false v with ports := t.ports } ∧ PortsKeep v t ∧ AlarmsCompared t ∧
        (NothingFallsDue v → t = { v with ports := t.ports } ∧
          ∀ q m, m ≠ .alarm → (t.port q).pending.has m = (v.port q).pending.has m))

/-! ### Setting the time -/

/-- A SET_TIME frame is checked in the order of R12, whatever its date and millisecond; the first check that fails gives the
refusal, and an accepted request answers with the READ_TIME payload of the state it leaves. The four rows of SET_TIME are the
forms of the frame. -/
def Obligations.SetTimeChecksInOrder : Prop :=
  ∀ (p : Port) (date : BitVec 16) (ms : BitVec 32) (mode : Byte) (s : State), s.running = true →
    let frame := 7 :: (beBytes 2 date.toNat ++ beBytes 4 ms.toNat ++ [mode])
    let outcome := exec (.setTime p frame) s
    (mode = 0 → exec (.setTimeImmediate p date ms) s = outcome) ∧
    (mode = 1 → exec (.setTimeAtMark p date ms) s = outcome) ∧
    (mode = 2 → exec (.setTimeWithdraw p date ms) s = outcome) ∧
    (if (s.port p).rights.time = false then outcome = .next (s.refusedAt p 0x02 .denied 0)
    else if 3 ≤ mode.toNat then outcome = .next (s.refusedAt p 0x02 .range mode.toNat)
    else if mode.toNat ≤ 1 ∧ 86400000 ≤ ms.toNat then outcome = .next (s.refusedAt p 0x02 .range 0)
    else if mode = 0 ∧ s.trip.burst.isSome = true then outcome = .next (s.refusedAt p 0x02 .busy 0)
    else ∃ t, outcome = .next t ∧ (t.port p).response = .ok (timePayload t))

/-- SET_TIME IMMEDIATE (R6, R7, R9, R11, R13, R45, R127, R143, R159): the instant, Q, the quality, the TIME_SET record with the
instant before the set and then any QUALITY record, the debounces in progress moved with their expiries kept, each until its expiry
is taken (log entry 32); F, S, the counters, the flag and the staged set as they were. The first set hands the most recent slot to the duty unit as served;
then the duty unit makes its check at the new instant and every port its alarm compare (log entry 33). -/
def Obligations.ImmediateSetRewritesTheTime : Prop :=
  ∀ (p : Port) (date : BitVec 16) (ms : BitVec 32) (s : State),
    s.running = true → (s.port p).rights.time = true → ms.toNat < 86400000 → s.trip.burst = none →
    ∃ t, exec (.setTimeImmediate p date ms) s = .next t ∧
      t = { s with
        time := t.time, points := t.points, queue := t.queue, tally := t.tally, duty := t.duty, ports := t.ports } ∧
      PortsAnswer s t p (timePayload t) ∧ TalliesKeepSettings s t ∧
      t.time = { s.time with
        date := date.toNat, ms := ms.toNat, q := 0
        quality := if s.time.quality = .unset then .free else s.time.quality } ∧
      (let old := s.now
      let new : Instant := ⟨date.toNat, ms.toNat, 0⟩
      let set := s.queue.report new s.time.quality 0 false (.timeSet old p .immediate)
      (if s.time.quality = .unset then
        (set.report new .free 0 false (.quality .unset .free)).Reports t.queue ∧ RaisedAtAll .quality t
      else set.Reports t.queue) ∧
      ∀ n, t.point n = { s.point n with
        debouncing := (s.point n).debouncing.map fun d => { d with start := d.start.addUs (new.minus old) } }) ∧
      AlarmsCompared t ∧
      let handed :=
        if s.time.quality = .unset then
          { s.duty with lastServed := (mostRecentSlot s.duty.rota ⟨date.toNat, ms.toNat, 0⟩).map fun x => x.1 }
        else s.duty
      t.duty = (dutyCheck false { s with time := t.time, duty := handed }).duty

/-- SET_TIME AT_MARK stages a whole second and WITHDRAW discards what is staged (R14, R16): nothing else changes but the answer
at the port, whether or not a burst is open. -/
def Obligations.StagedSetIsStoredOrWithdrawn : Prop :=
  ∀ (p : Port) (date : BitVec 16) (ms : BitVec 32) (s : State), s.running = true → (s.port p).rights.time = true →
    (ms.toNat < 86400000 →
      let t := s.withTime { s.time with staged := some ⟨date.toNat, ms.toNat - ms.toNat % 1000, p⟩ }
      exec (.setTimeAtMark p date ms) s = .next (t.okAt p (timePayload t))) ∧
    (let t := s.withTime { s.time with staged := none }
    exec (.setTimeWithdraw p date ms) s = .next (t.okAt p (timePayload t)))

/-! ### Marks and discipline -/

/-- A mark that comes less than 800 ms of elapsed time after the last accepted one increases the rejected-mark count and has no
other effect; no mark is taken in BACKUP, or at the tick of a warm restart that went first (R21, R22). An accepted mark while the
quality is UNSET, with no staged set to apply, restarts the timers and becomes the last accepted mark, and nothing else changes
(R22, R25). -/
def Obligations.UnmeasuredMarksTouchOnlyTheDiscipline : Prop :=
  (∀ s : State, s.running = false ∨ s.supply.restartAt = some s.elapsed → exec .mark s = .next s) ∧
  (∀ (s : State) (at_ : Nat), s.discipline.lastMarkAt = some at_ → s.running = true →
     s.supply.restartAt ≠ some s.elapsed → s.elapsed < at_ + 800 * 4096000000000 →
       exec .mark s = .next
         { s with discipline := { s.discipline with rejectedMarks :=
             if s.discipline.rejectedMarks < 65535 then s.discipline.rejectedMarks + 1 else 65535 } }) ∧
  (∀ s : State, s.takesMark = true → s.acceptsMark = true → s.time.quality = .unset →
     s.time.staged = none ∨ s.trip.burst.isSome = true →
       exec .mark s = .next
         { s with discipline := { s.discipline with
             lastMark := some s.now
             lastMarkAt := some s.elapsed
             missingMark := some (s.elapsed + 1200 * 4096000000000) } })

/-- A measured mark that does not step (R24, R26, R27, R29 to R34): the offset, S clamped, F learned at a consecutive mark
below the step limit, the lock count, the step-pending flag of a deferred step, and at most one quality transition. -/
def Obligations.SlewMarkSetsTheTrims : Prop :=
  ∀ (s : State) (e u : Int), s.takesMark = true → s.acceptsMark = true → s.time.quality ≠ .unset →
    s.time.staged = none ∨ s.trip.burst.isSome = true →
    u = ((s.time.ms % 1000 * 1000 + s.time.q / 4096000000 : Nat) : Int) → e = (if u < 500000 then u else u - 1000000) →
    let d := s.discipline
    let due := d.settings.stepEnable && decide (((d.settings.stepLimit * 1000 : Nat) : Int) ≤ e.natAbs)
    (due = true → s.trip.burst.isSome = true) →
    let fresh := decide (s.time.quality = .free ∨ s.time.quality = .holdover)
    let inside := decide (e.natAbs ≤ d.settings.lockWindow)
    let lock := if fresh then 0 else d.lockCounter
    let unlock := if fresh then 0 else d.unlockCounter
    let counted : Quality × Nat × Nat :=
      if s.time.quality = .locked then
        if inside then (.locked, lock, 0) else if 3 ≤ unlock then (.acquiring, 0, 0) else (.locked, lock, unlock + 1)
      else
        if inside then if 3 ≤ lock then (.locked, 0, 0) else (.acquiring, lock + 1, unlock) else (.acquiring, 0, unlock)
    ∃ t, exec .mark s = .next t ∧
      t = { s with
        time := t.time, discipline := t.discipline, queue := t.queue, tally := t.tally, ports := t.ports } ∧
      PortsKeep s t ∧ TalliesKeepSettings s t ∧
      t.time = { s.time with quality := counted.1 } ∧
      t.discipline = { d with
        lastMark := some s.now
        lastMarkAt := some s.elapsed
        missingMark := some (s.elapsed + 1200 * 4096000000000)
        lastOffset := e
        slewTrim := max (-500000) (min 500000 (-e * 1000))
        freqTrim :=
          if d.missingMark.isSome = true ∧ e.natAbs < d.settings.stepLimit * 1000 then
            max (-200000) (min 200000 (d.freqTrim - (e * 1000).tdiv d.settings.loopDivisor))
          else d.freqTrim
        stepPending := due
        lockCounter := counted.2.1
        unlockCounter := counted.2.2 } ∧
      if counted.1 = s.time.quality then t.queue = s.queue ∧ t.ports = s.ports ∧ t.tally = s.tally
      else
        (s.queue.report s.now counted.1 s.burstNumber false (.quality s.time.quality counted.1)).Reports t.queue ∧
          RaisedAtAll .quality t

/-- A step mark (R7, R8, R24, R28, R34, R127, R143, R159): the time becomes the nearest whole second across dates, S and both counters
become 0, F is kept, the quality becomes ACQUIRING, and the TIME_STEP record comes before any QUALITY record; the duty unit makes
its check at the new instant and every port its alarm compare (log entry 33). -/
def Obligations.StepMarkMovesToTheWholeSecond : Prop :=
  ∀ (s : State) (u : Nat) (e : Int), s.takesMark = true → s.acceptsMark = true → s.time.quality ≠ .unset →
    s.time.staged = none → s.trip.burst = none → s.time.date < 65536 → s.time.ms < 86400000 →
    s.time.q < 4096000000000 →
    u = s.time.ms % 1000 * 1000 + s.time.q / 4096000000 → e = (if u < 500000 then (u : Int) else (u : Int) - 1000000) →
    s.discipline.settings.stepEnable = true → s.discipline.settings.stepLimit * 1000 ≤ e.natAbs →
    let second := s.time.ms - s.time.ms % 1000
    let new : Instant :=
      if u < 500000 then ⟨s.time.date, second, 0⟩
      else if second + 1000 < 86400000 then ⟨s.time.date, second + 1000, 0⟩
      else if s.time.date = 65535 then ⟨0, 0, 0⟩ else ⟨s.time.date + 1, 0, 0⟩
    ∃ t, exec .mark s = .next t ∧
      t = { s with
        time := t.time, discipline := t.discipline, points := t.points, queue := t.queue, tally := t.tally,
        duty := t.duty, ports := t.ports } ∧
      PortsKeep s t ∧ TalliesKeepSettings s t ∧
      t.time = { s.time with date := new.date, ms := new.ms, q := 0, quality := .acquiring } ∧
      t.discipline = { s.discipline with
        lastMark := some new
        lastMarkAt := some s.elapsed
        missingMark := some (s.elapsed + 1200 * 4096000000000)
        lastOffset := e
        slewTrim := 0
        stepPending := false
        lockCounter := 0
        unlockCounter := 0 } ∧
      (∀ n, t.point n = { s.point n with
        debouncing := (s.point n).debouncing.map fun d => { d with start := d.start.addUs (new.minus s.now) } }) ∧
      t.duty = (dutyCheck false { s with time := t.time }).duty ∧ AlarmsCompared t ∧
      let step := s.queue.report new s.time.quality 0 false (.timeStep e)
      if s.time.quality = .acquiring then step.Reports t.queue
      else (step.report new .acquiring 0 false (.quality s.time.quality .acquiring)).Reports t.queue ∧ RaisedAtAll .quality t

/-- A staged set applied at an accepted mark while no burst is open (R7, R11, R15, R45, R127, R143, R159): the staged instant, the
TIME_SET record with the local instant before the set, the quality ACQUIRING, S, the counters and the flag 0, F and the last
offset kept, the debounces in progress moved. The first set hands the most recent slot to the duty unit as served; then the duty
unit makes its check at the new instant and every port its alarm compare (log entry 33). -/
def Obligations.AcceptedMarkAppliesAStagedSet : Prop :=
  ∀ (s : State) (x : StagedSet), s.takesMark = true → s.acceptsMark = true → s.time.staged = some x → s.trip.burst = none →
    ∃ t, exec .mark s = .next t ∧
      t = { s with
        time := t.time, discipline := t.discipline, points := t.points, queue := t.queue, tally := t.tally,
        duty := t.duty, ports := t.ports } ∧
      PortsKeep s t ∧ TalliesKeepSettings s t ∧
      t.time = { s.time with date := x.date, ms := x.ms, q := 0, quality := .acquiring, staged := none } ∧
      t.discipline = { s.discipline with
        lastMark := some ⟨x.date, x.ms, 0⟩
        lastMarkAt := some s.elapsed
        missingMark := some (s.elapsed + 1200 * 4096000000000)
        slewTrim := 0
        stepPending := false
        lockCounter := 0
        unlockCounter := 0 } ∧
      (∀ n, t.point n = { s.point n with
        debouncing := (s.point n).debouncing.map fun d =>
          { d with start := d.start.addUs ((⟨x.date, x.ms, 0⟩ : Instant).minus s.now) } }) ∧
      (let handed :=
        if s.time.quality = .unset then
          { s.duty with lastServed := (mostRecentSlot s.duty.rota ⟨x.date, x.ms, 0⟩).map fun x => x.1 }
        else s.duty
      t.duty = (dutyCheck false { s with time := t.time, duty := handed }).duty) ∧
      AlarmsCompared t ∧
      let set := s.queue.report ⟨x.date, x.ms, 0⟩ s.time.quality 0 false (.timeSet s.now x.port .atMark)
      if s.time.quality = .acquiring then set.Reports t.queue
      else
        (set.report ⟨x.date, x.ms, 0⟩ .acquiring 0 false (.quality s.time.quality .acquiring)).Reports t.queue ∧
          RaisedAtAll .quality t

/-- MISSING_MARK_TIMEOUT (R9, R10, R23, R38): S becomes 0 and F is held; ACQUIRING falls to FREE and LOCKED to HOLDOVER, with a
record and a notice in RUN and silently in BACKUP. An expiry that has not come changes nothing (log entry 6).
HOLDOVER_LIMIT_EXPIRY (R9, R10, R35, R38): in HOLDOVER, when the limit has run from the last accepted mark, the quality becomes
FREE; in any other quality the limit has no effect. -/
def Obligations.DisciplineTimersMoveTheQuality : Prop :=
  (∀ (s : State) (expiry : Nat), s.discipline.missingMark = some expiry → s.retentionRuns = true →
     (s.elapsed < expiry → exec .missingMarkTimeout s = .next s) ∧
     (expiry ≤ s.elapsed →
       let new : Quality :=
         match s.time.quality with | .acquiring => .free | .locked => .holdover | q => q
       let discipline := { s.discipline with
         missingMark := none
         slewTrim := 0
         lockCounter := if s.time.quality = .acquiring then 0 else s.discipline.lockCounter
         unlockCounter := if s.time.quality = .locked then 0 else s.discipline.unlockCounter }
       ∃ t, exec .missingMarkTimeout s = .next t ∧
         t = { s with time := t.time, discipline := discipline, queue := t.queue, tally := t.tally, ports := t.ports } ∧
         t.time = { s.time with quality := new } ∧ PortsKeep s t ∧ TalliesKeepSettings s t ∧
         (new = s.time.quality ∨ s.running = false ∧ s.tally.paused = true →
           t.queue = s.queue ∧ t.tally = s.tally ∧ t.ports = s.ports) ∧
         (new ≠ s.time.quality → s.running = true →
           (s.queue.report s.now new s.burstNumber false (.quality s.time.quality new)).Reports t.queue ∧
             RaisedAtAll .quality t))) ∧
  (∀ (s : State) (at_ : Nat), s.discipline.lastMarkAt = some at_ → s.retentionRuns = true →
     let reached := at_ + s.discipline.settings.holdoverLimit * 1000 * 4096000000000 ≤ s.elapsed
     (s.time.quality ≠ .holdover ∨ ¬ reached → exec .holdoverLimitExpiry s = .next s) ∧
     (s.time.quality = .holdover → reached →
       ∃ t, exec .holdoverLimitExpiry s = .next t ∧
         t = { s with
           time := { s.time with quality := .free }, queue := t.queue, tally := t.tally, ports := t.ports } ∧
         PortsKeep s t ∧ TalliesKeepSettings s t ∧
         (s.running = false → s.tally.paused = true → t.queue = s.queue ∧ t.ports = s.ports ∧ t.tally = s.tally) ∧
         (s.running = true → RaisedAtAll .quality t ∧
           let record := s.queue.report s.now .free s.burstNumber false (.quality .holdover .free)
           record.Reports t.queue ∧
             (s.tally.inputs.getLsbD 33 = false → t.queue = record ∧ t.tally = s.tally))))

/-- SET_DISCIPLINE (R36): the five settings clamped and stored, the flag cleared by a step enable of off, the answer of R37
after the storing; a HOLDOVER whose elapsed time reaches the new limit becomes FREE at once. -/
def Obligations.DisciplineSettingsAreClampedAndStored : Prop :=
  ∀ (p : Port) (args : List Byte) (s : State), s.running = true → args.length = 10 →
    let on := argField args 0 1 != 0
    let settings : DisciplineSettings :=
      ⟨on, max 1 (min 500 (argField args 1 2)), max 10 (min 1000 (argField args 3 2)), max 1 (min 64 (argField args 5 1)),
        max 60 (min 86400 (argField args 6 4))⟩
    let u := s.withDiscipline { s.discipline with settings := settings, stepPending := s.discipline.stepPending && on }
    ((s.port p).rights.time = false →
      exec (.setDiscipline p (10 :: args)) s = .next (s.refusedAt p 0x04 .denied 0)) ∧
    ((s.port p).rights.time = true → (s.time.quality = .holdover → u.holdoverPassed = false) →
      exec (.setDiscipline p (10 :: args)) s = .next (u.okAt p (disciplinePayload u))) ∧
    ((s.port p).rights.time = true → s.time.quality = .holdover → u.holdoverPassed = true →
      ∃ t, exec (.setDiscipline p (10 :: args)) s = .next t ∧
        t = { u with
          time := { u.time with quality := .free }, queue := t.queue, tally := t.tally, ports := t.ports } ∧
        PortsAnswer s t p (disciplinePayload u) ∧ TalliesKeepSettings s t ∧ RaisedAtAll .quality t ∧
        let record := s.queue.report s.now .free s.burstNumber false (.quality .holdover .free)
        record.Reports t.queue ∧ (s.tally.inputs.getLsbD 33 = false → t.queue = record ∧ t.tally = s.tally))

/-! ### Points -/

/-- POINT_EDGE (R41, R43, R48, R58): the level of the line is taken as it stands; where the point is watched, a change of it counts
in a suppressed point and restarts its stability wait, cancels a debounce in progress, or starts one where the new logical level
differs from the debounced state. -/
def Obligations.EdgeActsThroughTheDebounce : Prop :=
  ∀ (n : Fin 32) (high : Bool) (s : State),
    let x := s.point n
    let level := match x.entry.polarity with | .activeHigh => high | .activeLow => !high
    let lines := putBit s.lines n.val high
    let y : Point :=
      match x.chatter with
      | .suppressed edges _ =>
        { x with
          chatter := .suppressed (if edges < 65535 then edges + 1 else 65535)
            (s.elapsed + x.entry.chatterWindow * 1000 * 4096000000000) }
      | _ =>
        if x.debouncing.isSome then { x with debouncing := none }
        else if level = x.active then x
        else { x with debouncing := some ⟨s.now, s.elapsed + x.entry.debounce * 4096000000000, false⟩ }
    (s.lines.getLsbD n.val = high → exec (.pointEdge n high) s = .next s) ∧
    (s.lines.getLsbD n.val ≠ high → (s.running = false ∨ x.entry.mode = .off) →
      exec (.pointEdge n high) s = .next { s with lines := lines }) ∧
    (s.lines.getLsbD n.val ≠ high → s.running = true → x.entry.mode ≠ .off →
      exec (.pointEdge n high) s = .next { s with lines := lines, points := s.points.set n.val y n.isLt })

/-- DEBOUNCE_EXPIRY of a change that passes the chatter count (R44, R46, R51, R59, R61, R63, R68 to R70, R74, R77): the debounced
state, the chatter state, the POINT record with the instant of the starting edge before any record of another block (log entry
10), and the trip unit. FIRST_OUT is raised at the latching and at each new rank 1 while PROVISIONAL, and not otherwise (R157). In BACKUP no
debounce expires (R58). -/
def Obligations.DebounceExpiryConfirmsTheChange : Prop :=
  (∀ (n : Fin 32) (s : State), s.running = false → exec (.debounceExpiry n) s = .next s) ∧
  ∀ (n : Fin 32) (s : State) (d : Debounce) (passed : Chatter),
    let x := s.point n
    s.running = true → x.entry.mode ≠ .off → x.debouncing = some d → d.expiry ≤ s.elapsed →
    (x.entry.chatterLimit = 0 ∧ passed = x.chatter) ∨
      (x.entry.chatterLimit ≠ 0 ∧ x.chatter = .clear ∧
        passed = .counting 1 (s.elapsed + x.entry.chatterWindow * 1000 * 4096000000000)) ∨
      (∃ k e, x.entry.chatterLimit ≠ 0 ∧ x.chatter = .counting k e ∧ k + 1 ≤ x.entry.chatterLimit ∧
        passed = .counting (k + 1) e) →
    let cause : ChangeCause := if d.atRestore then .afterRestart else .change
    let number := match (s.trip.onPointRecord s.elapsed).burst with | none => 0 | some b => b.number
    ∃ t, exec (.debounceExpiry n) s = .next t ∧
      t = { s with points := t.points, trip := t.trip, queue := t.queue, tally := t.tally, ports := t.ports } ∧
      PortsKeep s t ∧ TalliesKeepSettings s t ∧
      t.point n = { x with active := !x.active, debouncing := none, chatter := passed } ∧
      (∀ m, m ≠ n → t.point m = s.point m) ∧
      t.trip = s.trip.afterChange s.elapsed x.entry.mode n (!x.active) d.start ∧
      (x.entry.mode = .status → s.queue.Reports t.queue) ∧
      (x.entry.mode = .record ∨ x.entry.mode = .trip →
        (s.queue.report d.start s.time.quality number d.atRestore (.point n.val (!x.active) cause)).Reports t.queue) ∧
      let raises := x.entry.mode = .trip ∧ x.active = false ∧
        (s.trip.latch = .armed ∨ s.trip.latch = .provisional ∧ ∀ e ∈ s.trip.ranked, e.instant.le d.start = false)
      (raises → Ranking s.trip.ranked → RaisedAtAll .firstOut t) ∧
        (¬ raises → Ranking s.trip.ranked → ∀ q, (t.port q).pending.has .firstOut = (s.port q).pending.has .firstOut)

/-- DEBOUNCE_EXPIRY of a change that takes the count above the limit (R47): the debounced state stays, the CHATTER record carries
the limit plus one, and the stability wait starts; nothing reaches another block. CHATTER_WINDOW_EXPIRY (R49): a
COUNTING point returns to CLEAR with no record. In BACKUP no debounce and no chatter window expires (R58). An expiry that has not
come changes nothing (log entry 6). -/
def Obligations.ChatterSuppressesAndClearsThePoint : Prop :=
  (∀ (n : Fin 32) (s : State), s.running = false →
     exec (.debounceExpiry n) s = .next s ∧ exec (.chatterWindowExpiry n) s = .next s) ∧
  (∀ (n : Fin 32) (s : State) (d : Debounce) (k e : Nat),
     let x := s.point n
     s.running = true → x.debouncing = some d → x.chatter = .counting k e → x.entry.chatterLimit ≠ 0 →
     k = x.entry.chatterLimit →
     (s.elapsed < d.expiry → exec (.debounceExpiry n) s = .next s) ∧
     (d.expiry ≤ s.elapsed →
       ∃ t, exec (.debounceExpiry n) s = .next t ∧ PortsKeep s t ∧
         t = { s with
           points := s.points.set n.val
             { x with
               debouncing := none
               chatter := .suppressed 0 (s.elapsed + x.entry.chatterWindow * 1000 * 4096000000000) } n.isLt
           queue := s.reported false (.chatter n.val .suppressed (x.entry.chatterLimit + 1))
           ports := t.ports })) ∧
  (∀ (n : Fin 32) (s : State) (k e : Nat), (s.point n).chatter = .counting k e → s.running = true →
     (s.elapsed < e → exec (.chatterWindowExpiry n) s = .next s) ∧
     (e ≤ s.elapsed → exec (.chatterWindowExpiry n) s = .next
       { s with points := s.points.set n.val { s.point n with chatter := .clear } n.isLt }))

/-- STABILITY_WAIT_EXPIRY (R48): the RELEASED record with the edge count; where the line differs from the frozen state, an
AFTER_CHATTER change dated at the release, which no chatter window counts. Its POINT record stands before the tally records of
the same change (log entry 10). In BACKUP no stability wait expires (R58). -/
def Obligations.StabilityWaitReleasesThePoint : Prop :=
  (∀ (n : Fin 32) (s : State), s.running = false → exec (.stabilityWaitExpiry n) s = .next s) ∧
  ∀ (n : Fin 32) (s : State) (edges e : Nat),
    let x := s.point n
    s.running = true → x.entry.mode ≠ .off → x.chatter = .suppressed edges e → e ≤ s.elapsed →
    let released := s.reported false (.chatter n.val .released edges)
    let number := match (s.trip.onPointRecord s.elapsed).burst with | none => 0 | some b => b.number
    (s.lineActive n = x.active →
      ∃ t, exec (.stabilityWaitExpiry n) s = .next t ∧ PortsKeep s t ∧
        t = { s with
          points := s.points.set n.val { x with chatter := .clear } n.isLt, queue := released, ports := t.ports }) ∧
    (s.lineActive n ≠ x.active →
      ∃ t, exec (.stabilityWaitExpiry n) s = .next t ∧
        t = { s with points := t.points, trip := t.trip, queue := t.queue, tally := t.tally, ports := t.ports } ∧
        PortsKeep s t ∧ TalliesKeepSettings s t ∧
        t.point n = { x with active := s.lineActive n, chatter := .clear } ∧ (∀ m, m ≠ n → t.point m = s.point m) ∧
        t.trip = s.trip.afterChange s.elapsed x.entry.mode n (s.lineActive n) s.now ∧
        (x.entry.mode = .status → released.Reports t.queue) ∧
        (x.entry.mode = .record ∨ x.entry.mode = .trip →
          (released.report s.now s.time.quality number false
            (.point n.val (s.lineActive n) .afterChatter)).Reports t.queue))

/-- SET_POINT is refused in the order of R52 and under the freeze of R54; the mode is the detail where the mode and the polarity both
name no choice (log entry 35). An accepted SET_POINT (R42, R48, R52, R55, R56): the whole entry clamped and stored and given back;
other points untouched; a change of mode takes the point fresh at the line's level, with no POINT record; a change of polarity
alone acts as an edge taken now; a chatter limit of 0 clears a COUNTING point and releases a SUPPRESSED one, the polarity acting
before it (log entry 18) and the POINT record of the release standing before the tally records of its change (log entry 10). -/
def Obligations.PointWriteChecksAndStores : Prop :=
  (∀ (p : Port) (args : List Byte) (s : State), s.running = true → args.length = 9 →
     let n := argField args 0 1
     let mode := argField args 1 1
     let polarity := argField args 2 1
     let outcome := exec (.setPoint p (9 :: args)) s
     if (s.port p).rights.config = false then outcome = .next (s.refusedAt p 0x11 .denied 0)
     else if 31 < n then outcome = .next (s.refusedAt p 0x11 .badIndex n)
     else if 3 < mode then outcome = .next (s.refusedAt p 0x11 .range mode)
     else if 1 < polarity then outcome = .next (s.refusedAt p 0x11 .range polarity)
     else if s.trip.latch ≠ .armed then outcome = .next (s.refusedAt p 0x11 .frozen n)
     else if ∃ k : Fin 32, k.val = n ∧ (s.point k).entry.mode = .trip ∧ mode ≠ 3 ∧ s.trip.entry k ≠ .normal then
       outcome = .next (s.refusedAt p 0x11 .state n)
     else ∃ t payload, outcome = .next t ∧ (t.port p).response = .ok payload) ∧
  (∀ (p : Port) (args : List Byte) (s : State) (n : Fin 32) (mode : PointMode) (polarity : Polarity),
     s.running = true → args.length = 9 → (s.port p).rights.config = true → argField args 0 1 = n.val →
     pointModeOf (argField args 1 1) = some mode → polarityOf (argField args 2 1) = some polarity →
     s.trip.latch = .armed → ((s.point n).entry.mode = .trip → mode ≠ .trip → s.trip.entry n = .normal) →
     let limit := argField args 5 2
     let e : PointEntry :=
       ⟨mode, polarity, min 250 (argField args 3 2), if limit = 0 then 0 else max 2 (min 30 limit),
         max 1 (min 60 (argField args 7 2))⟩
     let x := s.point n
     let y := x.written e (s.lines.getLsbD n.val) s.now s.elapsed
     let payload := beBytes 1 n.val ++ e.bytes
     ∃ t, exec (.setPoint p (9 :: args)) s = .next t ∧ t = (writeEntry n e s).okAt p payload ∧
       t = { s with points := t.points, trip := t.trip, queue := t.queue, tally := t.tally, ports := t.ports } ∧
       PortsAnswer s t p payload ∧ TalliesKeepSettings s t ∧
       t.point n = y ∧ (∀ m, m ≠ n → t.point m = s.point m) ∧
       (mode ≠ x.entry.mode → t.trip = s.trip ∧
         ((∀ edges w, x.chatter ≠ .suppressed edges w) → s.queue.Reports t.queue) ∧
         ∀ edges w, x.chatter = .suppressed edges w →
           (s.reported false (.chatter n.val .released edges)).Reports t.queue) ∧
       (mode = x.entry.mode → e.chatterLimit ≠ 0 ∨ (∀ edges w, x.chatter ≠ .suppressed edges w) →
         t = (s.withPoint n y).okAt p payload) ∧
       ∀ edges w, mode = x.entry.mode → mode ≠ .off → e.chatterLimit = 0 → x.chatter = .suppressed edges w →
         let counted := if polarity = x.entry.polarity then edges else if edges < 65535 then edges + 1 else 65535
         let released := s.reported false (.chatter n.val .released counted)
         let number := match (s.trip.onPointRecord s.elapsed).burst with | none => 0 | some b => b.number
         (y.active = x.active → t.trip = s.trip ∧ t.tally = s.tally ∧ t.queue = released) ∧
         (y.active ≠ x.active →
           t.trip = s.trip.afterChange s.elapsed mode n y.active s.now ∧
           (mode = .status → released.Reports t.queue) ∧
           (mode = .record ∨ mode = .trip →
             (released.report s.now s.time.quality number false
               (.point n.val y.active .afterChatter)).Reports t.queue)))

/-- SET_POINTS is refused in the order of R53: DENIED, RANGE with the selector, RANGE with the value, FROZEN with the lowest point of
the mask, STATE with the lowest point that a mode write would take out of TRIP with a standing entry. An accepted SET_POINTS (R42,
R53, R55, R56) writes the stored value, clamped, into the named field of every point of the mask, each in turn (log entry 28), and
touches no other point. The trip unit moves only at the release of a suppressed point by a chatter limit of 0, whose POINT record
stands before the tally records of its change (log entry 10). -/
def Obligations.PointsWriteStoresTheFieldInTheMask : Prop :=
  ∀ (p : Port) (args : List Byte) (s : State), s.running = true → args.length = 7 →
    let mask := BitVec.ofNat 32 (argField args 0 4)
    let selector := argField args 4 1
    let value := argField args 5 2
    let outcome := exec (.setPoints p (7 :: args)) s
    let standing := fun n : Fin 32 =>
      selector = 0 ∧ value ≠ 3 ∧ mask.getLsbD n.val = true ∧ (s.point n).entry.mode = .trip ∧ s.trip.entry n ≠ .normal
    let stored :=
      if selector = 2 then min 250 value
      else if selector = 3 then if value = 0 then 0 else max 2 (min 30 value)
      else if selector = 4 then max 1 (min 60 value)
      else value
    let written := fun e : PointEntry =>
      if selector = 0 then
        { e with mode := if value = 0 then .off else if value = 1 then .status else if value = 2 then .record else .trip }
      else if selector = 1 then { e with polarity := if value = 0 then .activeHigh else .activeLow }
      else if selector = 2 then { e with debounce := stored }
      else if selector = 3 then { e with chatterLimit := stored }
      else { e with chatterWindow := stored }
    let payload := args.take 5 ++ beBytes 2 stored
    if (s.port p).rights.config = false then outcome = .next (s.refusedAt p 0x12 .denied 0)
    else if 4 < selector then outcome = .next (s.refusedAt p 0x12 .range selector)
    else if selector = 0 ∧ 3 < value ∨ selector = 1 ∧ 1 < value then outcome = .next (s.refusedAt p 0x12 .range value)
    else if s.trip.latch ≠ .armed then
      (mask = 0 → outcome = .next (s.refusedAt p 0x12 .frozen 0)) ∧
        ∀ n : Fin 32, mask.getLsbD n.val = true → (∀ m, m < n → mask.getLsbD m.val = false) →
          outcome = .next (s.refusedAt p 0x12 .frozen n.val)
    else if ∃ n, standing n then
      ∀ n, standing n → (∀ m, m < n → ¬ standing m) → outcome = .next (s.refusedAt p 0x12 .state n.val)
    else
      ∃ t, outcome = .next t ∧
        t = (atAllPoints
          (fun n s => if mask.getLsbD n.val then writeEntry n (written (s.point n).entry) s else s) s).okAt p payload ∧
        t = { s with points := t.points, trip := t.trip, queue := t.queue, tally := t.tally, ports := t.ports } ∧
        PortsAnswer s t p payload ∧ TalliesKeepSettings s t ∧ s.queue.Reports t.queue ∧
        (∀ n : Fin 32, t.point n =
          if mask.getLsbD n.val then
            (s.point n).written (written (s.point n).entry) (s.lines.getLsbD n.val) s.now s.elapsed
          else s.point n) ∧
        ((∀ (n : Fin 32) (edges w : Nat), mask.getLsbD n.val = true → (s.point n).chatter = .suppressed edges w →
          (written (s.point n).entry).chatterLimit ≠ 0) → t.trip = s.trip) ∧
        (mask = 0 → t = s.okAt p payload)

/-! ### Bursts, the first-out and the annunciation table -/

/-- QUIET_WAIT_EXPIRY and BURST_LIMIT_EXPIRY (R63 to R65, R71, R81): the burst closes; a PROVISIONAL latch becomes FINAL and the
FIRST_OUT record, with the closing burst's number and the list in rank order, is the first record of the close. In BACKUP neither
wait expires. -/
def Obligations.BurstExpiryClosesTheBurst : Prop :=
  (∀ s : State, s.running = false → exec .quietWaitExpiry s = .next s ∧ exec .burstLimitExpiry s = .next s) ∧
  ∀ (c : Instr) (s : State) (b : Burst) (expiry : Nat), s.running = true → s.trip.burst = some b →
    (c = .quietWaitExpiry ∧ expiry = b.quietExpiry ∨ c = .burstLimitExpiry ∧ expiry = b.limitExpiry) →
    (s.elapsed < expiry → exec c s = .next s) ∧
    (expiry ≤ s.elapsed →
      ∃ t, exec c s = .next t ∧
        t = { s with
          trip := { s.trip with
            burst := none, latch := if s.trip.latch = .provisional then .final else s.trip.latch }
          queue := t.queue, tally := t.tally, ports := t.ports } ∧
        PortsKeep s t ∧ TalliesKeepSettings s t ∧
        (s.trip.latch ≠ .provisional → s.queue.Reports t.queue) ∧
        ∀ first rest, s.trip.latch = .provisional → s.trip.ranked = first :: rest →
          RaisedAtAll .firstOut t ∧
            (s.queue.report s.now s.time.quality b.number false
              (.firstOut first.instant s.trip.overflow
                (s.trip.ranked.map fun e => (e.point, rankOffset e.instant first.instant)))).Reports t.queue)

/-- An activation ranked in PROVISIONAL (R69, R70): it goes after every entry that is not later and before every entry that is
later; the list keeps its first sixteen, in order, and each activation past sixteen counts in the overflow. -/
def Obligations.ActivationIsRankedByItsInstant : Prop :=
  ∀ (t : TripUnit) (n : Nat) (i : Instant), Ranking t.ranked → t.ranked.length ≤ 16 →
    ∃ before later order,
      t.ranked = before ++ later ∧ (∀ e ∈ before, e.instant.le i = true) ∧ (∀ e ∈ later, e.instant.le i = false) ∧
      (t.rank n i).ranked = (before ++ ⟨n, i, order⟩ :: later).take 16 ∧ Ranking (t.rank n i).ranked ∧
      (t.rank n i).overflow =
        (if t.ranked.length < 16 then t.overflow else if t.overflow < 255 then t.overflow + 1 else 255) ∧
      (t.rank n i).latch = t.latch ∧ (t.rank n i).latchingBurst = t.latchingBurst ∧
      (t.rank n i).annunciation = t.annunciation

/-- ACK_TRIPS from the duty port and crew (R75): each selected entry moves as the table says; one ACK record lists the points
whose entries changed, and the response is their mask. -/
def Obligations.AcknowledgementMovesTheSelectedEntries : Prop :=
  ∀ (p : Port) (args : List Byte) (s : State), s.running = true → args.length = 6 →
    (s.port p).rights.duty = true → 1 ≤ argField args 0 1 → argField args 0 1 ≤ 15 →
    s.duty.state = .onDuty ∨ s.duty.state = .due → s.duty.port = some p → s.duty.crew = argField args 0 1 →
    let selected := fun n : Fin 32 => argField args 1 1 ≠ 0 ∨ (argField args 2 4).testBit n.val = true
    let acknowledged : Annunciation → Annunciation := fun
      | .activeUnack => .activeAck
      | .returnedUnack => .normal
      | a => a
    ∃ (t : State) (changed : List (Fin 32)) (mask : BitVec 32), exec (.ackTrips p (6 :: args)) s = .next t ∧
      (∀ n, n ∈ changed ↔ selected n ∧ (s.trip.entry n = .activeUnack ∨ s.trip.entry n = .returnedUnack)) ∧
      changed.Pairwise (· < ·) ∧ (∀ n : Fin 32, mask.getLsbD n.val = decide (n ∈ changed)) ∧
      t = { s with
        trip := { s.trip with annunciation := t.trip.annunciation }
        queue :=
          if changed = [] then s.queue
          else s.reported false (.ack (argField args 0 1) p (changed.map fun n => n.val))
        ports := t.ports } ∧
      (∀ n, t.trip.entry n = if n ∈ changed then acknowledged (s.trip.entry n) else s.trip.entry n) ∧
      PortsAnswer s t p (beBytes 4 mask.toNat)

/-- RESET_FIRST_OUT from the duty port and crew (R73): BUSY while a burst is open; no effect in ARMED; in FINAL the latch, the list
and its counts are cleared and one FIRST_OUT_RESET record is produced. -/
def Obligations.ResetReturnsTheFirstOutToArmed : Prop :=
  ∀ (p : Port) (crew : Byte) (s : State), s.running = true →
    (s.port p).rights.duty = true → 1 ≤ crew.toNat → crew.toNat ≤ 15 →
    s.duty.state = .onDuty ∨ s.duty.state = .due → s.duty.port = some p → s.duty.crew = crew.toNat →
    (∀ b, s.trip.burst = some b →
      exec (.resetFirstOut p [1, crew]) s = .next (s.refusedAt p 0x1B .busy b.number)) ∧
    (s.trip.burst = none → s.trip.latch = .armed → exec (.resetFirstOut p [1, crew]) s = .next (s.okAt p [0])) ∧
    (s.trip.burst = none → s.trip.latch = .final →
      ∃ t, exec (.resetFirstOut p [1, crew]) s = .next t ∧
        t = { s with
          trip := { s.trip with latch := .armed, latchingBurst := 0, ranked := [], overflow := 0 }
          queue := t.queue, tally := t.tally, ports := t.ports } ∧
        PortsAnswer s t p [0] ∧ TalliesKeepSettings s t ∧
        (s.queue.report s.now s.time.quality 0 false (.firstOutReset crew.toNat)).Reports t.queue)

/-- SET_BURST (R67): DENIED without CONFIG; else the quiet time clamped to 50 to 5,000 and stored, and nothing of a burst in
progress moved. The stored value sets the quiet wait of the next POINT record; the 10 s limit has none. Warm restarts and
outages keep it, and a cold start sets it to 500. -/
def Obligations.BurstQuietTimeIsStored : Prop :=
  ∀ (p : Port) (a b : Byte) (s : State), s.running = true →
    let quiet := max 50 (min 5000 (a.toNat * 256 + b.toNat))
    ((s.port p).rights.config = false → exec (.setBurst p [2, a, b]) s = .next (s.refusedAt p 0x1A .denied 0)) ∧
    ((s.port p).rights.config = true →
      exec (.setBurst p [2, a, b]) s =
        .next ((s.withTrip { s.trip with quietTime := quiet }).okAt p (beBytes 2 quiet))) ∧
    (∀ elapsed : Nat,
      (s.trip.burst = none → (s.trip.onPointRecord elapsed).burst =
        some ⟨if s.trip.lastBurst = 65535 then 1 else s.trip.lastBurst + 1,
          elapsed + s.trip.quietTime * 4096000000000, elapsed + 10000 * 4096000000000⟩) ∧
      ∀ o, s.trip.burst = some o → (s.trip.onPointRecord elapsed).burst =
        some { o with quietExpiry := elapsed + s.trip.quietTime * 4096000000000 }) ∧
    (∀ (c : Instr) (t : State), (∃ order low, c = .mainLossWarning order low) ∨
      (∃ pins order, c = .resetAssertion pins order) ∨ (∃ pins order, c = .restart .a [0] pins order) →
      exec c s = .next t → t.trip.quietTime = s.trip.quietTime) ∧
    (∀ (u t : State) (pins : AddressPins) (high : Bool), u.supply.retentionValid = true →
      exec (.returnOfSupply pins high) u = .next t → t.trip.quietTime = u.trip.quietTime) ∧
    (∀ (u t : State) (pins : AddressPins) (high : Bool) (e : Nat), u.running = false →
      u.supply.retentionValid = false → u.supply.qualification = some e → e ≤ u.elapsed →
      exec (.returnOfSupply pins high) u = .next t → t.trip.quietTime = 500)

/-! ### The event queue -/

/-- Producing a record (R84, R85, R87 to R91): the queue alone decides what becomes of it, the number is taken whatever becomes
of it, GAP is raised at exactly the ports that lose a record, EVENTS follows the streams, and nothing else changes. A subscribed
port finds the record at the end of its stream with its tail gap as lead gap; in a full queue KEEP_OLDEST adds one to the tail gap,
and KEEP_NEWEST moves the removed record's lead gap plus one, up to 65,535, into the port's next record, which is the new one where
no other is held. -/
def Obligations.ProducedRecordIsStoredOrCountedAsLost : Prop :=
  ∀ (i : Instant) (outage : Bool) (body : RecordBody) (s : State), s.running = true →
    (∀ q, (s.port q).pending.has .events = !(s.queue.stream q).isEmpty) →
    let t := produceAt i outage body s
    let lost := fun q : Port =>
      s.queue.overflows && match s.queue.mode with
        | .keepOldest => s.queue.subscribed.get q
        | .keepNewest => (s.queue.held.head?.map fun h => h.readBy q).getD false
    t = { s with queue := t.queue, ports := t.ports } ∧ PortsKeep s t ∧
      t.queue = s.queue.report i s.time.quality s.burstNumber outage body ∧
      t.queue.seq = (s.queue.seq + 1) % 65536 ∧
      (∀ q, (t.port q).pending.has .gap = ((s.port q).pending.has .gap || lost q)) ∧
      (∀ q, (t.port q).pending.has .events = !(t.queue.stream q).isEmpty) ∧
      (∀ q m, m ≠ .gap → m ≠ .events → (t.port q).pending.has m = (s.port q).pending.has m) ∧
      ∀ q, s.queue.subscribed.get q = true →
        let read := fun k : EventQueue => (k.stream q).map fun h => (h.record, h.leadGap q)
        let r : Record := ⟨s.queue.seq, i, s.time.quality, s.burstNumber, outage, false, body⟩
        let old := read s.queue
        let tail := s.queue.tailGap.get q
        (s.queue.held.length < 128 → read t.queue = old ++ [(r, tail)] ∧ t.queue.tailGap.get q = 0) ∧
        (128 ≤ s.queue.held.length → s.queue.mode = .keepOldest →
          read t.queue = old ∧ t.queue.tailGap.get q = min 65535 (tail + 1)) ∧
        ∀ h rest, 128 ≤ s.queue.held.length → s.queue.mode = .keepNewest → s.queue.held = h :: rest →
          t.queue.tailGap.get q = 0 ∧
          (h.readBy q = false → read t.queue = old ++ [(r, tail)]) ∧
          (h.readBy q = true → old = [(h.record, h.leadGap q)] →
            read t.queue = [(r, min 65535 (tail + (h.leadGap q + 1)))]) ∧
          ∀ next gap more, h.readBy q = true → old = (h.record, h.leadGap q) :: (next, gap) :: more →
            read t.queue = (next, min 65535 (gap + (h.leadGap q + 1))) :: more ++ [(r, tail)]

/-- READ_EVENTS (R86, R93 to R97, R189): DENIED without EVENTS; else the records taken are the longest beginning of the port's
stream that the stops of R94 allow; they leave the stream of this port alone; the response carries the reported gap, their number,
the remaining count and the records laid out byte by byte, with tally values withheld by the mask as it stands. -/
def Obligations.ReadEventsDeliversTheHeadOfTheStream : Prop :=
  (∀ (p : Port) (n : Byte) (s : State), s.running = true → (s.port p).rights.events = false →
    exec (.readEvents p [1, n]) s = .next (s.refusedAt p 0x20 .denied 0)) ∧
  ∀ (p : Port) (n : Byte) (s : State), s.running = true → (s.port p).rights.events = true →
    ∃ (t : State) (k : Nat), exec (.readEvents p [1, n]) s = .next t ∧
      let stream := s.queue.stream p
      let taken := stream.take k
      let sent := fun h : Held => h.record.laidOut (s.port p).readMask
      let room := fun l : List Held => (l.map fun h => (sent h).length).sum
      let gap := match taken with | [] => s.queue.tailGap.get p | h :: _ => h.leadGap p
      let payload := beBytes 2 gap ++ beBytes 1 k ++ beBytes 1 (stream.length - k) ++
        taken.flatMap sent
      k ≤ stream.length ∧ k ≤ max 1 (min 8 n.toNat) ∧ room taken ≤ 236 ∧ (∀ h ∈ taken.tail, h.leadGap p = 0) ∧
      (k = stream.length ∨ k = max 1 (min 8 n.toNat) ∨ 236 < room (stream.take (k + 1)) ∨
        (k ≠ 0 ∧ ∃ h, stream[k]? = some h ∧ h.leadGap p ≠ 0)) ∧
      t = { s with queue := { s.queue with held := t.queue.held }, ports := s.ports.set p (t.port p) } ∧
      PortsAnswer s t p payload ∧
      t.queue.stream p = stream.drop k ∧ (t.port p).pending.has .events = decide (k < stream.length) ∧
      (∀ m, m ≠ .events → (t.port p).pending.has m = (s.port p).pending.has m) ∧
      ∀ q, q ≠ p → (t.queue.stream q).map (fun h => (h.record, h.leadGap q)) =
        (s.queue.stream q).map fun h => (h.record, h.leadGap q)

/-- SUBSCRIBE (R98): on joins the set with a tail gap of 0 and no held record; off leaves the set and every reader set, and
records that no port wants leave the queue; the other two forms have no effect. A pending GAP stays. The subscription byte of the
answer, 1 for on and 0 for off, is the model's (log entry 15). -/
def Obligations.SubscriptionJoinsOrLeaves : Prop :=
  ∀ (p : Port) (on : Byte) (s : State), s.running = true →
    ((s.port p).rights.events = false → exec (.subscribe p [1, on]) s = .next (s.refusedAt p 0x21 .denied 0)) ∧
    ((s.port p).rights.events = true →
      (on ≠ 0 → s.queue.subscribed.get p = true → exec (.subscribe p [1, on]) s = .next (s.okAt p [1])) ∧
      (on ≠ 0 → s.queue.subscribed.get p = false → exec (.subscribe p [1, on]) s = .next
        ((s.withQueue { s.queue with
          tailGap := s.queue.tailGap.set p 0, subscribed := s.queue.subscribed.set p true }).okAt p [1])) ∧
      (on = 0 → s.queue.subscribed.get p = false → exec (.subscribe p [1, on]) s = .next (s.okAt p [0])) ∧
      (on = 0 → s.queue.subscribed.get p = true →
        ∃ t, exec (.subscribe p [1, on]) s = .next t ∧ PortsAnswer s t p [0] ∧
          t = { s with
            queue := { s.queue with
              held := (s.queue.held.map fun h => h.without p).filter fun h => h.wanted
              tailGap := s.queue.tailGap.set p 0
              subscribed := s.queue.subscribed.set p false }
            ports := s.ports.set p (t.port p) } ∧
          t.queue.stream p = [] ∧ (t.port p).pending.has .events = false ∧
          ∀ m, m ≠ .events → (t.port p).pending.has m = (s.port p).pending.has m))

/-- SET_QUEUE_MODE (R92): DENIED without CONFIG; RANGE with the value for any other value; else the mode stored and given back,
with every held record, reader set and gap as it was. It acts from the next record produced; warm restarts and outages keep
it, and a cold start sets KEEP_OLDEST. -/
def Obligations.QueueModeIsStored : Prop :=
  ∀ (p : Port) (v : Byte) (s : State), s.running = true →
    ((s.port p).rights.config = false →
      exec (.setQueueMode p [1, v]) s = .next (s.refusedAt p 0x22 .denied 0)) ∧
    ((s.port p).rights.config = true → 1 < v.toNat →
      exec (.setQueueMode p [1, v]) s = .next (s.refusedAt p 0x22 .range v.toNat)) ∧
    (∀ mode : OverflowMode, (s.port p).rights.config = true → v = (match mode with | .keepOldest => 0 | .keepNewest => 1) →
      let t := (s.withQueue { s.queue with mode := mode }).okAt p [v]
      exec (.setQueueMode p [1, v]) s = .next t ∧
        ∀ i outage body, (produceAt i outage body t).queue =
          { s.queue with mode := mode }.report i s.time.quality s.burstNumber outage body) ∧
    (∀ (c : Instr) (t : State), (∃ order low, c = .mainLossWarning order low) ∨
      (∃ pins order, c = .resetAssertion pins order) ∨ (∃ pins order, c = .restart .a [0] pins order) →
      exec c s = .next t → t.queue.mode = s.queue.mode) ∧
    (∀ (u t : State) (pins : AddressPins) (high : Bool), u.supply.retentionValid = true →
      exec (.returnOfSupply pins high) u = .next t → t.queue.mode = u.queue.mode) ∧
    (∀ (u t : State) (pins : AddressPins) (high : Bool) (e : Nat), u.running = false →
      u.supply.retentionValid = false → u.supply.qualification = some e → e ≤ u.elapsed →
      exec (.returnOfSupply pins high) u = .next t → t.queue.mode = .keepOldest)

/-! ### Tallies -/

/-- QUALIFICATION_COMPLETE (R107, R111, R113): once the qualify count has reached the qualify time the tally runs, one start is
counted and the count is credited; the flag at a credit of 0 to a full count is the model's (log entry 17). A count that has
not reached it leaves everything as it is (log entry 6). -/
def Obligations.QualificationStartsTheRun : Prop :=
  ∀ (i : Fin 12) (s : State), s.tally.paused = false → (s.entry i).run = .qualifying →
    let x := s.entry i
    (x.qualifyCount < x.config.qualifyTime * 1000 → exec (.qualificationComplete i) s = .next s) ∧
    (x.config.qualifyTime * 1000 ≤ x.qualifyCount →
      ∃ t, exec (.qualificationComplete i) s = .next t ∧
        t = { s with tally := t.tally, queue := t.queue, ports := t.ports } ∧ PortsKeep s t ∧ OtherTallies i s t ∧
        t.tally.inputs = s.tally.inputs ∧ t.tally.paused = false ∧
        t.entry i = x.started x.qualifyCount ∧
        (x.config.recordTransitions = true → (s.reported false (.tallyRun i.val)).Reports t.queue) ∧
        (x.config.recordTransitions = false → s.queue.Reports t.queue))

/-- A change of an input handed to the tally unit (R102, R103, R106, R108, R110): every tally is evaluated over the inputs as they
now stand and moves as the table of R103 says; a tally that the evaluation leaves as it was is not touched. A run that ends gives
its TALLY_STOP record with its run length, where the tally records transitions, and directly after it the TALLY_PRESET record of a
staged preset (R110); where only this tally moves and holds no staged preset, no other record is produced. -/
def Obligations.InputChangeMovesTheRunStates : Prop :=
  ∀ (k : Nat) (v : Bool) (s : State), k < 36 → s.tally.paused = false → s.tally.inputs.getLsbD k ≠ v →
    let t := handInput k v s
    let holds := fun i => (s.entry i).config.holds (putBit s.tally.inputs k v)
    t = { s with tally := t.tally, queue := t.queue, ports := t.ports } ∧ PortsKeep s t ∧ TalliesKeepSettings s t ∧
      s.queue.Reports t.queue ∧ t.tally.inputs = putBit s.tally.inputs k v ∧ t.tally.paused = false ∧
      ∀ i, let x := s.entry i
        (x.run = .idle → holds i = false → t.entry i = x) ∧
        (x.run = .idle → holds i = true → x.config.qualifyTime ≠ 0 →
          t.entry i = { x with run := .qualifying, qualifyCount := 0 }) ∧
        (x.run = .idle → holds i = true → x.config.qualifyTime = 0 →
          (t.entry i).run = .running ∧ (t.entry i).runLength = 0 ∧ (t.entry i).starts = min 999999 (x.starts + 1) ∧
            (t.entry i).lifetime = min 3599999999999 x.lifetime) ∧
        (x.run = .qualifying → holds i = true → t.entry i = x) ∧
        (x.run = .qualifying → holds i = false → t.entry i = { x with run := .idle, qualifyCount := 0 }) ∧
        (x.run = .running → holds i = true → t.entry i = x) ∧
        (x.run = .running → holds i = false → x.staged = none →
          t.entry i = { x with run := .idle, runLength := 0 }) ∧
        (∀ y, x.run = .running → holds i = false → x.staged = some y →
          t.entry i = { x with
            run := .idle, runLength := 0, lifetime := y.lifetime, starts := y.starts, presetFlag := true, staged := none
            duePending := x.config.dueEnable && decide (x.dueValue ≤ y.lifetime) }) ∧
        (x.run = .running → holds i = false →
          let stopped := fun q : EventQueue =>
            if x.config.recordTransitions then
              q.report s.now s.time.quality s.burstNumber false (.tallyStop i.val x.runLength)
            else q
          (∃ before : EventQueue, s.queue.Reports before ∧ match x.staged with
            | none => (stopped before).Reports t.queue
            | some y => ((stopped before).report s.now s.time.quality s.burstNumber false
                (.tallyPreset i.val y.crew x.lifetime y.lifetime x.starts y.starts)).Reports t.queue) ∧
          ((∀ j, j ≠ i → t.entry j = s.entry j) → x.staged = none → t.queue = stopped s.queue))

/-- SET_TALLY (R104, R105): DENIED, then BAD_INDEX; else the configuration stored with the qualify time clamped, a qualification
whose count reaches the new time completed, the condition evaluated and due pending evaluated; the due value and every other
tally as they were. -/
def Obligations.TallyConfigurationIsStoredAndActs : Prop :=
  ∀ (p : Port) (args : List Byte) (s : State), s.running = true → args.length = 15 →
    let outcome := exec (.setTally p (15 :: args)) s
    ((s.port p).rights.config = false → outcome = .next (s.refusedAt p 0x29 .denied 0)) ∧
    ((s.port p).rights.config = true → 11 < argField args 0 1 →
      outcome = .next (s.refusedAt p 0x29 .badIndex (argField args 0 1))) ∧
    ∀ i : Fin 12, (s.port p).rights.config = true → argField args 0 1 = i.val →
      let x := s.entry i
      let c : TallyConfig :=
        ⟨argField args 1 1 != 0, BitVec.ofNat 36 (argField args 2 5), BitVec.ofNat 36 (argField args 7 5),
          min 60 (argField args 12 1), argField args 13 1 != 0, argField args 14 1 != 0⟩
      let completes := decide (x.run = .qualifying ∧ c.qualifyTime * 1000 ≤ x.qualifyCount)
      ∃ t, outcome = .next t ∧ t = { s with tally := t.tally, queue := t.queue, ports := t.ports } ∧
        PortsAnswer s t p (beBytes 1 i.val ++ c.bytes) ∧ OtherTallies i s t ∧ s.queue.Reports t.queue ∧
        t.tally.inputs = s.tally.inputs ∧ t.tally.paused = s.tally.paused ∧
        (t.entry i).config = c ∧ (t.entry i).dueValue = x.dueValue ∧
        (t.entry i).duePending = (c.dueEnable && decide (x.dueValue ≤ (t.entry i).lifetime)) ∧
        (t.entry i).run =
          (if c.holds s.tally.inputs = false then .idle
          else if completes then .running
          else if x.run = .idle then if c.qualifyTime = 0 then .running else .qualifying
          else x.run) ∧
        (x.run = .running → c.holds s.tally.inputs = true → (t.entry i).lifetime = x.lifetime ∧ (t.entry i).starts = x.starts)

/-- SET_DUE (R113, R114): DENIED, then BAD_INDEX; else the due value clamped and stored, due pending evaluated at once, a
TALLY_DUE record where it turns on, and nothing else of any tally changed. The due-pending byte of the answer, 1 or 0, is the
model's (log entry 15). -/
def Obligations.DueValueIsStoredAndCompared : Prop :=
  ∀ (p : Port) (args : List Byte) (s : State), s.running = true → args.length = 7 →
    let outcome := exec (.setDue p (7 :: args)) s
    ((s.port p).rights.config = false → outcome = .next (s.refusedAt p 0x2A .denied 0)) ∧
    ((s.port p).rights.config = true → 11 < argField args 0 1 →
      outcome = .next (s.refusedAt p 0x2A .badIndex (argField args 0 1))) ∧
    ∀ i : Fin 12, (s.port p).rights.config = true → argField args 0 1 = i.val →
      let x := s.entry i
      let value := min 3599999999999 (argField args 1 6)
      let due := x.config.dueEnable && decide (value ≤ x.lifetime)
      ∃ t, outcome = .next t ∧ t = { s with tally := t.tally, queue := t.queue, ports := t.ports } ∧
        PortsAnswer s t p (beBytes 1 i.val ++ beBytes 6 value ++ [if due then 1 else 0]) ∧
        t.tally = { s.tally with entries := s.tally.entries.set i.val { x with dueValue := value, duePending := due } i.isLt } ∧
        t.queue = if due && !x.duePending then s.reported false (.tallyDue i.val x.lifetime) else s.queue

/-- PRESET_TALLY from the duty port and crew (R115, R116): BAD_INDEX; in RUNNING the clamped preset is staged with the crew and
nothing else changes; in IDLE and QUALIFYING it is applied with its TALLY_PRESET record, and due pending is evaluated. -/
def Obligations.PresetIsStagedOrApplied : Prop :=
  ∀ (p : Port) (args : List Byte) (s : State), s.running = true → args.length = 12 →
    (s.port p).rights.duty = true → 1 ≤ argField args 0 1 → argField args 0 1 ≤ 15 →
    s.duty.state = .onDuty ∨ s.duty.state = .due → s.duty.port = some p → s.duty.crew = argField args 0 1 →
    let outcome := exec (.presetTally p (12 :: args)) s
    (11 < argField args 1 1 → outcome = .next (s.refusedAt p 0x2B .badIndex (argField args 1 1))) ∧
    ∀ i : Fin 12, argField args 1 1 = i.val →
      let x := s.entry i
      let life := min 3599999999999 (argField args 2 6)
      let starts := min 999999 (argField args 8 4)
      let payload := fun last : Byte => beBytes 1 i.val ++ beBytes 6 life ++ beBytes 4 starts ++ [last]
      let y : Tally :=
        { x with
          lifetime := life, starts := starts, presetFlag := true, staged := none
          duePending := x.config.dueEnable && decide (x.dueValue ≤ life) }
      (x.run = .running →
        outcome = .next ((s.withEntry i { x with staged := some ⟨life, starts, argField args 0 1⟩ }).okAt p (payload 1))) ∧
      (x.run ≠ .running →
        ∃ t, outcome = .next t ∧ t = { s with tally := t.tally, queue := t.queue, ports := t.ports } ∧
          PortsAnswer s t p (payload 0) ∧
          t.tally = { s.tally with entries := s.tally.entries.set i.val y i.isLt } ∧
          (s.reported false
            (.tallyPreset i.val (argField args 0 1) x.lifetime life x.starts starts)).Reports t.queue)

/-! ### Duty -/

/-- A duty-bound request succeeds only from the duty port, carrying the duty crew, while the duty state is ON_DUTY or DUE
(R142); SET_ROTA is one outside VACANT (R125). Its checks come in the order of R142: DENIED; RANGE with the crew; STATE with the
state, in VACANT and RELEASED; NOT_DUTY with the duty crew. -/
def Obligations.DutyBoundRequestsNeedTheCrewOnDuty : Prop :=
  (∀ (p : Port) (args : List Byte) (c : Instr) (code : Byte) (s : State), s.running = true →
    let rest := BitVec.ofNat 8 args.length :: args
    let crew := argField args 0 1
    (c = .ackTrips p rest ∧ code = 0x1C ∧ args.length = 6) ∨ (c = .resetFirstOut p rest ∧ code = 0x1B ∧ args.length = 1) ∨
      (c = .presetTally p rest ∧ code = 0x2B ∧ args.length = 12) ∨
      (c = .openHandover p rest ∧ code = 0x33 ∧ args.length = 1) ∨
      (c = .setRota p rest ∧ code = 0x31 ∧ 2 ≤ args.length ∧ args.length ≤ 64 ∧ s.duty.state ≠ .vacant) →
    ((s.port p).rights.duty = false → exec c s = .next (s.refusedAt p code .denied 0)) ∧
    ((s.port p).rights.duty = true →
      (crew = 0 ∨ 15 < crew → exec c s = .next (s.refusedAt p code .range crew)) ∧
      (1 ≤ crew → crew ≤ 15 →
        (s.duty.state = .vacant → exec c s = .next (s.refusedAt p code .state 0)) ∧
        (s.duty.state = .released → exec c s = .next (s.refusedAt p code .state 3)) ∧
        (s.duty.state = .onDuty ∨ s.duty.state = .due → s.duty.port ≠ some p ∨ s.duty.crew ≠ crew →
          exec c s = .next (s.refusedAt p code .notDuty s.duty.crew))))) ∧
  ∀ (p : Port) (args : List Byte) (c : Instr) (s t : State) (payload : List Byte), s.running = true → args.length ≤ 64 →
    let rest := BitVec.ofNat 8 args.length :: args
    c = .ackTrips p rest ∨ c = .resetFirstOut p rest ∨ c = .presetTally p rest ∨ c = .openHandover p rest ∨
      (c = .setRota p rest ∧ s.duty.state ≠ .vacant) →
    exec c s = .next t → (t.port p).response = .ok payload →
      (s.port p).rights.duty = true ∧ 1 ≤ argField args 0 1 ∧ argField args 0 1 ≤ 15 ∧
        (s.duty.state = .onDuty ∨ s.duty.state = .due) ∧ s.duty.port = some p ∧ s.duty.crew = argField args 0 1

/-- ACCEPT_DUTY is refused in the order of R132: DENIED; RANGE with the crew; STATE with the state, in ON_DUTY and DUE. In VACANT it
takes duty (R119, R132, R148 to R151): the TAKEN record, a shift book record from crew 0 with the counts and tally values as they
stood, the shift counts and every shift value at 0, the duty record of the new crew, and then the duty-held input handed to the
tallies. ACCEPT_DUTY in RELEASED (R126, R133, R148 to
R151): CREW for the outgoing crew or an unexpected one; else the ACCEPTED record, the shift book record, every shift value at 0,
the duty record of the new crew, and a pending rota applied with its record. -/
def Obligations.ExchangeWritesTheBook : Prop :=
  (∀ (p : Port) (crew : Byte) (s : State), s.running = true →
     let refused := fun code detail => exec (.acceptDuty p [1, crew]) s = .next (s.refusedAt p 0x32 code detail)
     ((s.port p).rights.duty = false → refused .denied 0) ∧
     ((s.port p).rights.duty = true →
       (crew.toNat = 0 ∨ 15 < crew.toNat → refused .range crew.toNat) ∧
       (1 ≤ crew.toNat → crew.toNat ≤ 15 → s.duty.state = .onDuty → refused .state 1) ∧
       (1 ≤ crew.toNat → crew.toNat ≤ 15 → s.duty.state = .due → refused .state 2))) ∧
  (∀ (p : Port) (crew : Byte) (s : State), s.running = true → (s.port p).rights.duty = true → 1 ≤ crew.toNat →
     crew.toNat ≤ 15 → s.duty.state = .vacant →
     let r : BookRecord :=
       { number := s.book.nextNumber, shiftStart := s.book.shiftStart, shiftEnd := s.now, outgoing := 0,
         incoming := crew.toNat, slot := none, reoffers := 0, overdue := false, trips := s.trip.tripCount,
         points := s.trip.pointCount, latch := s.trip.latch, standing := s.trip.standing,
         tallies := s.tally.entries.toList.map fun t =>
           ⟨t.shiftPortion, t.shiftStarts, t.lifetime, t.presetFlag, t.saturatedFlag⟩ }
     ∃ t, exec (.acceptDuty p [1, crew]) s = .next t ∧
       t = { s with
         duty := { s.duty with state := .onDuty, crew := crew.toNat, port := some p, handover := .clear }
         book := { records := (r :: s.book.records).take 8, shiftStart := s.now
                   nextNumber := if s.book.nextNumber = 65535 then 1 else s.book.nextNumber + 1 }
         trip := { s.trip with tripCount := 0, pointCount := 0 }
         tally := t.tally, queue := t.queue, ports := t.ports } ∧
       (let reset := s.tally.entries.map fun x =>
         { x with shiftPortion := 0, shiftStarts := 0, presetFlag := false, saturatedFlag := false }
       t.tally = (handInput 34 true { s with tally := { s.tally with entries := reset } }).tally) ∧
       PortsAnswer s t p [1, crew, portLetter p] ∧ TalliesKeepSettings s t ∧ RaisedAtAll .handover t ∧
       (s.reported false (.handover .taken 0 crew.toNat none 0 0)).Reports t.queue) ∧
  (∀ (p : Port) (crew : Byte) (s : State), s.running = true → (s.port p).rights.duty = true → 1 ≤ crew.toNat →
     crew.toNat ≤ 15 → s.duty.state = .released →
     let h := s.duty.handover
     let wrong := crew.toNat = s.duty.crew ∨ (h.expected ≠ 0 ∧ crew.toNat ≠ h.expected)
     let r : BookRecord :=
       { number := s.book.nextNumber, shiftStart := s.book.shiftStart, shiftEnd := s.now, outgoing := s.duty.crew,
         incoming := crew.toNat, slot := h.slot, reoffers := h.reoffers, overdue := h.overdue, trips := s.trip.tripCount,
         points := s.trip.pointCount, latch := s.trip.latch, standing := s.trip.standing,
         tallies := s.tally.entries.toList.map fun t =>
           ⟨t.shiftPortion, t.shiftStarts, t.lifetime, t.presetFlag, t.saturatedFlag⟩ }
     let duty := { s.duty with
       state := .onDuty, crew := crew.toNat, port := some p, handover := .clear
       relieved := some ⟨s.elapsed, s.duty.port, s.duty.crew⟩ }
     let accepted := s.reported false (.handover .accepted s.duty.crew crew.toNat h.slot h.reoffers 0)
     (wrong → exec (.acceptDuty p [1, crew]) s = .next (s.refusedAt p 0x32 .crew h.expected)) ∧
     (¬ wrong →
       ∃ t, exec (.acceptDuty p [1, crew]) s = .next t ∧
         t = { s with
           duty := match s.duty.pendingRota with
             | none => duty
             | some rota => { duty with
                 rota := rota, pendingRota := none, lastServed := (mostRecentSlot rota s.now).map fun x => x.1 }
           book := { records := (r :: s.book.records).take 8, shiftStart := s.now
                     nextNumber := if s.book.nextNumber = 65535 then 1 else s.book.nextNumber + 1 }
           trip := { s.trip with tripCount := 0, pointCount := 0 }
           tally := t.tally
           queue := match s.duty.pendingRota with
             | none => accepted
             | some rota => accepted.report s.now s.time.quality s.burstNumber false (.rota rota.length)
           ports := t.ports } ∧
         t.tally.inputs = s.tally.inputs ∧ t.tally.paused = s.tally.paused ∧
         (∀ i, t.entry i =
           { s.entry i with shiftPortion := 0, shiftStarts := 0, presetFlag := false, saturatedFlag := false }) ∧
         PortsAnswer s t p [1, crew, portLetter p] ∧ RaisedAtAll .handover t))

/-- OPEN_HANDOVER in ON_DUTY, RELEASE_DUTY in DUE and RECLAIM_DUTY in RELEASED, from the duty port and crew (R131, R134 to R136):
the state, the deadline of each, its HANDOVER record and the notice; nothing else of the part changes. OPEN_HANDOVER in DUE is
refused with STATE. RELEASE_DUTY and RECLAIM_DUTY are refused in the order of R135 and R136: DENIED, RANGE, STATE in VACANT,
NOT_DUTY, STATE in a state that is not theirs; the detail, which those rules do not name, is 0 (R171). Of an ACCEPT_DUTY and a
RECLAIM_DUTY of one tick the first taken succeeds and the other is refused with STATE (R140): for the crew relieved at this tick
STATE stands in place of the NOT_DUTY of R136, as the model settles the two rules (log entry 34). -/
def Obligations.OpenReleaseAndReclaimMoveTheHandover : Prop :=
  (∀ (p : Port) (crew : Byte) (s : State), s.running = true → (s.port p).rights.duty = true → 1 ≤ crew.toNat →
    crew.toNat ≤ 15 → s.duty.port = some p → s.duty.crew = crew.toNat → s.duty.state = .due →
    exec (.openHandover p [1, crew]) s = .next (s.refusedAt p 0x33 .state 0)) ∧
  (∀ (p : Port) (crew : Byte) (c : Instr) (code : Byte) (wanted : DutyState) (s : State), s.running = true →
    (c = .releaseDuty p [1, crew] ∧ code = 0x34 ∧ wanted = .due) ∨
      (c = .reclaimDuty p [1, crew] ∧ code = 0x35 ∧ wanted = .released) →
    let refused := fun why => exec c s = .next (s.refusedAt p code why 0)
    if (s.port p).rights.duty = false then refused .denied
    else if crew.toNat = 0 ∨ 15 < crew.toNat then refused .range
    else if s.duty.state = .vacant then refused .state
    else if s.duty.port ≠ some p ∨ s.duty.crew ≠ crew.toNat then
      if wanted = .released ∧ s.duty.relieved = some ⟨s.elapsed, some p, crew.toNat⟩ then refused .state
      else refused .notDuty
    else if s.duty.state ≠ wanted then refused .state
    else ∃ t payload, exec c s = .next t ∧ (t.port p).response = .ok payload) ∧
  (∀ (p q : Port) (crew outgoing : Byte) (s t : State), s.running = true → (s.port p).rights.duty = true →
    (s.port q).rights.duty = true → 1 ≤ crew.toNat → crew.toNat ≤ 15 → 1 ≤ outgoing.toNat → outgoing.toNat ≤ 15 →
    s.duty.state = .released → s.duty.port = some q → s.duty.crew = outgoing.toNat →
    (exec (.acceptDuty p [1, crew]) s = .next t → t.duty.state = .onDuty →
      exec (.reclaimDuty q [1, outgoing]) t = .next (t.refusedAt q 0x35 .state 0)) ∧
    (exec (.reclaimDuty q [1, outgoing]) s = .next t →
      exec (.acceptDuty p [1, crew]) t = .next (t.refusedAt p 0x32 .state 2))) ∧
  ∀ (p : Port) (crew : Byte) (c : Instr) (s : State) (after : DutyState) (h : HandoverFields) (phase : HandoverPhase)
    (payload : List Byte), s.running = true → (s.port p).rights.duty = true → 1 ≤ crew.toNat → crew.toNat ≤ 15 →
    s.duty.port = some p → s.duty.crew = crew.toNat →
    let deadline := fun minutes : Nat => (⟨s.time.date, s.time.ms, 0⟩ : Instant).addUs ((minutes * 60000000 : Nat) : Int)
    let opened := deadline s.duty.settings.releaseWindow
    let offered := deadline s.duty.settings.acceptWindow
    (c = .openHandover p [1, crew] ∧ s.duty.state = .onDuty ∧ after = .due ∧ phase = .opened ∧
        h = ⟨none, 0, some opened, none, false, 0⟩ ∧ payload = 2 :: instantBytes opened) ∨
      (c = .releaseDuty p [1, crew] ∧ s.duty.state = .due ∧ after = .released ∧ phase = .released ∧
        h = { s.duty.handover with acceptDeadline := some offered } ∧ payload = 3 :: instantBytes offered) ∨
      (c = .reclaimDuty p [1, crew] ∧ s.duty.state = .released ∧ after = .due ∧ phase = .reclaimed ∧
        h = { s.duty.handover with acceptDeadline := none } ∧ payload = [2]) →
    ∃ t, exec c s = .next t ∧
      t = { s with
        duty := { s.duty with state := after, handover := h }
        queue := s.reported false (.handover phase s.duty.crew h.expected h.slot h.reoffers 0)
        ports := t.ports } ∧
      PortsAnswer s t p payload ∧ RaisedAtAll .handover t

/-- R124 and R128: on the circle of 65,536 days the forward distance leads from one instant to the other, and an instant is later than
another at a distance above 0 and up to 32,768 days, at which each is later than the other. The most recent slot instant of a rota is
the latest on the same date at or before the instant, else the last slot on the date before; only an empty rota has none. The
skipped count is the number of slot instants strictly between the last served one and the one that falls due, stopping at 255. -/
def Obligations.SlotsAreFoundOnTheCircle : Prop :=
  (∀ a b : Instant, a.inRange → b.inRange →
    a.circleFrom b < 65536 * 86400000 * 1000 ∧ b.addUs ((a.circleFrom b : Nat) : Int) = a ∧
      (a.laterThan b = true ↔ a ≠ b ∧ a.circleFrom b ≤ 32768 * 86400000 * 1000) ∧
      (a.atOrAfter b = true ↔ a = b ∨ a.laterThan b = true)) ∧
  (∀ (rota : List Slot) (i : Instant), RotaFits rota → i.inRange →
    (mostRecentSlot rota i = none ↔ rota = []) ∧
      ∀ due k x, mostRecentSlot rota i = some (due, k, x) → rota[k]? = some x ∧
        ((∃ y ∈ rota, y.minute * 60000 ≤ i.ms) → due = ⟨i.date, x.minute * 60000, 0⟩ ∧ x.minute * 60000 ≤ i.ms ∧
          ∀ y ∈ rota, y.minute * 60000 ≤ i.ms → y.minute ≤ x.minute) ∧
        ((∀ y ∈ rota, i.ms < y.minute * 60000) →
          due = ⟨if i.date = 0 then 65535 else i.date - 1, x.minute * 60000, 0⟩ ∧ ∀ y ∈ rota, y.minute ≤ x.minute)) ∧
  ∀ (rota : List Slot) (served due : Instant), RotaFits rota → served.inRange → due.inRange →
    ∃ l : List Instant, l.Nodup ∧ (∀ j, j ∈ l ↔ SlotBetween rota served due j) ∧
      skippedCount rota served due = min 255 l.length

/-- SLOT_DUE at the tick of a millisecond boundary is the check of R127, and elsewhere changes nothing (log entry 6). A check that
finds nothing due changes nothing. A deadline that has passed goes first, as its own event takes it, and while the quality is UNSET
no slot is looked for. With no served slot the most recent one is taken as served (R128). A slot that falls due (R128 to R131), at
a check that finds no deadline passed: the served mark moves; in ON_DUTY a handover opens with its DUE record and, where slots were
skipped, a SKIPPED record; in DUE and RELEASED the handover is retargeted with a SKIPPED record; in VACANT nothing more happens. A
new release deadline that the clock has already reached then passes in the same check (R127, R137). -/
def Obligations.SlotFallsDueByState : Prop :=
  (∀ s : State, s.boundaryAt ≠ some s.elapsed → exec .slotDue s = .next s) ∧
  (∀ s : State, s.boundaryAt = some s.elapsed → exec .slotDue s = .next (dutyCheck false s)) ∧
  (∀ s : State, s.boundaryAt = some s.elapsed → NothingFallsDue s → exec .slotDue s = .next s) ∧
  (∀ s a b : State, s.boundaryAt = some s.elapsed → s.running = true → ClockInRange s →
    1 ≤ s.duty.settings.acceptWindow → s.duty.settings.acceptWindow ≤ 30 →
    exec .releaseDeadlineExpiry s = .next a → exec .acceptDeadlineExpiry a = .next b →
      exec .slotDue s = if s.time.quality = .unset then .next b else exec .slotDue b) ∧
  (∀ (s : State) (due : Instant) (k : Nat) (x : Slot), s.boundaryAt = some s.elapsed → s.running = true →
    s.time.quality ≠ .unset → mostRecentSlot s.duty.rota s.now = some (due, k, x) → s.duty.lastServed = none →
    (∀ d, s.duty.state = .due → s.duty.handover.releaseDeadline = some d → s.now.atOrAfter d = false) →
    (∀ d, s.duty.state = .released → s.duty.handover.acceptDeadline = some d → s.now.atOrAfter d = false) →
      exec .slotDue s = .next { s with duty := { s.duty with lastServed := some due } }) ∧
  ∀ (s : State) (due served : Instant) (k : Nat) (x : Slot), s.boundaryAt = some s.elapsed → s.running = true →
    s.time.quality ≠ .unset →
    mostRecentSlot s.duty.rota s.now = some (due, k, x) → s.duty.lastServed = some served → due.laterThan served = true →
    let deadline := due.addUs ((s.duty.settings.releaseWindow * 60000000 : Nat) : Int)
    let late := s.now.atOrAfter deadline
    let inForce := if late then none else some deadline
    (∀ d, s.duty.state = .due → s.duty.handover.releaseDeadline = some d → s.now.atOrAfter d = false) →
    (∀ d, s.duty.state = .released → s.duty.handover.acceptDeadline = some d → s.now.atOrAfter d = false) →
    let skipped := skippedCount s.duty.rota served due
    let body := fun (phase : HandoverPhase) (reoffers : Nat) =>
      RecordBody.handover phase s.duty.crew x.crew (some k) reoffers skipped
    let opened := s.reported false (body .due 0)
    let overdue := fun (q : EventQueue) (reoffers : Nat) =>
      if late then
        q.report s.now s.time.quality s.burstNumber false (.handover .overdue s.duty.crew x.crew (some k) reoffers 0)
      else q
    ∃ t, exec .slotDue s = .next t ∧ t = { s with duty := t.duty, queue := t.queue, ports := t.ports } ∧ PortsKeep s t ∧
      (s.duty.state ≠ .vacant → RaisedAtAll .handover t) ∧
      match s.duty.state with
      | .vacant => t = { s with duty := { s.duty with lastServed := some due } }
      | .onDuty =>
        t.duty = { s.duty with
          lastServed := some due, state := .due, handover := ⟨some k, x.crew, inForce, none, late, 0⟩ } ∧
          t.queue = overdue
            (if skipped = 0 then opened
            else opened.report s.now s.time.quality s.burstNumber false (body .skipped 0)) 0
      | .due =>
        t.duty = { s.duty with
          lastServed := some due
          handover := { s.duty.handover with
            slot := some k, expected := x.crew, releaseDeadline := inForce, overdue := s.duty.handover.overdue || late } } ∧
          t.queue = overdue (s.reported false (body .skipped s.duty.handover.reoffers)) s.duty.handover.reoffers
      | .released =>
        t.duty = { s.duty with
          lastServed := some due, handover := { s.duty.handover with slot := some k, expected := x.crew } } ∧
          t.queue = s.reported false (body .skipped s.duty.handover.reoffers)

/-- RELEASE_DEADLINE_EXPIRY (R131, R137), at the tick of a millisecond boundary: the deadline that has passed in DUE sets the overdue
flag and goes, with an OVERDUE record; one that has not passed changes nothing, and neither expiry changes anything in another state
(R140) or at another tick (log entry 6). ACCEPT_DEADLINE_EXPIRY (R131, R138, R139): below the re-offer limit
the handover is re-offered with a new deadline; at it the handover lapses, back to the outgoing crew, to the standing crew at
port A, or into VACANT, where a pending rota is applied. -/
def Obligations.DeadlinesOfTheHandover : Prop :=
  (∀ s : State,
     (s.boundaryAt ≠ some s.elapsed ∨ s.duty.state ≠ .due → exec .releaseDeadlineExpiry s = .next s) ∧
     (s.boundaryAt ≠ some s.elapsed ∨ s.duty.state ≠ .released → exec .acceptDeadlineExpiry s = .next s)) ∧
  (∀ (s : State) (d : Instant), s.boundaryAt = some s.elapsed → s.running = true → s.duty.state = .due →
     s.duty.handover.releaseDeadline = some d →
     let h := s.duty.handover
     (s.now.atOrAfter d = false → exec .releaseDeadlineExpiry s = .next s) ∧
     (s.now.atOrAfter d = true →
       ∃ t, exec .releaseDeadlineExpiry s = .next t ∧ PortsKeep s t ∧ RaisedAtAll .handover t ∧
         t = { s with
           duty := { s.duty with handover := { h with overdue := true, releaseDeadline := none } }
           queue := s.reported false (.handover .overdue s.duty.crew h.expected h.slot h.reoffers 0)
           ports := t.ports })) ∧
  (∀ (s : State) (d : Instant), s.boundaryAt = some s.elapsed → s.running = true → s.duty.state = .released →
     s.duty.handover.acceptDeadline = some d → s.now.atOrAfter d = false → exec .acceptDeadlineExpiry s = .next s) ∧
  (∀ (s : State) (d : Instant), s.boundaryAt = some s.elapsed → s.running = true → s.duty.state = .released →
     s.duty.handover.acceptDeadline = some d → s.now.atOrAfter d = true →
     let h := s.duty.handover
     let limit := s.duty.settings.reofferLimit
     let standing := s.duty.settings.standingCrew
     let record := fun (phase : HandoverPhase) (incoming reoffers : Nat) =>
       s.reported false (.handover phase s.duty.crew incoming h.slot reoffers 0)
     ∃ t, exec .acceptDeadlineExpiry s = .next t ∧ PortsKeep s t ∧ RaisedAtAll .handover t ∧
       t = { s with duty := t.duty, tally := t.tally, queue := t.queue, ports := t.ports } ∧ TalliesKeepSettings s t ∧
       (h.reoffers < limit →
         t.duty = { s.duty with handover := { h with
           reoffers := h.reoffers + 1
           acceptDeadline := some ((⟨s.time.date, s.time.ms, 0⟩ : Instant).addUs
             ((s.duty.settings.acceptWindow * 60000000 : Nat) : Int)) } } ∧
         t.queue = record .reoffered h.expected (h.reoffers + 1) ∧ t.tally = s.tally) ∧
       (limit ≤ h.reoffers → s.duty.settings.lapse = .revert →
         t.duty = { s.duty with state := .onDuty, handover := .clear } ∧
         t.queue = record .lapsedRevert s.duty.crew h.reoffers ∧ t.tally = s.tally) ∧
       (limit ≤ h.reoffers → s.duty.settings.lapse = .standing → standing ≠ 0 →
         t.duty = { s.duty with state := .onDuty, crew := standing, port := some .a, handover := .clear } ∧
         t.queue = record .lapsedStanding standing h.reoffers ∧ t.tally = s.tally) ∧
       (limit ≤ h.reoffers → s.duty.settings.lapse = .standing → standing = 0 →
         t.duty = { s.duty with
           state := .vacant, crew := 0, port := none, handover := .clear, pendingRota := none
           rota := s.duty.pendingRota.getD s.duty.rota
           lastServed := match s.duty.pendingRota with
             | none => s.duty.lastServed
             | some rota => (mostRecentSlot rota s.now).map fun x => x.1 } ∧
         t.tally = (handInput 34 false s).tally ∧
         (record .lapsedStanding 0 h.reoffers).Reports t.queue))

/-- SET_ROTA is refused in the order of R125: DENIED in VACANT without CONFIG, the crew not examined; past the authority, BAD_INDEX for
a count above 6, FRAME for arguments that do not carry the slots, RANGE with the index of the first slot out of range, and then of
the first slot not above the one before it (log entry 14). With a rota that fits (R125, R126): in VACANT it is applied at once, its
most recent slot served, with a ROTA record; in ON_DUTY and DUE, duty-bound, it waits as the pending rota and nothing else
changes. -/
def Obligations.RotaIsAppliedOrWaits : Prop :=
  (∀ (p : Port) (args : List Byte) (s : State), s.running = true → 2 ≤ args.length → args.length ≤ 64 →
    let crew := argField args 0 1
    let k := argField args 1 1
    let slot := fun j : Nat => (⟨argField args (2 + 3 * j) 2, argField args (4 + 3 * j) 1⟩ : Slot)
    let refused := fun code detail =>
      exec (.setRota p (BitVec.ofNat 8 args.length :: args)) s = .next (s.refusedAt p 0x31 code detail)
    (s.duty.state = .vacant → (s.port p).rights.config = false → refused .denied 0) ∧
    ((s.duty.state = .vacant ∧ (s.port p).rights.config = true) ∨
        ((s.duty.state = .onDuty ∨ s.duty.state = .due) ∧ (s.port p).rights.duty = true ∧ 1 ≤ crew ∧ crew ≤ 15 ∧
          s.duty.port = some p ∧ s.duty.crew = crew) →
      (6 < k → refused .badIndex k) ∧
      (k ≤ 6 → args.length ≠ 2 + 3 * k → refused .frame args.length) ∧
      (k ≤ 6 → args.length = 2 + 3 * k →
        (∀ j, j < k → ¬ (slot j).fits → (∀ i, i < j → (slot i).fits) → refused .range j) ∧
        ∀ j, j + 1 < k → (∀ i, i < k → (slot i).fits) → (slot (j + 1)).minute ≤ (slot j).minute →
          (∀ i, i < j → (slot i).minute < (slot (i + 1)).minute) → refused .range (j + 1)))) ∧
  ∀ (p : Port) (args : List Byte) (s : State) (k : Nat), s.running = true → k ≤ 6 → argField args 1 1 = k →
    args.length = 2 + 3 * k →
    let rota := (List.range k).map fun j => (⟨argField args (2 + 3 * j) 2, argField args (4 + 3 * j) 1⟩ : Slot)
    let rest := BitVec.ofNat 8 (2 + 3 * k) :: args
    RotaFits rota →
    (s.duty.state = .vacant → (s.port p).rights.config = true →
      ∃ t, exec (.setRota p rest) s = .next t ∧
        t = { s with
          duty := { s.duty with
            rota := rota, pendingRota := none, lastServed := (mostRecentSlot rota s.now).map fun x => x.1 }
          queue := s.reported false (.rota k)
          ports := t.ports } ∧
        PortsAnswer s t p [BitVec.ofNat 8 k, 0]) ∧
    (s.duty.state = .onDuty ∨ s.duty.state = .due → (s.port p).rights.duty = true → 1 ≤ s.duty.crew → s.duty.crew ≤ 15 →
      s.duty.port = some p → argField args 0 1 = s.duty.crew →
      exec (.setRota p rest) s =
        .next ((s.withDuty { s.duty with pendingRota := some rota }).okAt p [BitVec.ofNat 8 k, 1]))

/-- SET_HANDOVER (R144): DENIED, then RANGE for the lapse action and for the standing crew; else the windows and the limit clamped
and all five settings stored, with every deadline in force as it was. -/
def Obligations.HandoverSettingsAreClampedAndStored : Prop :=
  ∀ (p : Port) (release accept limit action crew : Byte) (s : State), s.running = true →
    let outcome := exec (.setHandover p [5, release, accept, limit, action, crew]) s
    if (s.port p).rights.config = false then outcome = .next (s.refusedAt p 0x36 .denied 0)
    else if 1 < action.toNat then outcome = .next (s.refusedAt p 0x36 .range action.toNat)
    else if 15 < crew.toNat then outcome = .next (s.refusedAt p 0x36 .range crew.toNat)
    else
      let settings : HandoverSettings :=
        ⟨max 1 (min 240 release.toNat), max 1 (min 30 accept.toNat), min 7 limit.toNat,
          if action = 0 then .revert else .standing, crew.toNat⟩
      outcome = .next ((s.withDuty { s.duty with settings := settings }).okAt p settings.bytes)

/-! ### Reads -/

/-- The reads of whole blocks (R17, R37, R79, R80, R145, R190): any port, no right; the payload of the state as it stands, laid out
byte by byte, and nothing else changed. The reads that name a thing (R57, R117, R118, R152 to R154, R176, R190): refused for a
thing that is not there, or for a tally outside the read mask; else the payload of the thing, and nothing else changed but, for
READ_TALLY and READ_PORT, the model's count of free values, which the bytes of an absent staged preset and of an absent refusal
record are (log entry 13). The flag bytes, 1 or 0, are the model's (log entry 15), and so is the count of an absent pending rota
(log entry 37). -/
def Obligations.ReadsAnswerAndChangeNothing : Prop :=
  (∀ (p : Port) (s : State), s.running = true →
     let flag := fun b : Bool => ([if b then 1 else 0] : List Byte)
     let d := s.discipline
     exec (.readTime p [0]) s = .next (s.okAt p
       (beBytes 2 s.time.date ++ beBytes 4 s.time.ms ++ beBytes 2 (s.time.q / 4096000000) ++ [s.time.quality.code] ++
         beSigned 4 (d.freqTrim + d.slewTrim) ++ flag s.time.staged.isSome)) ∧
     exec (.readDiscipline p [0]) s = .next (s.okAt p
       (beSigned 4 d.freqTrim ++ beSigned 4 d.slewTrim ++ beSigned 4 d.lastOffset ++ beBytes 1 d.lockCounter ++
         beBytes 1 d.unlockCounter ++ flag d.stepPending ++ beBytes 2 d.rejectedMarks ++ optInstantBytes d.lastMark ++
         flag d.settings.stepEnable ++ beBytes 2 d.settings.stepLimit ++ beBytes 2 d.settings.lockWindow ++
         beBytes 1 d.settings.loopDivisor ++ beBytes 4 d.settings.holdoverLimit))) ∧
  (∀ (p : Port) (s : State), s.running = true →
     let flag := fun b : Bool => ([if b then 1 else 0] : List Byte)
     let x := s.trip
     let latch : Byte := match x.latch with | .armed => 0 | .provisional => 1 | .final => 2
     let first := x.ranked.head?.map fun e => e.instant
     exec (.readFirstOut p [0]) s = .next (s.okAt p
       ([latch] ++ flag x.burst.isSome ++ beBytes 2 (match x.burst with | none => 0 | some b => b.number) ++
         beBytes 2 x.lastBurst ++ beBytes 2 x.latchingBurst ++ optInstantBytes first ++ beBytes 1 x.ranked.length ++
         beBytes 1 x.overflow ++ x.ranked.flatMap fun e =>
           beBytes 1 e.point ++ beBytes 4 (rankOffset e.instant (first.getD ⟨0, 0, 0⟩)).toNat)) ∧
     exec (.readAnnunciation p [0]) s = .next (s.okAt p
       ((List.finRange 32).map (fun n => match x.entry n with
           | .normal => (0 : Byte) | .activeUnack => 1 | .activeAck => 2 | .returnedUnack => 3) ++
         beBytes 2 x.tripCount ++ beBytes 2 x.pointCount))) ∧
  (∀ (p : Port) (s : State), s.running = true →
     let flag := fun b : Bool => ([if b then 1 else 0] : List Byte)
     let d := s.duty
     let h := d.handover
     let rota := fun r : List Slot => beBytes 1 r.length ++ (List.range 6).flatMap fun k =>
       match r[k]? with | none => [0, 0, 0] | some x => beBytes 2 x.minute ++ beBytes 1 x.crew
     exec (.readDuty p [0]) s = .next (s.okAt p
       ([match d.state with | .vacant => (0 : Byte) | .onDuty => 1 | .due => 2 | .released => 3] ++ beBytes 1 d.crew ++
         [match d.port with | none => (0 : Byte) | some q => portLetter q] ++
         (match h.slot with | none => [0xFF] | some k => beBytes 1 k) ++ beBytes 1 h.expected ++
         optInstantBytes h.releaseDeadline ++ optInstantBytes h.acceptDeadline ++ flag h.overdue ++ beBytes 1 h.reoffers ++
         rota d.rota ++ flag d.pendingRota.isSome ++ rota (d.pendingRota.getD []) ++ optInstantBytes d.lastServed ++
         beBytes 1 d.settings.releaseWindow ++ beBytes 1 d.settings.acceptWindow ++ beBytes 1 d.settings.reofferLimit ++
         [match d.settings.lapse with | .revert => (0 : Byte) | .standing => 1] ++ beBytes 1 d.settings.standingCrew))) ∧
  (∀ (p : Port) (a b : Byte) (s : State), s.running = true →
     if 31 < a.toNat then exec (.readPoints p [2, a, b]) s = .next (s.refusedAt p 0x10 .badIndex 0)
     else
       let count := min (max 1 (min 32 b.toNat)) (32 - a.toNat)
       let entries := ((List.finRange 32).filter fun n => decide (a.toNat ≤ n.val ∧ n.val < a.toNat + count)).flatMap fun n =>
         let e := (s.point n).entry
         [e.mode.code, e.polarity.code] ++ beBytes 1 e.debounce ++ beBytes 1 e.chatterLimit ++ beBytes 1 e.chatterWindow
       exec (.readPoints p [2, a, b]) s = .next (s.okAt p
         ([a] ++ beBytes 1 count ++ entries ++ beBytes 4 s.stateVector.toNat ++ beBytes 8 s.chatterStates)) ∧
       ∀ n : Fin 32, s.stateVector.getLsbD n.val = (s.point n).active ∧
         s.chatterStates / 4 ^ n.val % 4 =
           match (s.point n).chatter with | .clear => 0 | .counting _ _ => 1 | .suppressed _ _ => 2) ∧
  (∀ (p : Port) (a : Byte) (s : State), s.running = true →
     let flag := fun b : Bool => ([if b then 1 else 0] : List Byte)
     (11 < a.toNat → exec (.readTally p [1, a]) s = .next (s.refusedAt p 0x28 .badIndex a.toNat)) ∧
     ∀ i : Fin 12, a.toNat = i.val →
       let x := s.entry i
       let c := x.config
       let run : Byte := match x.run with | .idle => 0 | .qualifying => 1 | .running => if s.tally.paused then 3 else 2
       let progress := match x.run with | .idle => 0 | .qualifying => x.qualifyCount | .running => x.runLength
       let flags : Byte := if x.presetFlag then if x.saturatedFlag then 3 else 1 else if x.saturatedFlag then 2 else 0
       let staged := match x.staged with
         | none => 0 :: (List.range 11).map (Config.absentByte s.freeIndex)
         | some y => 1 :: (beBytes 6 y.lifetime ++ beBytes 4 y.starts ++ beBytes 1 y.crew)
       if (s.port p).readMask.getLsbD i.val then
         exec (.readTally p [1, a]) s = .next ({ s with freeIndex := s.freeIndex + 1 }.okAt p
           ([a] ++ flag c.inUse ++ beBytes 5 c.pattern.toNat ++ beBytes 5 c.care.toNat ++ beBytes 1 c.qualifyTime ++
             flag c.recordTransitions ++ flag c.dueEnable ++ flag (s.condition i) ++ [run] ++ beBytes 6 progress ++
             beBytes 6 x.lifetime ++ beBytes 4 (x.lifetime / 360000) ++ beBytes 4 (x.lifetime / 3600000) ++
             beBytes 1 (x.lifetime / 60000 % 60) ++ beBytes 1 (x.lifetime / 1000 % 60) ++ beBytes 2 (x.lifetime % 1000) ++
             beBytes 4 x.starts ++ beBytes 4 x.shiftPortion ++ beBytes 2 x.shiftStarts ++ beBytes 6 x.dueValue ++
             flag x.duePending ++ [flags] ++ staged))
       else exec (.readTally p [1, a]) s = .next (s.refusedAt p 0x28 .denied i.val)) ∧
  (∀ (p : Port) (a : Byte) (s : State), s.running = true →
     ((∀ q, a ≠ portLetter q) → exec (.readPort p [1, a]) s = .next (s.refusedAt p 0x48 .badIndex a.toNat)) ∧
     ∀ q, a = portLetter q →
       let u := s.port q
       let r := u.rights
       let rights := (if r.time then 1 else 0) + (if r.config then 2 else 0) + (if r.events then 4 else 0) +
         if r.duty then 8 else 0
       let refusal := match u.refusal with
         | none => 0 :: (List.range 12).map (Config.absentByte s.freeIndex)
         | some x => [1, x.request, x.code.code] ++ beBytes 2 x.detail ++ beBytes 2 x.instant.date ++
             beBytes 4 x.instant.ms ++ beBytes 2 x.instant.us
       exec (.readPort p [1, a]) s = .next ({ s with freeIndex := s.freeIndex + 1 }.okAt p
         (beBytes 2 620 ++ [1, a] ++ beBytes 1 u.address.toNat ++ beBytes 1 rights ++ beBytes 2 u.readMask.toNat ++
           [if s.queue.subscribed.get q then 1 else 0] ++ refusal))) ∧
  ∀ (p : Port) (a b : Byte) (s : State), s.running = true →
     (s.book.records[a.toNat]? = none →
       exec (.readShiftBook p [2, a, b]) s = .next (s.refusedAt p 0x38 .badIndex a.toNat)) ∧
     ∀ r, s.book.records[a.toNat]? = some r →
       let common := [a, b] ++ beBytes 1 s.book.records.length ++ beBytes 2 r.number
       let latch : Byte := match r.latch with | .armed => 0 | .provisional => 1 | .final => 2
       let header := instantBytes r.shiftStart ++ instantBytes r.shiftEnd ++ beBytes 1 r.outgoing ++ beBytes 1 r.incoming ++
         (match r.slot with | none => [0xFF] | some k => beBytes 1 k) ++ beBytes 1 r.reoffers ++
         [if r.overdue then 1 else 0] ++ beBytes 2 r.trips ++ beBytes 2 r.points ++ [latch] ++
         beBytes 1 r.standing.length ++ r.standing.flatMap fun e => beBytes 1 e.1 ++ [e.2.code]
       let block := fun k : Nat => match r.tallies[k]? with
         | none => []
         | some x =>
           if (s.port p).readMask.getLsbD k then
             let flags : Byte := if x.presetFlag then if x.saturatedFlag then 6 else 2 else if x.saturatedFlag then 4 else 0
             beBytes 1 k ++ [flags] ++ beBytes 4 x.shiftPortion ++ beBytes 2 x.shiftStarts ++ beBytes 6 x.lifetime
           else beBytes 1 k ++ [1, 0, 0, 0, 0, 0, 0, 0, 0, 0, 0, 0, 0]
       (2 < b.toNat → exec (.readShiftBook p [2, a, b]) s = .next (s.refusedAt p 0x38 .range b.toNat)) ∧
       (b = 0 → exec (.readShiftBook p [2, a, b]) s = .next (s.okAt p (common ++ header))) ∧
       (b = 1 → exec (.readShiftBook p [2, a, b]) s = .next (s.okAt p (common ++ [0, 1, 2, 3, 4, 5].flatMap block))) ∧
       (b = 2 → exec (.readShiftBook p [2, a, b]) s = .next (s.okAt p (common ++ [6, 7, 8, 9, 10, 11].flatMap block)))

/-! ### Notices, ports and frames -/

/-- R163: the top notice is the pending-and-enabled notice that stands highest, none (0xFF) when there is none; READ_NOTICES answers
with the pending set, the enable set, the style, the top notice and the line, and clears nothing. An argument is refused. -/
def Obligations.TopNoticeIsTheHighestPendingAndEnabled : Prop :=
  ∀ (p : Port) (s : State), s.running = true →
    let u := s.port p
    (∀ arg : Byte, exec (.readNotices p [1, arg]) s = .next (s.refusedAt p 0x40 .frame 1)) ∧
    ∃ top : Nat,
      (if u.pending &&& u.enabled = 0 then top = 0xFF
      else top < 7 ∧ (u.pending &&& u.enabled).getLsbD top = true ∧ ∀ j, j < top → (u.pending &&& u.enabled).getLsbD j = false) ∧
      exec (.readNotices p [0]) s = .next (s.okAt p
        [BitVec.ofNat 8 u.pending.toNat, BitVec.ofNat 8 u.enabled.toNat, (match u.style with | .level => 0 | .pulse => 1),
          BitVec.ofNat 8 top, if u.line = .active then 1 else 0])

/-- CLEAR_NOTICES (R162, R164 to R166): the marked latched notices stop being pending and no level notice moves; the line goes
inactive with the last notice, and in PULSE style shows a gap while one remains, which a gap in progress absorbs. SET_NOTICES
(R161, R164, R165): RANGE for a style that names neither; else the enables of the seven notices and the style stored, the pending
set kept, and the line driven: in PULSE style a notice that becomes pending-and-enabled while the line is active gives a gap, a
change to LEVEL ends one. The line at a change of style together with the enables is the model's (log entry 20). -/
def Obligations.NoticeRequestsMoveTheLine : Prop :=
  (∀ (p : Port) (mask : Byte) (s : State), s.running = true →
     let u := s.port p
     let pending := u.pending &&& ~~~(BitVec.ofNat 7 (mask.toNat % 16))
     let wanted := pending &&& u.enabled
     let plain : Line := if wanted = 0 then .inactive else .active
     let line : Line :=
       match u.style, u.line with
       | .level, _ => plain
       | .pulse, .gap e => .gap e
       | .pulse, .inactive => plain
       | .pulse, .active => if wanted = 0 then .inactive else .gap (s.elapsed + 50 * 4096000000)
     exec (.clearNotices p [1, mask]) s =
       .next ((s.withPort p { u with pending := pending, line := line }).okAt p [BitVec.ofNat 8 pending.toNat])) ∧
  (∀ (p : Port) (enable style : Byte) (s : State), s.running = true →
     let u := s.port p
     let enabled := BitVec.ofNat 7 enable.toNat
     let new : Style := if style = 0 then .level else .pulse
     let wanted := u.pending &&& enabled
     let plain : Line := if wanted = 0 then .inactive else .active
     let line : Line :=
       if new ≠ u.style then plain
       else match u.style, u.line with
         | .level, _ => plain
         | .pulse, .gap e => .gap e
         | .pulse, .inactive => plain
         | .pulse, .active =>
           if wanted = 0 then .inactive
           else if wanted &&& ~~~(u.pending &&& u.enabled) = 0 then .active
           else .gap (s.elapsed + 50 * 4096000000)
     if 1 < style.toNat then exec (.setNotices p [2, enable, style]) s = .next (s.refusedAt p 0x41 .range style.toNat)
     else exec (.setNotices p [2, enable, style]) s =
       .next ((s.withPort p { u with enabled := enabled, style := new, line := line }).okAt p
         [BitVec.ofNat 8 enabled.toNat, style, BitVec.ofNat 8 u.pending.toNat]))

/-- SET_ALARM (R124, R159, R160): RANGE for a millisecond of 86,400,000 or more with the flag set; else the alarm of the port alone
is replaced or removed and compared at once, on the circle of 65,536 days; the ALARM-pending byte of the answer, 1 or 0, is the
model's (log entry 15). ALARM_REACHED (R158, R159), at the tick of a millisecond boundary: the notice of the port follows its
compare, and nothing else but its line moves; at another tick nothing changes (log entry 6). -/
def Obligations.AlarmFollowsItsCompare : Prop :=
  (∀ (p : Port) (args : List Byte) (s : State), s.running = true → args.length = 7 →
     let flag := argField args 0 1
     let alarm : Option Instant := if flag = 0 then none else some ⟨argField args 1 2, argField args 3 4, 0⟩
     if flag ≠ 0 ∧ 86400000 ≤ argField args 3 4 then
       exec (.setAlarm p (7 :: args)) s = .next (s.refusedAt p 0x43 .range 0)
     else
       let holds := match alarm with
         | none => false
         | some a => decide (s.time.quality ≠ .unset) && decide (s.now.circleFrom a ≤ 32768 * 86400000 * 1000)
       ∃ t, exec (.setAlarm p (7 :: args)) s = .next t ∧ t = { s with ports := s.ports.set p (t.port p) } ∧
         t.port p = { s.port p with
           frame := none, response := .ok (optInstantBytes alarm ++ [if holds then 1 else 0]), alarm := alarm
           pending := (t.port p).pending, line := (t.port p).line } ∧
         (t.port p).pending.has .alarm = holds ∧
         ∀ m, m ≠ .alarm → (t.port p).pending.has m = (s.port p).pending.has m) ∧
  (∀ (p : Port) (s : State), s.boundaryAt ≠ some s.elapsed → exec (.alarmReached p) s = .next s) ∧
  (∀ (p : Port) (s : State), s.running = true → s.boundaryAt = some s.elapsed →
     let holds := match (s.port p).alarm with
       | none => false
       | some a => decide (s.time.quality ≠ .unset) && decide (s.now.circleFrom a ≤ 32768 * 86400000 * 1000)
     ∃ t, exec (.alarmReached p) s = .next t ∧ t = { s with ports := s.ports.set p (t.port p) } ∧ PortsKeep s t ∧
       (t.port p).pending.has .alarm = holds ∧ (∀ m, m ≠ .alarm → (t.port p).pending.has m = (s.port p).pending.has m) ∧
       (holds = (s.port p).pending.has .alarm → t = s))

/-- A notice that is raised or whose condition changes (R156, R157, R158, R164, R165, R166): a raise of a pending notice moves
nothing; else the notice and the line of its port move, and nothing else. In LEVEL the line is active while a notice is
pending-and-enabled. In PULSE a gap in progress absorbs the change, an inactive line becomes active with no gap, and a notice that
becomes pending-and-enabled while the line is active starts one gap of 50 µs. In BACKUP a port takes no raise and no change (R167).
PULSE_GAP_END (R165): at the end of its 50 µs the line becomes active if a notice is pending-and-enabled, else inactive. That a gap
that has not run and a line in no gap stay as they are is the model's choice (log entry 6). -/
def Obligations.PulseGapEndDrivesTheLine : Prop :=
  (∀ (p : Port) (n : Notice) (on : Bool) (s : State),
    let u := s.port p
    let t := setNotice p n on s
    let v := t.port p
    let wanted := v.pending &&& v.enabled
    let plain : Line := if wanted = 0 then .inactive else .active
    (s.running = false ∨ u.pending.has n = on → t = s) ∧
    (s.running = true → u.pending.has n ≠ on →
      t = s.withPort p { u with pending := v.pending, line := v.line } ∧
      (∀ m, v.pending.has m = if m = n then on else u.pending.has m) ∧
      (u.style = .level → v.line = plain) ∧
      (∀ e, u.style = .pulse → u.line = .gap e → v.line = .gap e) ∧
      (u.style = .pulse → u.line = .inactive → v.line = plain) ∧
      (u.style = .pulse → u.line = .active → v.line =
        if wanted = 0 then .inactive
        else if on = true ∧ u.enabled.has n = true then .gap (s.elapsed + 50 * 4096000000)
        else .active))) ∧
  ∀ (p : Port) (s : State),
    (∀ e, (s.port p).line = .gap e → e ≤ s.elapsed → exec (.pulseGapEnd p) s = .next
      (s.withPort p { s.port p with
        line := if (s.port p).pending &&& (s.port p).enabled = 0 then .inactive else .active })) ∧
    (∀ e, (s.port p).line = .gap e → s.elapsed < e → exec (.pulseGapEnd p) s = .next s) ∧
    ((s.port p).line = .active ∨ (s.port p).line = .inactive → exec (.pulseGapEnd p) s = .next s)

/-- SET_RIGHTS (R99, R113, R174): port A alone; port B or C alone; never the DUTY right of the duty port; else the rights and the
mask stored, a port that loses EVENTS unsubscribed, and TALLY_DUE evaluated against a new mask. -/
def Obligations.RightsAreStoredAndActOnTheQueueAndNotices : Prop :=
  ∀ (p : Port) (letter rights high low : Byte) (s : State), s.running = true →
    let outcome := exec (.setRights p [4, letter, rights, high, low]) s
    (p ≠ .a → outcome = .next (s.refusedAt p 0x49 .denied 0)) ∧
    (p = .a → letter ≠ 0x42 → letter ≠ 0x43 → outcome = .next (s.refusedAt p 0x49 .badIndex letter.toNat)) ∧
    ∀ q : Port, p = .a → q ≠ .a → letter = portLetter q →
      (s.duty.port = some q → rights.getLsbD 3 = false →
        outcome = .next (s.refusedAt p 0x49 .state s.duty.state.code)) ∧
      ((s.duty.port ≠ some q ∨ rights.getLsbD 3 = true) →
        let stored : Rights := ⟨rights.getLsbD 0, rights.getLsbD 1, rights.getLsbD 2, rights.getLsbD 3⟩
        let mask := BitVec.ofNat 12 (high.toNat * 256 + low.toNat)
        ∃ t, outcome = .next t ∧ t = { s with queue := t.queue, ports := t.ports } ∧
          (∀ r, t.port r =
            { (s.withPort q { s.port q with rights := stored, readMask := mask }).okAt p
              [letter, BitVec.ofNat 8 (rights.toNat % 16), BitVec.ofNat 8 (high.toNat % 16), low] |>.port r with
              pending := (t.port r).pending, line := (t.port r).line }) ∧
          ((s.port q).rights.events = true → stored.events = false → s.queue.subscribed.get q = true →
            t.queue.subscribed.get q = false ∧ t.queue.stream q = [] ∧ (t.port q).pending.has .events = false) ∧
          ((s.port q).rights.events = false ∨ stored.events = true → t.queue = s.queue) ∧
          (mask ≠ (s.port q).readMask → (t.port q).pending.has .tallyDue = (s.dueTallies &&& mask != 0)) ∧
          ∀ r, r ≠ q → (t.port r).pending = (s.port r).pending)

/-- A frame of bad shape, with an unknown code, or with the wrong argument length is refused by the port unit in this order
(R170), whatever request it is. A write ended by a repeated START is discarded, and nothing else changes (R169). A refusal changes
two places only: the response buffer and the refusal record of the refusing port (R171, R175); the frame of that port becomes idle
at its STOP (R169). In BACKUP a port acknowledges nothing and no request is taken, whichever it is (R168, R178; log entry 23). -/
def Obligations.FramesAreCheckedAndRefusalsChangeOnlyTheirPort : Prop :=
  (∀ (c : Instr) (f : Frame) (s : State), frameOf c = some f → s.running = false → exec c s = .next s) ∧
  (∀ (c : Instr) (f : Frame) (s : State), frameOf c = some f → s.running = true →
     let shaped := match f.rest with
       | [] => false
       | len :: args => decide (len.toNat ≤ 64) && decide (args.length = len.toNat)
     let refused := fun code detail => exec c s = .next (s.refusedAt f.port f.code code detail)
     (shaped = false → refused .frame (min 255 (1 + f.rest.length))) ∧
     (shaped = true → requestCodes.contains f.code = false → refused .unknown f.code.toNat) ∧
     (∀ n, shaped = true → fixedLength f.code = some n → f.rest.length ≠ n + 1 → refused .frame (f.rest.length - 1)) ∧
     (shaped = true → f.code = 0x31 → f.rest.length < 3 → refused .frame (f.rest.length - 1))) ∧
  (∀ (p : Port) (bytes : List Byte) (s : State),
     exec (.repeatedStartDiscard p bytes) s = .next (s.withPort p { s.port p with frame := none })) ∧
  (∀ (c : Instr) (f : Frame) (s t : State) (code : RefusalCode) (request : Byte) (detail : Nat),
     frameOf c = some f → s.running = true → exec c s = .next t →
       (t.port f.port).response = .refused code request detail →
         request = f.code ∧ t = s.refusedAt f.port f.code code detail)

/-! ### Supplies -/

/-- MAIN_LOSS_WARNING in RUN (R16, R58, R65, R81, R120, R167, R178, R181, R182): the start of the outage written, debounces
cancelled, the burst closed with its FIRST_OUT record, the staged set discarded, the tallies paused, every port closed, and the
state BACKUP; VBAK below 1.8 V then loses the marker. What the order of the closing actions decides is log entry 9, and the VBAK
operand is log entry 30. The other commands of the supply monitor (R180, R182, R185): each writes its own fields, in the supply
state that takes it, and nothing else. A warning in BACKUP, and a start of the qualification in RUN or while one runs, change
nothing (log entry 6). -/
def Obligations.MainLossAndSupplyEvents : Prop :=
  (∀ (order : ClosingOrder) (low : Bool) (s : State),
     (s.running = false → exec (.mainLossWarning order low) s = .next s) ∧
     (s.running = true →
       ∃ t, exec (.mainLossWarning order low) s = .next t ∧
         t = { s with
           supply := { s.supply with
             state := .backup, qualification := none, outageStart := some s.now, qualityAtStart := s.time.quality
             retentionValid := s.supply.retentionValid && !low }
           time := { s.time with staged := none }
           points := t.points
           trip := { s.trip with
             burst := none
             latch := if s.trip.burst.isSome ∧ s.trip.latch = .provisional then .final else s.trip.latch }
           tally := t.tally, queue := t.queue, ports := t.ports } ∧
         (∀ n, t.point n = { s.point n with debouncing := none }) ∧
         (∀ q, t.port q = { s.port q with
           frame := none, response := .none, refusal := none, pending := 0, line := .inactive }) ∧
         t.tally.paused = true ∧ TalliesKeepSettings s t ∧ s.queue.Reports t.queue ∧
         (s.trip.burst = none ∨ s.trip.latch ≠ .provisional ∧ order = .tallyFirst → t.queue = s.queue) ∧
         (s.trip.burst = none ∨ order = .tallyFirst → ∀ i, t.entry i =
           if (s.entry i).run = .qualifying then { s.entry i with run := .idle, qualifyCount := 0 } else s.entry i) ∧
         ∀ b first more, s.trip.burst = some b → s.trip.latch = .provisional → s.trip.ranked = first :: more →
           (s.queue.report s.now s.time.quality b.number false
             (.firstOut first.instant s.trip.overflow
               (s.trip.ranked.map fun e => (e.point, rankOffset e.instant first.instant)))).Reports t.queue)) ∧
  (∀ s : State,
     (s.running = true →
       exec .retentionLost s = .next s ∧ exec .returnQualificationStart s = .next s ∧
         exec .returnQualificationStop s = .next s ∧
         exec .resetRearm s = .next
           { s with supply := { s.supply with resetArmed := true, resetHigh := true, resetHighAt := s.elapsed } }) ∧
     (s.running = false →
       exec .retentionLost s = .next { s with supply := { s.supply with retentionValid := false } } ∧
         exec .returnQualificationStop s = .next { s with supply := { s.supply with qualification := none } } ∧
         exec .resetRearm s = .next s ∧
         (s.supply.qualification = none → exec .returnQualificationStart s = .next
           { s with supply := { s.supply with qualification := some (s.elapsed + 50 * 4096000000000) } }) ∧
         (s.supply.qualification ≠ none → exec .returnQualificationStart s = .next s)))

/-- RETURN from an outage (R59, R121, R146, R167, R168, R183, R186): once the qualification has run with retention valid, the state is
RUN, the ports sample their addresses, the POWER record, without the OUTAGE flag, comes before every restore record, and those carry
it (`RestoreRecords`: TALLY_STOP, CHATTER RELEASED and HANDOVER among them), every tally is restored by the table
of R121, the points are restored, every port compares its alarm, the duty unit makes one check at the restore instant, and the clock, the discipline, the trip
unit and the book are as the outage left them. Before the qualification has run RETURN changes nothing (log entry 6). -/
def Obligations.ReturnRestoresTheBlocks : Prop :=
  ∀ (pins : AddressPins) (high : Bool) (s : State) (e : Nat), s.running = false → s.supply.qualification = some e →
    (s.elapsed < e → exec (.returnOfSupply pins high) s = .next s) ∧
    (e ≤ s.elapsed → s.supply.retentionValid = true → s.trip.burst = none →
      ∃ t, exec (.returnOfSupply pins high) s = .next t ∧
        t = { s with
          supply := { s.supply with
            state := .run, qualification := none, resetArmed := high, resetHigh := high
            resetHighAt := if high then s.elapsed else s.supply.resetHighAt, addressPins := pins }
          points := t.points, tally := t.tally, queue := t.queue, duty := t.duty, ports := t.ports } ∧
        (∀ q, t.port q = { s.port q with
          address := if pinOf pins q then 0x53 else 0x52, pending := (t.port q).pending, line := (t.port q).line }) ∧
        RestoreRecords s (t.duty.state ≠ s.duty.state ∧ t.duty.state = .vacant)
          (fun i => (s.entry i).config.holds s.presentInputs = false)
          (s.queue.report s.now s.time.quality 0 false
            (.power .outage (some (s.supply.outageStart.getD ⟨0, 0, 0⟩)) s.supply.qualityAtStart s.time.quality))
          t.queue ∧
        t.tally.paused = false ∧ TalliesKeepSettings s t ∧ AlarmsCompared t ∧
        t.duty = (dutyCheck true { s with supply := t.supply }).duty ∧
        (t.duty.state = s.duty.state ∨ t.duty.state ≠ .vacant → t.tally.inputs = s.presentInputs ∧
          ∀ i, t.entry i = (s.entry i).restored ((s.entry i).config.holds s.presentInputs)) ∧
        (t.duty.state ≠ s.duty.state → t.duty.state = .vacant → t.tally.inputs = putBit s.presentInputs 34 false) ∧
        ∀ n, (s.point n).debouncing = none → t.point n =
          if (s.point n).entry.mode = .off then s.point n
          else { s.point n with
            chatter := .clear
            debouncing :=
              if s.lineActive n = (s.point n).active then none
              else some ⟨s.now, s.elapsed + (s.point n).entry.debounce * 4096000000000, true⟩ })

/-- A warm restart by RESET_ASSERTION, with recognition armed and the line low for 100 µs, or by RESTART from port A (R120, R121, R146,
R177, R185, R186): the closing actions and the return at one tick, with the POWER record of its cause after the records of the
closing actions, of which an open PROVISIONAL burst gives FIRST_OUT first; the tallies closed and restored, the points taken up
again at their lines, FIRST_OUT and QUALITY not pending at any port, nor HANDOVER where the check finds nothing due, the alarms
compared, the duty unit checked once at the restart's instant (R58, R59, R159, R167). The records of the restore actions carry the
OUTAGE flag and POWER does not (`RestoreRecords`). A boundary of the tick that waits is taken first (log entry 5). RESTART leaves
OK with length 0 at port A alone. RESTART from another port is refused, and an assertion that is not recognised changes nothing:
from where the 100 µs are counted is log entry 22. -/
def Obligations.WarmRestartClosesAndRestoresAtOneTick : Prop :=
  ∀ (pins : AddressPins) (order : ClosingOrder) (p : Port) (s u : State), s.running = true → takeBoundary s = u →
    (p ≠ .a → exec (.restart p [0] pins order) s = .next (s.refusedAt p 0x4F .denied 0)) ∧
    (s.supply.resetArmed = false ∨ s.elapsed < s.supply.resetHighAt + 1000000000 + 100 * 4096000000 →
      exec (.resetAssertion pins order) s = .next s) ∧
    ∀ (c : Instr) (cause : PowerCause) (armed high : Bool),
      (c = .restart .a [0] pins order ∧ cause = .restartRequest ∧ armed = s.supply.resetArmed ∧ high = s.supply.resetHigh) ∨
        (c = .resetAssertion pins order ∧ s.supply.resetArmed = true ∧
          s.supply.resetHighAt + 1000000000 + 100 * 4096000000 ≤ s.elapsed ∧ cause = .resetLine ∧ armed = false ∧ high = false) →
      ∃ t, exec c s = .next t ∧
        t = { u with
          supply := { u.supply with
            qualification := none, outageStart := some u.now, qualityAtStart := u.time.quality
            resetArmed := armed, resetHigh := high, addressPins := pins, restartAt := some u.elapsed }
          time := { u.time with staged := none }
          points := t.points
          trip := { u.trip with
            burst := none
            latch := if u.trip.burst.isSome ∧ u.trip.latch = .provisional then .final else u.trip.latch }
          tally := t.tally, queue := t.queue, duty := t.duty, ports := t.ports } ∧
        (∀ q, t.port q = { u.port q with
          frame := none, refusal := none
          response := if c = .restart .a [0] pins order ∧ q = .a then .ok [] else .none
          address := if pinOf pins q then 0x53 else 0x52, pending := (t.port q).pending, line := (t.port q).line }) ∧
        TalliesKeepSettings u t ∧ t.tally.paused = false ∧ AlarmsCompared t ∧
        (∀ q, (t.port q).pending.has .firstOut = false ∧ (t.port q).pending.has .quality = false) ∧
        (NothingFallsDue u → ∀ q, (t.port q).pending.has .handover = false) ∧
        t.duty = (dutyCheck true { u with supply := t.supply }).duty ∧
        (let inputs := putBit u.presentInputs 35 false
        (t.duty.state = u.duty.state ∨ t.duty.state ≠ .vacant → t.tally.inputs = inputs ∧
          (u.trip.burst = none ∨ order = .tallyFirst →
            ∀ i, t.entry i = (u.entry i).closed.restored ((u.entry i).config.holds inputs))) ∧
        (t.duty.state ≠ u.duty.state → t.duty.state = .vacant → t.tally.inputs = putBit inputs 34 false)) ∧
        (let power := fun q : EventQueue =>
          RestoreRecords u (t.duty.state ≠ u.duty.state ∧ t.duty.state = .vacant)
            (fun i => (u.trip.burst = none ∨ order = .tallyFirst) ∧
              (u.entry i).config.holds (putBit u.presentInputs 35 false) = false)
            (q.report u.now u.time.quality 0 false (.power cause (some u.now) u.time.quality u.time.quality)) t.queue
        (u.trip.burst = none → power u.queue) ∧
        (∃ closed : EventQueue, u.queue.Reports closed ∧ power closed) ∧
        ∀ b first more, u.trip.burst = some b → u.trip.latch = .provisional → u.trip.ranked = first :: more →
          ∃ closed : EventQueue,
            (u.queue.report u.now u.time.quality b.number false
              (.firstOut first.instant u.trip.overflow
                (u.trip.ranked.map fun e => (e.point, rankOffset e.instant first.instant)))).Reports closed ∧
            power closed) ∧
        ∀ n, t.point n =
          if (u.point n).entry.mode = .off then { u.point n with debouncing := none }
          else { u.point n with
            chatter := .clear
            debouncing :=
              if u.lineActive n = (u.point n).active then none
              else some ⟨u.now, u.elapsed + (u.point n).entry.debounce * 4096000000000, true⟩ }
end

