-- ==== Sys2Proof/Laws/State.lean ====
section
/-!
SUPPORT. The small lemmas of the state: one for each field under each update, true by `rfl`; reading a port, a point or a tally
after one is replaced; and induction over the ports, the points and the tallies.
-/

namespace Sys2Proof.Machine

variable (s : State)

/-! ### withTime -/

@[simp] theorem State.withTime_time (x : TimeBase) : (s.withTime x).time = x := rfl
@[simp] theorem State.withTime_elapsed (x : TimeBase) : (s.withTime x).elapsed = s.elapsed := rfl
@[simp] theorem State.withTime_boundaryAt (x : TimeBase) : (s.withTime x).boundaryAt = s.boundaryAt := rfl
@[simp] theorem State.withTime_boundaryWaits (x : TimeBase) : (s.withTime x).boundaryWaits = s.boundaryWaits := rfl
@[simp] theorem State.withTime_discipline (x : TimeBase) : (s.withTime x).discipline = s.discipline := rfl
@[simp] theorem State.withTime_points (x : TimeBase) : (s.withTime x).points = s.points := rfl
@[simp] theorem State.withTime_lines (x : TimeBase) : (s.withTime x).lines = s.lines := rfl
@[simp] theorem State.withTime_trip (x : TimeBase) : (s.withTime x).trip = s.trip := rfl
@[simp] theorem State.withTime_queue (x : TimeBase) : (s.withTime x).queue = s.queue := rfl
@[simp] theorem State.withTime_tally (x : TimeBase) : (s.withTime x).tally = s.tally := rfl
@[simp] theorem State.withTime_duty (x : TimeBase) : (s.withTime x).duty = s.duty := rfl
@[simp] theorem State.withTime_book (x : TimeBase) : (s.withTime x).book = s.book := rfl
@[simp] theorem State.withTime_ports (x : TimeBase) : (s.withTime x).ports = s.ports := rfl
@[simp] theorem State.withTime_supply (x : TimeBase) : (s.withTime x).supply = s.supply := rfl
@[simp] theorem State.withTime_freeIndex (x : TimeBase) : (s.withTime x).freeIndex = s.freeIndex := rfl
@[simp] theorem State.withTime_pending (x : TimeBase) : (s.withTime x).pending = s.pending := rfl

/-! ### withDiscipline -/

@[simp] theorem State.withDiscipline_time (x : Discipline) : (s.withDiscipline x).time = s.time := rfl
@[simp] theorem State.withDiscipline_elapsed (x : Discipline) : (s.withDiscipline x).elapsed = s.elapsed := rfl
@[simp] theorem State.withDiscipline_boundaryAt (x : Discipline) : (s.withDiscipline x).boundaryAt = s.boundaryAt := rfl
@[simp] theorem State.withDiscipline_boundaryWaits (x : Discipline) : (s.withDiscipline x).boundaryWaits = s.boundaryWaits := rfl
@[simp] theorem State.withDiscipline_discipline (x : Discipline) : (s.withDiscipline x).discipline = x := rfl
@[simp] theorem State.withDiscipline_points (x : Discipline) : (s.withDiscipline x).points = s.points := rfl
@[simp] theorem State.withDiscipline_lines (x : Discipline) : (s.withDiscipline x).lines = s.lines := rfl
@[simp] theorem State.withDiscipline_trip (x : Discipline) : (s.withDiscipline x).trip = s.trip := rfl
@[simp] theorem State.withDiscipline_queue (x : Discipline) : (s.withDiscipline x).queue = s.queue := rfl
@[simp] theorem State.withDiscipline_tally (x : Discipline) : (s.withDiscipline x).tally = s.tally := rfl
@[simp] theorem State.withDiscipline_duty (x : Discipline) : (s.withDiscipline x).duty = s.duty := rfl
@[simp] theorem State.withDiscipline_book (x : Discipline) : (s.withDiscipline x).book = s.book := rfl
@[simp] theorem State.withDiscipline_ports (x : Discipline) : (s.withDiscipline x).ports = s.ports := rfl
@[simp] theorem State.withDiscipline_supply (x : Discipline) : (s.withDiscipline x).supply = s.supply := rfl
@[simp] theorem State.withDiscipline_freeIndex (x : Discipline) : (s.withDiscipline x).freeIndex = s.freeIndex := rfl
@[simp] theorem State.withDiscipline_pending (x : Discipline) : (s.withDiscipline x).pending = s.pending := rfl

/-! ### withTrip -/

@[simp] theorem State.withTrip_time (x : TripUnit) : (s.withTrip x).time = s.time := rfl
@[simp] theorem State.withTrip_elapsed (x : TripUnit) : (s.withTrip x).elapsed = s.elapsed := rfl
@[simp] theorem State.withTrip_boundaryAt (x : TripUnit) : (s.withTrip x).boundaryAt = s.boundaryAt := rfl
@[simp] theorem State.withTrip_boundaryWaits (x : TripUnit) : (s.withTrip x).boundaryWaits = s.boundaryWaits := rfl
@[simp] theorem State.withTrip_discipline (x : TripUnit) : (s.withTrip x).discipline = s.discipline := rfl
@[simp] theorem State.withTrip_points (x : TripUnit) : (s.withTrip x).points = s.points := rfl
@[simp] theorem State.withTrip_lines (x : TripUnit) : (s.withTrip x).lines = s.lines := rfl
@[simp] theorem State.withTrip_trip (x : TripUnit) : (s.withTrip x).trip = x := rfl
@[simp] theorem State.withTrip_queue (x : TripUnit) : (s.withTrip x).queue = s.queue := rfl
@[simp] theorem State.withTrip_tally (x : TripUnit) : (s.withTrip x).tally = s.tally := rfl
@[simp] theorem State.withTrip_duty (x : TripUnit) : (s.withTrip x).duty = s.duty := rfl
@[simp] theorem State.withTrip_book (x : TripUnit) : (s.withTrip x).book = s.book := rfl
@[simp] theorem State.withTrip_ports (x : TripUnit) : (s.withTrip x).ports = s.ports := rfl
@[simp] theorem State.withTrip_supply (x : TripUnit) : (s.withTrip x).supply = s.supply := rfl
@[simp] theorem State.withTrip_freeIndex (x : TripUnit) : (s.withTrip x).freeIndex = s.freeIndex := rfl
@[simp] theorem State.withTrip_pending (x : TripUnit) : (s.withTrip x).pending = s.pending := rfl

/-! ### withQueue -/

@[simp] theorem State.withQueue_time (x : EventQueue) : (s.withQueue x).time = s.time := rfl
@[simp] theorem State.withQueue_elapsed (x : EventQueue) : (s.withQueue x).elapsed = s.elapsed := rfl
@[simp] theorem State.withQueue_boundaryAt (x : EventQueue) : (s.withQueue x).boundaryAt = s.boundaryAt := rfl
@[simp] theorem State.withQueue_boundaryWaits (x : EventQueue) : (s.withQueue x).boundaryWaits = s.boundaryWaits := rfl
@[simp] theorem State.withQueue_discipline (x : EventQueue) : (s.withQueue x).discipline = s.discipline := rfl
@[simp] theorem State.withQueue_points (x : EventQueue) : (s.withQueue x).points = s.points := rfl
@[simp] theorem State.withQueue_lines (x : EventQueue) : (s.withQueue x).lines = s.lines := rfl
@[simp] theorem State.withQueue_trip (x : EventQueue) : (s.withQueue x).trip = s.trip := rfl
@[simp] theorem State.withQueue_queue (x : EventQueue) : (s.withQueue x).queue = x := rfl
@[simp] theorem State.withQueue_tally (x : EventQueue) : (s.withQueue x).tally = s.tally := rfl
@[simp] theorem State.withQueue_duty (x : EventQueue) : (s.withQueue x).duty = s.duty := rfl
@[simp] theorem State.withQueue_book (x : EventQueue) : (s.withQueue x).book = s.book := rfl
@[simp] theorem State.withQueue_ports (x : EventQueue) : (s.withQueue x).ports = s.ports := rfl
@[simp] theorem State.withQueue_supply (x : EventQueue) : (s.withQueue x).supply = s.supply := rfl
@[simp] theorem State.withQueue_freeIndex (x : EventQueue) : (s.withQueue x).freeIndex = s.freeIndex := rfl
@[simp] theorem State.withQueue_pending (x : EventQueue) : (s.withQueue x).pending = s.pending := rfl

/-! ### withTally -/

@[simp] theorem State.withTally_time (x : TallyUnit) : (s.withTally x).time = s.time := rfl
@[simp] theorem State.withTally_elapsed (x : TallyUnit) : (s.withTally x).elapsed = s.elapsed := rfl
@[simp] theorem State.withTally_boundaryAt (x : TallyUnit) : (s.withTally x).boundaryAt = s.boundaryAt := rfl
@[simp] theorem State.withTally_boundaryWaits (x : TallyUnit) : (s.withTally x).boundaryWaits = s.boundaryWaits := rfl
@[simp] theorem State.withTally_discipline (x : TallyUnit) : (s.withTally x).discipline = s.discipline := rfl
@[simp] theorem State.withTally_points (x : TallyUnit) : (s.withTally x).points = s.points := rfl
@[simp] theorem State.withTally_lines (x : TallyUnit) : (s.withTally x).lines = s.lines := rfl
@[simp] theorem State.withTally_trip (x : TallyUnit) : (s.withTally x).trip = s.trip := rfl
@[simp] theorem State.withTally_queue (x : TallyUnit) : (s.withTally x).queue = s.queue := rfl
@[simp] theorem State.withTally_tally (x : TallyUnit) : (s.withTally x).tally = x := rfl
@[simp] theorem State.withTally_duty (x : TallyUnit) : (s.withTally x).duty = s.duty := rfl
@[simp] theorem State.withTally_book (x : TallyUnit) : (s.withTally x).book = s.book := rfl
@[simp] theorem State.withTally_ports (x : TallyUnit) : (s.withTally x).ports = s.ports := rfl
@[simp] theorem State.withTally_supply (x : TallyUnit) : (s.withTally x).supply = s.supply := rfl
@[simp] theorem State.withTally_freeIndex (x : TallyUnit) : (s.withTally x).freeIndex = s.freeIndex := rfl
@[simp] theorem State.withTally_pending (x : TallyUnit) : (s.withTally x).pending = s.pending := rfl

/-! ### withDuty -/

@[simp] theorem State.withDuty_time (x : DutyUnit) : (s.withDuty x).time = s.time := rfl
@[simp] theorem State.withDuty_elapsed (x : DutyUnit) : (s.withDuty x).elapsed = s.elapsed := rfl
@[simp] theorem State.withDuty_boundaryAt (x : DutyUnit) : (s.withDuty x).boundaryAt = s.boundaryAt := rfl
@[simp] theorem State.withDuty_boundaryWaits (x : DutyUnit) : (s.withDuty x).boundaryWaits = s.boundaryWaits := rfl
@[simp] theorem State.withDuty_discipline (x : DutyUnit) : (s.withDuty x).discipline = s.discipline := rfl
@[simp] theorem State.withDuty_points (x : DutyUnit) : (s.withDuty x).points = s.points := rfl
@[simp] theorem State.withDuty_lines (x : DutyUnit) : (s.withDuty x).lines = s.lines := rfl
@[simp] theorem State.withDuty_trip (x : DutyUnit) : (s.withDuty x).trip = s.trip := rfl
@[simp] theorem State.withDuty_queue (x : DutyUnit) : (s.withDuty x).queue = s.queue := rfl
@[simp] theorem State.withDuty_tally (x : DutyUnit) : (s.withDuty x).tally = s.tally := rfl
@[simp] theorem State.withDuty_duty (x : DutyUnit) : (s.withDuty x).duty = x := rfl
@[simp] theorem State.withDuty_book (x : DutyUnit) : (s.withDuty x).book = s.book := rfl
@[simp] theorem State.withDuty_ports (x : DutyUnit) : (s.withDuty x).ports = s.ports := rfl
@[simp] theorem State.withDuty_supply (x : DutyUnit) : (s.withDuty x).supply = s.supply := rfl
@[simp] theorem State.withDuty_freeIndex (x : DutyUnit) : (s.withDuty x).freeIndex = s.freeIndex := rfl
@[simp] theorem State.withDuty_pending (x : DutyUnit) : (s.withDuty x).pending = s.pending := rfl

/-! ### withBook -/

@[simp] theorem State.withBook_time (x : ShiftBook) : (s.withBook x).time = s.time := rfl
@[simp] theorem State.withBook_elapsed (x : ShiftBook) : (s.withBook x).elapsed = s.elapsed := rfl
@[simp] theorem State.withBook_boundaryAt (x : ShiftBook) : (s.withBook x).boundaryAt = s.boundaryAt := rfl
@[simp] theorem State.withBook_boundaryWaits (x : ShiftBook) : (s.withBook x).boundaryWaits = s.boundaryWaits := rfl
@[simp] theorem State.withBook_discipline (x : ShiftBook) : (s.withBook x).discipline = s.discipline := rfl
@[simp] theorem State.withBook_points (x : ShiftBook) : (s.withBook x).points = s.points := rfl
@[simp] theorem State.withBook_lines (x : ShiftBook) : (s.withBook x).lines = s.lines := rfl
@[simp] theorem State.withBook_trip (x : ShiftBook) : (s.withBook x).trip = s.trip := rfl
@[simp] theorem State.withBook_queue (x : ShiftBook) : (s.withBook x).queue = s.queue := rfl
@[simp] theorem State.withBook_tally (x : ShiftBook) : (s.withBook x).tally = s.tally := rfl
@[simp] theorem State.withBook_duty (x : ShiftBook) : (s.withBook x).duty = s.duty := rfl
@[simp] theorem State.withBook_book (x : ShiftBook) : (s.withBook x).book = x := rfl
@[simp] theorem State.withBook_ports (x : ShiftBook) : (s.withBook x).ports = s.ports := rfl
@[simp] theorem State.withBook_supply (x : ShiftBook) : (s.withBook x).supply = s.supply := rfl
@[simp] theorem State.withBook_freeIndex (x : ShiftBook) : (s.withBook x).freeIndex = s.freeIndex := rfl
@[simp] theorem State.withBook_pending (x : ShiftBook) : (s.withBook x).pending = s.pending := rfl

/-! ### withSupply -/

@[simp] theorem State.withSupply_time (x : SupplyMonitor) : (s.withSupply x).time = s.time := rfl
@[simp] theorem State.withSupply_elapsed (x : SupplyMonitor) : (s.withSupply x).elapsed = s.elapsed := rfl
@[simp] theorem State.withSupply_boundaryAt (x : SupplyMonitor) : (s.withSupply x).boundaryAt = s.boundaryAt := rfl
@[simp] theorem State.withSupply_boundaryWaits (x : SupplyMonitor) : (s.withSupply x).boundaryWaits = s.boundaryWaits := rfl
@[simp] theorem State.withSupply_discipline (x : SupplyMonitor) : (s.withSupply x).discipline = s.discipline := rfl
@[simp] theorem State.withSupply_points (x : SupplyMonitor) : (s.withSupply x).points = s.points := rfl
@[simp] theorem State.withSupply_lines (x : SupplyMonitor) : (s.withSupply x).lines = s.lines := rfl
@[simp] theorem State.withSupply_trip (x : SupplyMonitor) : (s.withSupply x).trip = s.trip := rfl
@[simp] theorem State.withSupply_queue (x : SupplyMonitor) : (s.withSupply x).queue = s.queue := rfl
@[simp] theorem State.withSupply_tally (x : SupplyMonitor) : (s.withSupply x).tally = s.tally := rfl
@[simp] theorem State.withSupply_duty (x : SupplyMonitor) : (s.withSupply x).duty = s.duty := rfl
@[simp] theorem State.withSupply_book (x : SupplyMonitor) : (s.withSupply x).book = s.book := rfl
@[simp] theorem State.withSupply_ports (x : SupplyMonitor) : (s.withSupply x).ports = s.ports := rfl
@[simp] theorem State.withSupply_supply (x : SupplyMonitor) : (s.withSupply x).supply = x := rfl
@[simp] theorem State.withSupply_freeIndex (x : SupplyMonitor) : (s.withSupply x).freeIndex = s.freeIndex := rfl
@[simp] theorem State.withSupply_pending (x : SupplyMonitor) : (s.withSupply x).pending = s.pending := rfl

/-! ### withPort -/

@[simp] theorem State.withPort_time (p : Port) (u : PortUnit) : (s.withPort p u).time = s.time := rfl
@[simp] theorem State.withPort_elapsed (p : Port) (u : PortUnit) : (s.withPort p u).elapsed = s.elapsed := rfl
@[simp] theorem State.withPort_boundaryAt (p : Port) (u : PortUnit) : (s.withPort p u).boundaryAt = s.boundaryAt := rfl
@[simp] theorem State.withPort_boundaryWaits (p : Port) (u : PortUnit) : (s.withPort p u).boundaryWaits = s.boundaryWaits := rfl
@[simp] theorem State.withPort_discipline (p : Port) (u : PortUnit) : (s.withPort p u).discipline = s.discipline := rfl
@[simp] theorem State.withPort_points (p : Port) (u : PortUnit) : (s.withPort p u).points = s.points := rfl
@[simp] theorem State.withPort_lines (p : Port) (u : PortUnit) : (s.withPort p u).lines = s.lines := rfl
@[simp] theorem State.withPort_trip (p : Port) (u : PortUnit) : (s.withPort p u).trip = s.trip := rfl
@[simp] theorem State.withPort_queue (p : Port) (u : PortUnit) : (s.withPort p u).queue = s.queue := rfl
@[simp] theorem State.withPort_tally (p : Port) (u : PortUnit) : (s.withPort p u).tally = s.tally := rfl
@[simp] theorem State.withPort_duty (p : Port) (u : PortUnit) : (s.withPort p u).duty = s.duty := rfl
@[simp] theorem State.withPort_book (p : Port) (u : PortUnit) : (s.withPort p u).book = s.book := rfl
@[simp] theorem State.withPort_ports (p : Port) (u : PortUnit) : (s.withPort p u).ports = s.ports.set p u := rfl
@[simp] theorem State.withPort_supply (p : Port) (u : PortUnit) : (s.withPort p u).supply = s.supply := rfl
@[simp] theorem State.withPort_freeIndex (p : Port) (u : PortUnit) : (s.withPort p u).freeIndex = s.freeIndex := rfl
@[simp] theorem State.withPort_pending (p : Port) (u : PortUnit) : (s.withPort p u).pending = s.pending := rfl

/-! ### withPoint -/

@[simp] theorem State.withPoint_time (n : Fin 32) (x : Point) : (s.withPoint n x).time = s.time := rfl
@[simp] theorem State.withPoint_elapsed (n : Fin 32) (x : Point) : (s.withPoint n x).elapsed = s.elapsed := rfl
@[simp] theorem State.withPoint_boundaryAt (n : Fin 32) (x : Point) : (s.withPoint n x).boundaryAt = s.boundaryAt := rfl
@[simp] theorem State.withPoint_boundaryWaits (n : Fin 32) (x : Point) : (s.withPoint n x).boundaryWaits = s.boundaryWaits := rfl
@[simp] theorem State.withPoint_discipline (n : Fin 32) (x : Point) : (s.withPoint n x).discipline = s.discipline := rfl
@[simp] theorem State.withPoint_points (n : Fin 32) (x : Point) : (s.withPoint n x).points = s.points.set n.val x n.isLt := rfl
@[simp] theorem State.withPoint_lines (n : Fin 32) (x : Point) : (s.withPoint n x).lines = s.lines := rfl
@[simp] theorem State.withPoint_trip (n : Fin 32) (x : Point) : (s.withPoint n x).trip = s.trip := rfl
@[simp] theorem State.withPoint_queue (n : Fin 32) (x : Point) : (s.withPoint n x).queue = s.queue := rfl
@[simp] theorem State.withPoint_tally (n : Fin 32) (x : Point) : (s.withPoint n x).tally = s.tally := rfl
@[simp] theorem State.withPoint_duty (n : Fin 32) (x : Point) : (s.withPoint n x).duty = s.duty := rfl
@[simp] theorem State.withPoint_book (n : Fin 32) (x : Point) : (s.withPoint n x).book = s.book := rfl
@[simp] theorem State.withPoint_ports (n : Fin 32) (x : Point) : (s.withPoint n x).ports = s.ports := rfl
@[simp] theorem State.withPoint_supply (n : Fin 32) (x : Point) : (s.withPoint n x).supply = s.supply := rfl
@[simp] theorem State.withPoint_freeIndex (n : Fin 32) (x : Point) : (s.withPoint n x).freeIndex = s.freeIndex := rfl
@[simp] theorem State.withPoint_pending (n : Fin 32) (x : Point) : (s.withPoint n x).pending = s.pending := rfl

/-! ### withEntry -/

@[simp] theorem State.withEntry_time (i : Fin 12) (x : Tally) : (s.withEntry i x).time = s.time := rfl
@[simp] theorem State.withEntry_elapsed (i : Fin 12) (x : Tally) : (s.withEntry i x).elapsed = s.elapsed := rfl
@[simp] theorem State.withEntry_boundaryAt (i : Fin 12) (x : Tally) : (s.withEntry i x).boundaryAt = s.boundaryAt := rfl
@[simp] theorem State.withEntry_boundaryWaits (i : Fin 12) (x : Tally) : (s.withEntry i x).boundaryWaits = s.boundaryWaits := rfl
@[simp] theorem State.withEntry_discipline (i : Fin 12) (x : Tally) : (s.withEntry i x).discipline = s.discipline := rfl
@[simp] theorem State.withEntry_points (i : Fin 12) (x : Tally) : (s.withEntry i x).points = s.points := rfl
@[simp] theorem State.withEntry_lines (i : Fin 12) (x : Tally) : (s.withEntry i x).lines = s.lines := rfl
@[simp] theorem State.withEntry_trip (i : Fin 12) (x : Tally) : (s.withEntry i x).trip = s.trip := rfl
@[simp] theorem State.withEntry_queue (i : Fin 12) (x : Tally) : (s.withEntry i x).queue = s.queue := rfl
@[simp] theorem State.withEntry_tally (i : Fin 12) (x : Tally) : (s.withEntry i x).tally = { s.tally with entries := s.tally.entries.set i.val x i.isLt } := rfl
@[simp] theorem State.withEntry_duty (i : Fin 12) (x : Tally) : (s.withEntry i x).duty = s.duty := rfl
@[simp] theorem State.withEntry_book (i : Fin 12) (x : Tally) : (s.withEntry i x).book = s.book := rfl
@[simp] theorem State.withEntry_ports (i : Fin 12) (x : Tally) : (s.withEntry i x).ports = s.ports := rfl
@[simp] theorem State.withEntry_supply (i : Fin 12) (x : Tally) : (s.withEntry i x).supply = s.supply := rfl
@[simp] theorem State.withEntry_freeIndex (i : Fin 12) (x : Tally) : (s.withEntry i x).freeIndex = s.freeIndex := rfl
@[simp] theorem State.withEntry_pending (i : Fin 12) (x : Tally) : (s.withEntry i x).pending = s.pending := rfl

/-! ### withHandover -/

@[simp] theorem State.withHandover_time (h : HandoverFields) : (s.withHandover h).time = s.time := rfl
@[simp] theorem State.withHandover_elapsed (h : HandoverFields) : (s.withHandover h).elapsed = s.elapsed := rfl
@[simp] theorem State.withHandover_boundaryAt (h : HandoverFields) : (s.withHandover h).boundaryAt = s.boundaryAt := rfl
@[simp] theorem State.withHandover_boundaryWaits (h : HandoverFields) : (s.withHandover h).boundaryWaits = s.boundaryWaits := rfl
@[simp] theorem State.withHandover_discipline (h : HandoverFields) : (s.withHandover h).discipline = s.discipline := rfl
@[simp] theorem State.withHandover_points (h : HandoverFields) : (s.withHandover h).points = s.points := rfl
@[simp] theorem State.withHandover_lines (h : HandoverFields) : (s.withHandover h).lines = s.lines := rfl
@[simp] theorem State.withHandover_trip (h : HandoverFields) : (s.withHandover h).trip = s.trip := rfl
@[simp] theorem State.withHandover_queue (h : HandoverFields) : (s.withHandover h).queue = s.queue := rfl
@[simp] theorem State.withHandover_tally (h : HandoverFields) : (s.withHandover h).tally = s.tally := rfl
@[simp] theorem State.withHandover_duty (h : HandoverFields) : (s.withHandover h).duty = { s.duty with handover := h } := rfl
@[simp] theorem State.withHandover_book (h : HandoverFields) : (s.withHandover h).book = s.book := rfl
@[simp] theorem State.withHandover_ports (h : HandoverFields) : (s.withHandover h).ports = s.ports := rfl
@[simp] theorem State.withHandover_supply (h : HandoverFields) : (s.withHandover h).supply = s.supply := rfl
@[simp] theorem State.withHandover_freeIndex (h : HandoverFields) : (s.withHandover h).freeIndex = s.freeIndex := rfl
@[simp] theorem State.withHandover_pending (h : HandoverFields) : (s.withHandover h).pending = s.pending := rfl

/-! ### idleFrame -/

@[simp] theorem State.idleFrame_time (p : Port) : (s.idleFrame p).time = s.time := rfl
@[simp] theorem State.idleFrame_elapsed (p : Port) : (s.idleFrame p).elapsed = s.elapsed := rfl
@[simp] theorem State.idleFrame_boundaryAt (p : Port) : (s.idleFrame p).boundaryAt = s.boundaryAt := rfl
@[simp] theorem State.idleFrame_boundaryWaits (p : Port) : (s.idleFrame p).boundaryWaits = s.boundaryWaits := rfl
@[simp] theorem State.idleFrame_discipline (p : Port) : (s.idleFrame p).discipline = s.discipline := rfl
@[simp] theorem State.idleFrame_points (p : Port) : (s.idleFrame p).points = s.points := rfl
@[simp] theorem State.idleFrame_lines (p : Port) : (s.idleFrame p).lines = s.lines := rfl
@[simp] theorem State.idleFrame_trip (p : Port) : (s.idleFrame p).trip = s.trip := rfl
@[simp] theorem State.idleFrame_queue (p : Port) : (s.idleFrame p).queue = s.queue := rfl
@[simp] theorem State.idleFrame_tally (p : Port) : (s.idleFrame p).tally = s.tally := rfl
@[simp] theorem State.idleFrame_duty (p : Port) : (s.idleFrame p).duty = s.duty := rfl
@[simp] theorem State.idleFrame_book (p : Port) : (s.idleFrame p).book = s.book := rfl
@[simp] theorem State.idleFrame_ports (p : Port) : (s.idleFrame p).ports = s.ports.set p { s.port p with frame := none } := rfl
@[simp] theorem State.idleFrame_supply (p : Port) : (s.idleFrame p).supply = s.supply := rfl
@[simp] theorem State.idleFrame_freeIndex (p : Port) : (s.idleFrame p).freeIndex = s.freeIndex := rfl
@[simp] theorem State.idleFrame_pending (p : Port) : (s.idleFrame p).pending = s.pending := rfl

/-! ### respond -/

@[simp] theorem State.respond_time (p : Port) (r : Response) : (s.respond p r).time = s.time := rfl
@[simp] theorem State.respond_elapsed (p : Port) (r : Response) : (s.respond p r).elapsed = s.elapsed := rfl
@[simp] theorem State.respond_boundaryAt (p : Port) (r : Response) : (s.respond p r).boundaryAt = s.boundaryAt := rfl
@[simp] theorem State.respond_boundaryWaits (p : Port) (r : Response) : (s.respond p r).boundaryWaits = s.boundaryWaits := rfl
@[simp] theorem State.respond_discipline (p : Port) (r : Response) : (s.respond p r).discipline = s.discipline := rfl
@[simp] theorem State.respond_points (p : Port) (r : Response) : (s.respond p r).points = s.points := rfl
@[simp] theorem State.respond_lines (p : Port) (r : Response) : (s.respond p r).lines = s.lines := rfl
@[simp] theorem State.respond_trip (p : Port) (r : Response) : (s.respond p r).trip = s.trip := rfl
@[simp] theorem State.respond_queue (p : Port) (r : Response) : (s.respond p r).queue = s.queue := rfl
@[simp] theorem State.respond_tally (p : Port) (r : Response) : (s.respond p r).tally = s.tally := rfl
@[simp] theorem State.respond_duty (p : Port) (r : Response) : (s.respond p r).duty = s.duty := rfl
@[simp] theorem State.respond_book (p : Port) (r : Response) : (s.respond p r).book = s.book := rfl
@[simp] theorem State.respond_ports (p : Port) (r : Response) : (s.respond p r).ports = s.ports.set p { s.port p with response := r } := rfl
@[simp] theorem State.respond_supply (p : Port) (r : Response) : (s.respond p r).supply = s.supply := rfl
@[simp] theorem State.respond_freeIndex (p : Port) (r : Response) : (s.respond p r).freeIndex = s.freeIndex := rfl
@[simp] theorem State.respond_pending (p : Port) (r : Response) : (s.respond p r).pending = s.pending := rfl

/-! ### okAt -/

@[simp] theorem State.okAt_time (p : Port) (r : List Byte) : (s.okAt p r).time = s.time := rfl
@[simp] theorem State.okAt_elapsed (p : Port) (r : List Byte) : (s.okAt p r).elapsed = s.elapsed := rfl
@[simp] theorem State.okAt_boundaryAt (p : Port) (r : List Byte) : (s.okAt p r).boundaryAt = s.boundaryAt := rfl
@[simp] theorem State.okAt_boundaryWaits (p : Port) (r : List Byte) : (s.okAt p r).boundaryWaits = s.boundaryWaits := rfl
@[simp] theorem State.okAt_discipline (p : Port) (r : List Byte) : (s.okAt p r).discipline = s.discipline := rfl
@[simp] theorem State.okAt_points (p : Port) (r : List Byte) : (s.okAt p r).points = s.points := rfl
@[simp] theorem State.okAt_lines (p : Port) (r : List Byte) : (s.okAt p r).lines = s.lines := rfl
@[simp] theorem State.okAt_trip (p : Port) (r : List Byte) : (s.okAt p r).trip = s.trip := rfl
@[simp] theorem State.okAt_queue (p : Port) (r : List Byte) : (s.okAt p r).queue = s.queue := rfl
@[simp] theorem State.okAt_tally (p : Port) (r : List Byte) : (s.okAt p r).tally = s.tally := rfl
@[simp] theorem State.okAt_duty (p : Port) (r : List Byte) : (s.okAt p r).duty = s.duty := rfl
@[simp] theorem State.okAt_book (p : Port) (r : List Byte) : (s.okAt p r).book = s.book := rfl
@[simp] theorem State.okAt_supply (p : Port) (r : List Byte) : (s.okAt p r).supply = s.supply := rfl
@[simp] theorem State.okAt_freeIndex (p : Port) (r : List Byte) : (s.okAt p r).freeIndex = s.freeIndex := rfl
@[simp] theorem State.okAt_pending (p : Port) (r : List Byte) : (s.okAt p r).pending = s.pending := rfl

/-! ### refusedAt -/

@[simp] theorem State.refusedAt_time (p : Port) (q : Byte) (c : RefusalCode) (d : Nat) : (s.refusedAt p q c d).time = s.time := rfl
@[simp] theorem State.refusedAt_elapsed (p : Port) (q : Byte) (c : RefusalCode) (d : Nat) : (s.refusedAt p q c d).elapsed = s.elapsed := rfl
@[simp] theorem State.refusedAt_boundaryAt (p : Port) (q : Byte) (c : RefusalCode) (d : Nat) : (s.refusedAt p q c d).boundaryAt = s.boundaryAt := rfl
@[simp] theorem State.refusedAt_boundaryWaits (p : Port) (q : Byte) (c : RefusalCode) (d : Nat) : (s.refusedAt p q c d).boundaryWaits = s.boundaryWaits := rfl
@[simp] theorem State.refusedAt_discipline (p : Port) (q : Byte) (c : RefusalCode) (d : Nat) : (s.refusedAt p q c d).discipline = s.discipline := rfl
@[simp] theorem State.refusedAt_points (p : Port) (q : Byte) (c : RefusalCode) (d : Nat) : (s.refusedAt p q c d).points = s.points := rfl
@[simp] theorem State.refusedAt_lines (p : Port) (q : Byte) (c : RefusalCode) (d : Nat) : (s.refusedAt p q c d).lines = s.lines := rfl
@[simp] theorem State.refusedAt_trip (p : Port) (q : Byte) (c : RefusalCode) (d : Nat) : (s.refusedAt p q c d).trip = s.trip := rfl
@[simp] theorem State.refusedAt_queue (p : Port) (q : Byte) (c : RefusalCode) (d : Nat) : (s.refusedAt p q c d).queue = s.queue := rfl
@[simp] theorem State.refusedAt_tally (p : Port) (q : Byte) (c : RefusalCode) (d : Nat) : (s.refusedAt p q c d).tally = s.tally := rfl
@[simp] theorem State.refusedAt_duty (p : Port) (q : Byte) (c : RefusalCode) (d : Nat) : (s.refusedAt p q c d).duty = s.duty := rfl
@[simp] theorem State.refusedAt_book (p : Port) (q : Byte) (c : RefusalCode) (d : Nat) : (s.refusedAt p q c d).book = s.book := rfl
@[simp] theorem State.refusedAt_supply (p : Port) (q : Byte) (c : RefusalCode) (d : Nat) : (s.refusedAt p q c d).supply = s.supply := rfl
@[simp] theorem State.refusedAt_freeIndex (p : Port) (q : Byte) (c : RefusalCode) (d : Nat) : (s.refusedAt p q c d).freeIndex = s.freeIndex := rfl
@[simp] theorem State.refusedAt_pending (p : Port) (q : Byte) (c : RefusalCode) (d : Nat) : (s.refusedAt p q c d).pending = s.pending := rfl

/-! ### refuse -/

@[simp] theorem State.refuse_time (p : Port) (q : Byte) (c : RefusalCode) (d : Nat) : (s.refuse p q c d).time = s.time := rfl
@[simp] theorem State.refuse_elapsed (p : Port) (q : Byte) (c : RefusalCode) (d : Nat) : (s.refuse p q c d).elapsed = s.elapsed := rfl
@[simp] theorem State.refuse_boundaryAt (p : Port) (q : Byte) (c : RefusalCode) (d : Nat) : (s.refuse p q c d).boundaryAt = s.boundaryAt := rfl
@[simp] theorem State.refuse_boundaryWaits (p : Port) (q : Byte) (c : RefusalCode) (d : Nat) : (s.refuse p q c d).boundaryWaits = s.boundaryWaits := rfl
@[simp] theorem State.refuse_discipline (p : Port) (q : Byte) (c : RefusalCode) (d : Nat) : (s.refuse p q c d).discipline = s.discipline := rfl
@[simp] theorem State.refuse_points (p : Port) (q : Byte) (c : RefusalCode) (d : Nat) : (s.refuse p q c d).points = s.points := rfl
@[simp] theorem State.refuse_lines (p : Port) (q : Byte) (c : RefusalCode) (d : Nat) : (s.refuse p q c d).lines = s.lines := rfl
@[simp] theorem State.refuse_trip (p : Port) (q : Byte) (c : RefusalCode) (d : Nat) : (s.refuse p q c d).trip = s.trip := rfl
@[simp] theorem State.refuse_queue (p : Port) (q : Byte) (c : RefusalCode) (d : Nat) : (s.refuse p q c d).queue = s.queue := rfl
@[simp] theorem State.refuse_tally (p : Port) (q : Byte) (c : RefusalCode) (d : Nat) : (s.refuse p q c d).tally = s.tally := rfl
@[simp] theorem State.refuse_duty (p : Port) (q : Byte) (c : RefusalCode) (d : Nat) : (s.refuse p q c d).duty = s.duty := rfl
@[simp] theorem State.refuse_book (p : Port) (q : Byte) (c : RefusalCode) (d : Nat) : (s.refuse p q c d).book = s.book := rfl
@[simp] theorem State.refuse_supply (p : Port) (q : Byte) (c : RefusalCode) (d : Nat) : (s.refuse p q c d).supply = s.supply := rfl
@[simp] theorem State.refuse_freeIndex (p : Port) (q : Byte) (c : RefusalCode) (d : Nat) : (s.refuse p q c d).freeIndex = s.freeIndex := rfl
@[simp] theorem State.refuse_pending (p : Port) (q : Byte) (c : RefusalCode) (d : Nat) : (s.refuse p q c d).pending = s.pending := rfl

/-! ### One value for each port -/

@[simp] theorem PerPort.get_set_self {α : Type} (v : PerPort α) (p : Port) (x : α) : (v.set p x).get p = x := by
  cases p <;> rfl

theorem PerPort.get_set_other {α : Type} (v : PerPort α) {p q : Port} (x : α) (h : q ≠ p) :
    (v.set p x).get q = v.get q := by
  cases p <;> cases q <;> first | rfl | exact absurd rfl h

theorem PerPort.ext_get {α : Type} {v w : PerPort α} (h : ∀ p, v.get p = w.get p) : v = w := by
  have a := h .a
  have b := h .b
  have c := h .c
  cases v; cases w
  simp_all [PerPort.get]

@[simp] theorem PerPort.set_get {α : Type} (v : PerPort α) (p : Port) : v.set p (v.get p) = v := by
  cases p <;> rfl

@[simp] theorem PerPort.set_set {α : Type} (v : PerPort α) (p : Port) (x y : α) : (v.set p x).set p y = v.set p y := by
  cases p <;> rfl

@[simp] theorem PerPort.get_const {α : Type} (x : α) (p : Port) : (PerPort.const x).get p = x := by
  cases p <;> rfl

/-! ### Reading a port, a point, a tally -/

@[simp] theorem State.port_withPort_self (p : Port) (u : PortUnit) : (s.withPort p u).port p = u := by
  simp [State.port]

theorem State.port_withPort_other {p q : Port} (u : PortUnit) (h : q ≠ p) : (s.withPort p u).port q = s.port q := by
  simp [State.port, PerPort.get_set_other _ _ h]

@[simp] theorem State.withPort_withPort (p : Port) (u v : PortUnit) : (s.withPort p u).withPort p v = s.withPort p v := by
  simp [State.withPort]

@[simp] theorem State.withPort_port (p : Port) : s.withPort p (s.port p) = s := by
  simp [State.withPort, State.port]

@[simp] theorem State.point_withPoint_self (n : Fin 32) (x : Point) : (s.withPoint n x).point n = x := by
  simp [State.point]

theorem State.point_withPoint_other {n m : Fin 32} (x : Point) (h : m ≠ n) : (s.withPoint n x).point m = s.point m := by
  have : n.val ≠ m.val := fun e => h (Fin.ext e.symm)
  simp [State.point, this]

@[simp] theorem State.withPoint_withPoint (n : Fin 32) (x y : Point) :
    (s.withPoint n x).withPoint n y = s.withPoint n y := by
  simp [State.withPoint]

@[simp] theorem State.withPoint_point (n : Fin 32) : s.withPoint n (s.point n) = s := by
  simp [State.withPoint, State.point]

@[simp] theorem State.entry_withEntry_self (i : Fin 12) (x : Tally) : (s.withEntry i x).entry i = x := by
  simp [State.entry]

theorem State.entry_withEntry_other {i j : Fin 12} (x : Tally) (h : j ≠ i) : (s.withEntry i x).entry j = s.entry j := by
  have : i.val ≠ j.val := fun e => h (Fin.ext e.symm)
  simp [State.entry, this]

@[simp] theorem State.withEntry_withEntry (i : Fin 12) (x y : Tally) :
    (s.withEntry i x).withEntry i y = s.withEntry i y := by
  simp [State.withEntry, State.withTally]

@[simp] theorem State.withEntry_entry (i : Fin 12) : s.withEntry i (s.entry i) = s := by
  simp [State.withEntry, State.withTally, State.entry]

/-! ### Induction over ports, points and tallies -/

/-- What each action at a port keeps, the action at all ports keeps. -/
theorem atAllPorts_keeps {P : State → Prop} {f : Port → State → State} (h : ∀ p s, P s → P (f p s)) {s : State}
    (hs : P s) : P (atAllPorts f s) :=
  h _ _ (h _ _ (h _ _ hs))

theorem foldl_keeps {α : Type} {P : State → Prop} {f : α → State → State} (h : ∀ n s, P s → P (f n s)) (l : List α)
    {s : State} (hs : P s) : P (l.foldl (fun s n => f n s) s) := by
  induction l generalizing s with
  | nil => exact hs
  | cons n l ih => exact ih (h n s hs)

/-- What each action at a point keeps, the action at all points keeps. -/
theorem atAllPoints_keeps {P : State → Prop} {f : Fin 32 → State → State} (h : ∀ n s, P s → P (f n s)) {s : State}
    (hs : P s) : P (atAllPoints f s) :=
  foldl_keeps h _ hs

/-- What each action at a tally keeps, the action at all tallies keeps. -/
theorem atAllTallies_keeps {P : State → Prop} {f : Fin 12 → State → State} (h : ∀ i s, P s → P (f i s)) {s : State}
    (hs : P s) : P (atAllTallies f s) :=
  foldl_keeps h _ hs

end Sys2Proof.Machine
end

