-- ==== Sys2Proof/Laws/Notices.lean ====
section
/-!
SUPPORT. What the shared operations on notices, requests and records can do, said once: raising a notice, taking a request,
producing a record.
-/

namespace Sys2Proof.Machine

/-! ### Notice sets -/

/-- A bit that is set to a value has that value. -/
theorem getLsbD_putBit_self {w : Nat} (b : BitVec w) (k : Nat) (v : Bool) (hk : k < w) :
    (putBit b k v).getLsbD k = v := by
  cases v <;> simp [putBit, hk]

/-- Setting a bit leaves every other bit. -/
theorem getLsbD_putBit_other {w : Nat} (b : BitVec w) {k j : Nat} (v : Bool) (h : j ≠ k) :
    (putBit b k v).getLsbD j = b.getLsbD j := by
  by_cases hj : j < w
  · cases v <;> simp [putBit, h, hj]
  · simp [BitVec.getLsbD_of_ge _ _ (Nat.le_of_not_lt hj)]

theorem Notice.bit_lt (n : Notice) : n.bit < 7 := by cases n <;> decide

theorem Notice.bit_injective {m n : Notice} (h : m.bit = n.bit) : m = n := by
  cases m <;> cases n <;> first | rfl | exact absurd h (by decide)

@[simp] theorem NoticeSet.has_putBit_self (v : NoticeSet) (n : Notice) (on : Bool) :
    NoticeSet.has (putBit v n.bit on) n = on :=
  getLsbD_putBit_self _ _ _ n.bit_lt

theorem NoticeSet.has_putBit_other (v : NoticeSet) {m n : Notice} (on : Bool) (h : m ≠ n) :
    NoticeSet.has (putBit v n.bit on) m = NoticeSet.has v m :=
  getLsbD_putBit_other _ _ fun e => h (Notice.bit_injective e)

/-! ### What a notice operation at a port unit leaves -/

/-- The port unit after a notice is set: nothing but the pending set and the line differs, that notice has its value, and the
others are as they were. -/
theorem PortUnit.setNotice_spec (u : PortUnit) (e : Nat) (n : Notice) (on : Bool) :
    u.setNotice e n on = { u with pending := (u.setNotice e n on).pending, line := (u.setNotice e n on).line } ∧
      (u.setNotice e n on).pending.has n = on ∧
      ∀ m, m ≠ n → (u.setNotice e n on).pending.has m = u.pending.has m := by
  unfold PortUnit.setNotice
  split
  · exact ⟨rfl, ‹_›, fun _ _ => rfl⟩
  · exact ⟨rfl, NoticeSet.has_putBit_self _ _ _, fun m hm => NoticeSet.has_putBit_other _ _ hm⟩

/-! ### Frames -/

/-- Nothing but the queue, the pending notices and the lines differs. -/
def NoticeFrame (s t : State) : Prop :=
  t = { s with queue := t.queue, ports := t.ports } ∧ PortsKeep s t

theorem PortsKeep.refl (s : State) : PortsKeep s s := fun _ => rfl

theorem PortsKeep.trans {s t u : State} (h : PortsKeep s t) (k : PortsKeep t u) : PortsKeep s u := by
  intro q
  rw [k q, h q]

theorem NoticeFrame.refl (s : State) : NoticeFrame s s := ⟨rfl, .refl s⟩

theorem NoticeFrame.trans {s t u : State} (h : NoticeFrame s t) (k : NoticeFrame t u) : NoticeFrame s u := by
  refine ⟨?_, h.2.trans k.2⟩
  rw [k.1, h.1]

/-- A queue replaced is within the frame. -/
theorem NoticeFrame.withQueue (s : State) (q : EventQueue) : NoticeFrame s (s.withQueue q) := ⟨rfl, fun _ => rfl⟩

theorem PortsKeep.withPort (s : State) (p : Port) (u : PortUnit)
    (h : u = { s.port p with pending := u.pending, line := u.line }) : PortsKeep s (s.withPort p u) := by
  intro q
  by_cases hq : q = p
  · subst hq
    rw [State.port_withPort_self]
    exact h
  · rw [State.port_withPort_other _ _ hq]

theorem setNotice_frame (p : Port) (n : Notice) (on : Bool) (s : State) : NoticeFrame s (setNotice p n on s) := by
  unfold setNotice
  split
  · exact ⟨rfl, .withPort _ _ _ (PortUnit.setNotice_spec ..).1⟩
  · exact .refl s

/-- Everything `setNotice` does: the notice has its value at the port in RUN, every other notice and every other port is as it
was, and the queue is not touched. -/
theorem setNotice_spec (p : Port) (n : Notice) (on : Bool) (s : State) :
    setNotice p n on s = { s with ports := (setNotice p n on s).ports } ∧ PortsKeep s (setNotice p n on s) ∧
      (s.running = true → ((setNotice p n on s).port p).pending.has n = on) ∧
      (∀ m, m ≠ n → ((setNotice p n on s).port p).pending.has m = (s.port p).pending.has m) ∧
      ∀ q, q ≠ p → (setNotice p n on s).port q = s.port q := by
  refine ⟨?_, (setNotice_frame p n on s).2, ?_, ?_, ?_⟩ <;> unfold setNotice <;> split
  · rfl
  · rfl
  · intro _; simp [(PortUnit.setNotice_spec ..).2.1]
  · intro h; contradiction
  · intro m hm; simp [(PortUnit.setNotice_spec ..).2.2 m hm]
  · intro _ _; rfl
  · intro q hq; exact State.port_withPort_other _ _ hq
  · intro _ _; rfl

@[simp] theorem setNotice_running (p : Port) (n : Notice) (on : Bool) (s : State) :
    (setNotice p n on s).running = s.running := by
  rw [(setNotice_spec p n on s).1]; rfl

@[simp] theorem setNotice_queue (p : Port) (n : Notice) (on : Bool) (s : State) :
    (setNotice p n on s).queue = s.queue := by
  rw [(setNotice_spec p n on s).1]

theorem raiseAtAll_frame (n : Notice) (s : State) : NoticeFrame s (raiseAtAll n s) :=
  atAllPorts_keeps (fun p t h => h.trans (setNotice_frame p n true t)) (.refl s)

@[simp] theorem raiseAtAll_queue (n : Notice) (s : State) : (raiseAtAll n s).queue = s.queue := by
  simp [raiseAtAll, atAllPorts]

/-- A notice raised at all ports is pending at all of them in RUN. -/
theorem raiseAtAll_raised (n : Notice) (s : State) (h : s.running = true) : RaisedAtAll n (raiseAtAll n s) := by
  intro q
  have other (p q : Port) (t : State) (hq : q ≠ p) : (setNotice p n true t).port q = t.port q :=
    (setNotice_spec p n true t).2.2.2.2 q hq
  have self (p : Port) (t : State) (ht : t.running = true) : ((setNotice p n true t).port p).pending.has n = true :=
    (setNotice_spec p n true t).2.2.1 ht
  unfold raiseAtAll atAllPorts
  cases q
  · rw [other _ _ _ (by decide), other _ _ _ (by decide)]; exact self _ _ h
  · rw [other _ _ _ (by decide)]; exact self _ _ (by simp [h])
  · exact self _ _ (by simp [h])

/-! ### Records -/

theorem syncEvents_frame (p : Port) (s : State) : NoticeFrame s (syncEvents p s) := setNotice_frame ..

@[simp] theorem syncEvents_queue (p : Port) (s : State) : (syncEvents p s).queue = s.queue := setNotice_queue ..

theorem loseAt_frame (p : Port) (k : Nat) (s : State) : NoticeFrame s (loseAt p k s) :=
  (NoticeFrame.withQueue ..).trans (setNotice_frame ..)

theorem discardAt_frame (p : Port) (s : State) : NoticeFrame s (discardAt p s) := by
  unfold discardAt
  split
  · exact (NoticeFrame.withQueue ..).trans (setNotice_frame ..)
  · exact .refl s

theorem enterRecord_frame (r : Record) (s : State) : NoticeFrame s (enterRecord r s) :=
  (NoticeFrame.withQueue ..).trans (atAllPorts_keeps (fun p t h => h.trans (syncEvents_frame p t)) (.refl _))

theorem loseRemoved_frame (h : Held) (p : Port) (s : State) : NoticeFrame s (loseRemoved h p s) := by
  unfold loseRemoved
  split
  · exact .refl s
  · exact (loseAt_frame ..).trans (syncEvents_frame ..)

theorem removeOldest_frame (s : State) : NoticeFrame s (removeOldest s) := by
  unfold removeOldest
  split
  · exact .refl s
  · exact (NoticeFrame.withQueue ..).trans (atAllPorts_keeps (fun p t h => h.trans (loseRemoved_frame _ p t)) (.refl _))

theorem storeRecord_frame (r : Record) (s : State) : NoticeFrame s (storeRecord r s) := by
  unfold storeRecord
  repeat' split
  · exact enterRecord_frame ..
  · exact atAllPorts_keeps (fun p t h => h.trans (discardAt_frame p t)) (.refl s)
  · exact (removeOldest_frame s).trans (enterRecord_frame ..)
  · exact .refl s

/-- Producing a record changes nothing but the queue, the pending notices and the lines. -/
theorem produceAt_frame (i : Instant) (o : Bool) (b : RecordBody) (s : State) : NoticeFrame s (produceAt i o b s) :=
  (NoticeFrame.withQueue ..).trans (storeRecord_frame ..)

theorem produce_frame (o : Bool) (b : RecordBody) (s : State) : NoticeFrame s (produce o b s) := produceAt_frame ..

theorem syncTallyDue_frame (p : Port) (s : State) : NoticeFrame s (syncTallyDue p s) := setNotice_frame ..

/-! ### Requests -/

/-- Everything that taking a request can do in RUN: refuse a frame of bad shape or of a length that does not fit, or have the
block serve it, with its refusal or its payload. In BACKUP the frame is not taken. -/
theorem takeRequest_cases (p : Port) (code : Byte) (fits : Nat → Bool) (serve : List Byte → State → Answer)
    (rest : List Byte) (s : State) :
    (s.running = false ∧ takeRequest p code fits serve rest s = s) ∨
      (s.running = true ∧ frameArguments rest = none ∧
        takeRequest p code fits serve rest s = s.refusedAt p code .frame (min 255 (1 + rest.length))) ∨
      ∃ args, s.running = true ∧ frameArguments rest = some args ∧
        ((fits args.length = false ∧ takeRequest p code fits serve rest s = s.refusedAt p code .frame args.length) ∨
          (fits args.length = true ∧
            ((∃ c d, serve args (s.idleFrame p) = .refuse c d ∧
                takeRequest p code fits serve rest s = s.refusedAt p code c d) ∨
              ∃ t payload, serve args (s.idleFrame p) = .accept t payload ∧
                takeRequest p code fits serve rest s = t.respond p (.ok payload)))) := by
  have idle (c : RefusalCode) (d : Nat) : (s.idleFrame p).refuse p code c d = s.refusedAt p code c d := by
    simp only [State.refuse, State.idleFrame, State.refusedAt, State.withPort_withPort, State.port_withPort_self]
    rfl
  unfold takeRequest
  cases hr : s.running
  · exact .inl ⟨rfl, rfl⟩
  · refine .inr ?_
    cases hf : frameArguments rest with
    | none => exact .inl ⟨rfl, rfl, idle ..⟩
    | some args =>
      refine .inr ⟨args, rfl, rfl, ?_⟩
      cases hl : fits args.length
      · exact .inl ⟨rfl, by simpa [hl] using idle .frame args.length⟩
      · refine .inr ⟨rfl, ?_⟩
        cases ha : serve args (s.idleFrame p) with
        | refuse c d => exact .inl ⟨c, d, rfl, by simpa [hl, ha, State.answered] using idle c d⟩
        | accept t payload => exact .inr ⟨t, payload, rfl, by simp [hl, ha, State.answered]⟩

end Sys2Proof.Machine
end

