-- ==== Sys2Proof/Laws/Blocks.lean ====
section
/-!
SUPPORT. What the shared operations of the tally unit, the trip unit, the point unit, the duty unit and the time base can touch,
said once for each: the frames that the proofs about the commands cite instead of unfolding them.
-/

namespace Sys2Proof.Machine

/-- Nothing but the tally unit, the queue, the pending notices and the lines differs. -/
def TallyFrame (s t : State) : Prop :=
  t = { s with tally := t.tally, queue := t.queue, ports := t.ports } ∧ PortsKeep s t

/-- Nothing but the points, the trip unit and what a `TallyFrame` names differs. -/
def PointFrame (s t : State) : Prop :=
  t = { s with points := t.points, trip := t.trip, tally := t.tally, queue := t.queue, ports := t.ports } ∧
    PortsKeep s t

/-- Nothing but the duty unit and what a `TallyFrame` names differs. -/
def DutyFrame (s t : State) : Prop :=
  t = { s with duty := t.duty, tally := t.tally, queue := t.queue, ports := t.ports } ∧ PortsKeep s t

/-- Nothing but the time base and what a `TallyFrame` names differs. -/
def QualityFrame (s t : State) : Prop :=
  t = { s with time := t.time, tally := t.tally, queue := t.queue, ports := t.ports } ∧ PortsKeep s t

theorem NoticeFrame.tally {s t : State} (h : NoticeFrame s t) : TallyFrame s t := by
  refine ⟨?_, h.2⟩
  rw [h.1]

theorem TallyFrame.refl (s : State) : TallyFrame s s := ⟨rfl, .refl s⟩

theorem TallyFrame.trans {s t u : State} (h : TallyFrame s t) (k : TallyFrame t u) : TallyFrame s u := by
  refine ⟨?_, h.2.trans k.2⟩
  rw [k.1, h.1]

theorem TallyFrame.point {s t : State} (h : TallyFrame s t) : PointFrame s t := by
  refine ⟨?_, h.2⟩
  rw [h.1]

theorem TallyFrame.duty {s t : State} (h : TallyFrame s t) : DutyFrame s t := by
  refine ⟨?_, h.2⟩
  rw [h.1]

theorem TallyFrame.quality {s t : State} (h : TallyFrame s t) : QualityFrame s t := by
  refine ⟨?_, h.2⟩
  rw [h.1]

theorem PointFrame.refl (s : State) : PointFrame s s := ⟨rfl, .refl s⟩

theorem PointFrame.trans {s t u : State} (h : PointFrame s t) (k : PointFrame t u) : PointFrame s u := by
  refine ⟨?_, h.2.trans k.2⟩
  rw [k.1, h.1]

theorem DutyFrame.refl (s : State) : DutyFrame s s := ⟨rfl, .refl s⟩

theorem DutyFrame.trans {s t u : State} (h : DutyFrame s t) (k : DutyFrame t u) : DutyFrame s u := by
  refine ⟨?_, h.2.trans k.2⟩
  rw [k.1, h.1]

theorem QualityFrame.refl (s : State) : QualityFrame s s := ⟨rfl, .refl s⟩

theorem QualityFrame.trans {s t u : State} (h : QualityFrame s t) (k : QualityFrame t u) : QualityFrame s u := by
  refine ⟨?_, h.2.trans k.2⟩
  rw [k.1, h.1]

/-! ### The tally unit -/

theorem TallyFrame.withEntry (s : State) (i : Fin 12) (x : Tally) : TallyFrame s (s.withEntry i x) := ⟨rfl, fun _ => rfl⟩

theorem TallyFrame.withTally (s : State) (x : TallyUnit) : TallyFrame s (s.withTally x) := ⟨rfl, fun _ => rfl⟩

theorem produceIf_frame (c : Bool) (o : Bool) (b : RecordBody) (s : State) :
    NoticeFrame s (if c then produce o b s else s) := by
  cases c
  · exact .refl s
  · exact produce_frame o b s

theorem evaluateDue_frame (o : Bool) (i : Fin 12) (s : State) : TallyFrame s (evaluateDue o i s) := by
  unfold evaluateDue
  dsimp only
  split
  · exact .refl s
  · exact (TallyFrame.withEntry ..).trans
      ((produceIf_frame ..).trans
        (atAllPorts_keeps (fun p t h => h.trans (syncTallyDue_frame p t)) (.refl _))).tally

theorem applyPreset_frame (o : Bool) (i : Fin 12) (x : StagedPreset) (s : State) :
    TallyFrame s (applyPreset o i x s) :=
  (TallyFrame.withEntry ..).trans
    ((produce_frame ..).tally.trans ((evaluateDue_frame ..).trans (TallyFrame.withEntry ..)))

theorem completeQualification_frame (o : Bool) (i : Fin 12) (s : State) :
    TallyFrame s (completeQualification o i s) :=
  (TallyFrame.withEntry ..).trans ((produceIf_frame ..).tally.trans (evaluateDue_frame ..))

theorem enterQualifying_frame (o : Bool) (i : Fin 12) (s : State) : TallyFrame s (enterQualifying o i s) := by
  unfold enterQualifying
  dsimp only
  split
  · exact (TallyFrame.withEntry ..).trans (completeQualification_frame ..)
  · exact .withEntry ..

theorem applyStagedPreset_frame (o : Bool) (i : Fin 12) (s : State) : TallyFrame s (applyStagedPreset o i s) := by
  unfold applyStagedPreset
  split
  · exact .refl s
  · exact applyPreset_frame ..

theorem endRun_frame (o : Bool) (i : Fin 12) (s : State) : TallyFrame s (endRun o i s) :=
  (produceIf_frame ..).tally.trans ((applyStagedPreset_frame ..).trans (TallyFrame.withEntry ..))

theorem evaluateTally_frame (o : Bool) (i : Fin 12) (s : State) : TallyFrame s (evaluateTally o i s) := by
  unfold evaluateTally
  split
  · exact enterQualifying_frame ..
  · exact .withEntry ..
  · exact endRun_frame ..
  · exact .refl s

/-- A change of an input handed to the tally unit changes nothing but the tally unit, the queue, the pending notices and the
lines. -/
theorem handInput_frame (k : Nat) (v : Bool) (s : State) : TallyFrame s (handInput k v s) := by
  unfold handInput
  split
  · exact .refl s
  · exact (TallyFrame.withTally ..).trans (atAllTallies_keeps (fun i t h => h.trans (evaluateTally_frame _ i t)) (.refl _))

/-- A paused unit, and an input that has not changed, leave everything. -/
theorem handInput_same (k : Nat) (v : Bool) (s : State) (h : s.tally.paused = true ∨ s.tally.inputs.getLsbD k = v) :
    handInput k v s = s := by
  unfold handInput
  rcases h with h | h <;> simp [h]

theorem completeIfQualified_frame (i : Fin 12) (s : State) : TallyFrame s (completeIfQualified i s) := by
  unfold completeIfQualified
  split
  · exact completeQualification_frame ..
  · exact .refl s

theorem countBoundary_frame (i : Fin 12) (s : State) : TallyFrame s (countBoundary i s) := by
  unfold countBoundary
  dsimp only
  split
  · exact .refl s
  · exact (TallyFrame.withEntry ..).trans (completeIfQualified_frame ..)
  · exact (TallyFrame.withEntry ..).trans (evaluateDue_frame ..)

theorem tallyBoundary_frame (s : State) : TallyFrame s (tallyBoundary s) := by
  unfold tallyBoundary
  split
  · exact .refl s
  · exact atAllTallies_keeps (fun i t h => h.trans (countBoundary_frame i t)) (.refl s)

theorem configureTally_frame (i : Fin 12) (c : TallyConfig) (s : State) : TallyFrame s (configureTally i c s) := by
  unfold configureTally
  dsimp only
  split
  · exact (TallyFrame.withEntry ..).trans
      ((completeQualification_frame ..).trans ((evaluateTally_frame ..).trans (evaluateDue_frame ..)))
  · exact (TallyFrame.withEntry ..).trans ((evaluateTally_frame ..).trans (evaluateDue_frame ..))

/-! ### The trip unit and the point unit -/

theorem PointFrame.withTrip (s : State) (t : TripUnit) : PointFrame s (s.withTrip t) := ⟨rfl, fun _ => rfl⟩

theorem PointFrame.withPoint (s : State) (n : Fin 32) (x : Point) : PointFrame s (s.withPoint n x) := ⟨rfl, fun _ => rfl⟩

theorem producePoint_frame (n : Fin 32) (a : Bool) (c : ChangeCause) (i : Instant) (o : Bool) (s : State) :
    PointFrame s (producePoint n a c i o s) :=
  (PointFrame.withTrip ..).trans (produceAt_frame ..).tally.point

theorem finaliseFirstOut_frame (s : State) : PointFrame s (finaliseFirstOut s) := by
  unfold finaliseFirstOut
  split
  · exact (PointFrame.withTrip ..).trans ((produce_frame ..).trans (raiseAtAll_frame ..)).tally.point
  · exact .refl s

theorem closeBurst_frame (s : State) : PointFrame s (closeBurst s) := by
  unfold closeBurst
  split
  · exact .refl s
  · exact (finaliseFirstOut_frame s).trans ((PointFrame.withTrip ..).trans (handInput_frame ..).point)

theorem latchActivation_frame (n : Nat) (i : Instant) (s : State) : PointFrame s (latchActivation n i s) := by
  unfold latchActivation
  split
  · exact (PointFrame.withTrip ..).trans ((raiseAtAll_frame ..).tally.trans (handInput_frame ..)).point
  · dsimp only
    split <;> split
    · exact (PointFrame.withTrip ..).trans (raiseAtAll_frame ..).tally.point
    · exact .withTrip ..
    · exact (PointFrame.withTrip ..).trans (raiseAtAll_frame ..).tally.point
    · exact .withTrip ..
  · exact .refl s

theorem takeTripChange_frame (n : Fin 32) (a : Bool) (i : Instant) (s : State) :
    PointFrame s (takeTripChange n a i s) := by
  unfold takeTripChange
  dsimp only
  split
  · exact (PointFrame.withTrip ..).trans (latchActivation_frame ..)
  · exact .withTrip ..

/-- A confirmed change changes nothing but the points, the trip unit, the tally unit, the queue, the pending notices and the
lines. -/
theorem confirmChange_frame (n : Fin 32) (a : Bool) (c : ChangeCause) (i : Instant) (o : Bool) (s : State) :
    PointFrame s (confirmChange n a c i o s) := by
  unfold confirmChange setActive
  dsimp only
  split
  · exact (PointFrame.withPoint ..).trans (handInput_frame ..).point
  · exact (PointFrame.withPoint ..).trans (handInput_frame ..).point
  · exact (PointFrame.withPoint ..).trans
      ((producePoint_frame ..).trans ((handInput_frame ..).trans (handInput_frame ..)).point)
  · exact (PointFrame.withPoint ..).trans
      ((producePoint_frame ..).trans
        (((handInput_frame ..).trans (handInput_frame ..)).point.trans (takeTripChange_frame ..)))

theorem setChatter_frame (n : Fin 32) (c : Chatter) (s : State) : PointFrame s (setChatter n c s) := .withPoint ..

theorem takeEdge_frame (n : Fin 32) (s : State) : PointFrame s (takeEdge n s) := by
  unfold takeEdge
  dsimp only
  split
  · exact .withPoint ..
  · exact .withPoint ..
  · split
    · exact .refl s
    · exact .withPoint ..

theorem suppressPoint_frame (n : Fin 32) (k : Nat) (s : State) : PointFrame s (suppressPoint n k s) :=
  (produce_frame ..).tally.point.trans (setChatter_frame ..)

theorem countChange_frame (n : Fin 32) (a : Bool) (c : ChangeCause) (i : Instant) (o : Bool) (s : State) :
    PointFrame s (countChange n a c i o s) := by
  unfold countChange
  dsimp only
  split
  · exact confirmChange_frame ..
  · split
    · exact (setChatter_frame ..).trans (confirmChange_frame ..)
    · split
      · exact (setChatter_frame ..).trans (confirmChange_frame ..)
      · exact suppressPoint_frame ..
    · exact .refl s

theorem expireDebounce_frame (n : Fin 32) (s : State) : PointFrame s (expireDebounce n s) := by
  unfold expireDebounce
  split
  · exact .refl s
  · split
    · exact (PointFrame.withPoint ..).trans (countChange_frame ..)
    · exact .refl s

theorem expireWindow_frame (n : Fin 32) (s : State) : PointFrame s (expireWindow n s) := by
  unfold expireWindow
  split
  · split
    · exact setChatter_frame ..
    · exact .refl s
  · exact .refl s

theorem releasePoint_frame (n : Fin 32) (k : Nat) (s : State) : PointFrame s (releasePoint n k s) := by
  unfold releasePoint
  dsimp only
  split
  · exact (produce_frame ..).tally.point.trans (setChatter_frame ..)
  · exact ((produce_frame ..).tally.point.trans (setChatter_frame ..)).trans (confirmChange_frame ..)

theorem expireStability_frame (n : Fin 32) (s : State) : PointFrame s (expireStability n s) := by
  unfold expireStability
  split
  · split
    · exact releasePoint_frame ..
    · exact .refl s
  · exact .refl s

theorem reportRelease_frame (o : Bool) (n : Fin 32) (s : State) : PointFrame s (reportRelease o n s) := by
  unfold reportRelease
  split
  · exact (produce_frame ..).tally.point
  · exact .refl s

/-- An entry written to a point changes nothing but the points, the trip unit, the tally unit, the queue, the pending notices and
the lines. -/
theorem writeEntry_frame (n : Fin 32) (e : PointEntry) (s : State) : PointFrame s (writeEntry n e s) := by
  unfold writeEntry applySettings takeFresh invertLine stopChatter cancelDebounce
  have edge (s : State) : PointFrame s (takeEdge n (s.withPoint n { s.point n with debouncing := none })) :=
    (PointFrame.withPoint ..).trans (takeEdge_frame ..)
  have stop (s : State) : PointFrame s
      (match (s.point n).chatter with
        | .clear => s
        | .counting _ _ => setChatter n .clear s
        | .suppressed edges _ => releasePoint n edges s) := by
    split
    · exact .refl s
    · exact setChatter_frame ..
    · exact releasePoint_frame ..
  have polarity (c : Prop) [Decidable c] (s : State) : PointFrame s
      (if c then s
        else if (s.point n).entry.mode = .off then s else takeEdge n (s.withPoint n { s.point n with debouncing := none })) := by
    split
    · exact .refl s
    · split
      · exact .refl s
      · exact edge s
  dsimp only
  split
  · split
    · exact (PointFrame.withPoint ..).trans ((polarity ..).trans (stop _))
    · exact (PointFrame.withPoint ..).trans (polarity ..)
  · exact (reportRelease_frame ..).trans ((PointFrame.withPoint ..).trans (handInput_frame ..).point)

/-! ### The duty unit -/

theorem DutyFrame.withDuty (s : State) (d : DutyUnit) : DutyFrame s (s.withDuty d) := ⟨rfl, fun _ => rfl⟩

theorem produceHandover_frame (o : Bool) (phase : HandoverPhase) (x y : Nat) (k : Option Nat) (r z : Nat) (s : State) :
    NoticeFrame s (produceHandover o phase x y k r z s) :=
  (produce_frame ..).trans (raiseAtAll_frame ..)

theorem reportHandover_frame (o : Bool) (phase : HandoverPhase) (k : Nat) (s : State) :
    NoticeFrame s (reportHandover o phase k s) :=
  produceHandover_frame ..

theorem handDutyHeld_frame (s : State) : TallyFrame s (handDutyHeld s) := handInput_frame ..

theorem applyRota_frame (o : Bool) (s : State) : DutyFrame s (applyRota o s) := by
  unfold applyRota
  split
  · exact .refl s
  · exact (DutyFrame.withDuty ..).trans (produce_frame ..).tally.duty

theorem expireRelease_frame (o : Bool) (s : State) : DutyFrame s (expireRelease o s) := by
  unfold expireRelease
  split
  · split
    · exact (DutyFrame.withDuty ..).trans (reportHandover_frame ..).tally.duty
    · exact .refl s
  · exact .refl s

theorem reoffer_frame (o : Bool) (s : State) : DutyFrame s (reoffer o s) :=
  (DutyFrame.withDuty ..).trans (reportHandover_frame ..).tally.duty

theorem lapse_frame (o : Bool) (s : State) : DutyFrame s (lapse o s) := by
  unfold lapse
  dsimp only
  split
  · exact (produceHandover_frame ..).tally.duty.trans (DutyFrame.withDuty ..)
  · split
    · exact (produceHandover_frame ..).tally.duty.trans
        ((DutyFrame.withDuty ..).trans ((applyRota_frame ..).trans (handDutyHeld_frame _).duty))
    · exact (produceHandover_frame ..).tally.duty.trans (DutyFrame.withDuty ..)

theorem expireAccept_frame (o : Bool) (s : State) : DutyFrame s (expireAccept o s) := by
  unfold expireAccept
  split
  · split
    · split
      · exact reoffer_frame ..
      · exact lapse_frame ..
    · exact .refl s
  · exact .refl s

theorem slotFalls_frame (o : Bool) (due : Instant) (k : Nat) (x : Slot) (n : Nat) (s : State) :
    DutyFrame s (slotFalls o due k x n s) := by
  unfold slotFalls
  dsimp only
  split
  · exact .withDuty ..
  · split
    · exact (DutyFrame.withDuty ..).trans ((DutyFrame.withDuty ..).trans (reportHandover_frame ..).tally.duty)
    · exact (DutyFrame.withDuty ..).trans
        ((DutyFrame.withDuty ..).trans ((reportHandover_frame ..).trans (reportHandover_frame ..)).tally.duty)
  · exact (DutyFrame.withDuty ..).trans ((DutyFrame.withDuty ..).trans (reportHandover_frame ..).tally.duty)
  · exact (DutyFrame.withDuty ..).trans ((DutyFrame.withDuty ..).trans (reportHandover_frame ..).tally.duty)

theorem checkSlots_frame (o : Bool) (s : State) : DutyFrame s (checkSlots o s) := by
  unfold checkSlots
  split
  · exact .refl s
  · split
    · exact .withDuty ..
    · split
      · exact slotFalls_frame ..
      · exact .refl s

/-- A check of the duty unit changes nothing but the duty unit, the tally unit, the queue, the pending notices and the lines. -/
theorem dutyCheck_frame (o : Bool) (s : State) : DutyFrame s (dutyCheck o s) := by
  unfold dutyCheck
  split
  · dsimp only
    split
    · exact (expireRelease_frame ..).trans (expireAccept_frame ..)
    · exact ((expireRelease_frame ..).trans (expireAccept_frame ..)).trans
        ((checkSlots_frame ..).trans (expireRelease_frame ..))
  · exact .refl s

/-! ### The time base -/

theorem evaluateAlarm_frame (p : Port) (s : State) : NoticeFrame s (evaluateAlarm p s) := setNotice_frame ..

/-- The instant handed to the blocks that hold instants changes nothing but the duty unit, the tally unit, the queue, the pending
notices and the lines. -/
theorem handInstant_frame (s : State) : DutyFrame s (handInstant s) :=
  (dutyCheck_frame ..).trans (atAllPorts_keeps
    (fun p _ h => h.trans (evaluateAlarm_frame p _).tally.duty) (.refl _))

theorem handBoundary_frame (s : State) : DutyFrame s (handBoundary s) :=
  (tallyBoundary_frame s).duty.trans (handInstant_frame _)

/-- Taking the boundary of a tick changes nothing but that it waits, the duty unit, the tally unit, the queue, the pending notices and
the lines. -/
theorem takeBoundary_frame (s : State) : DutyFrame { s with boundaryWaits := false } (takeBoundary s) := by
  unfold takeBoundary
  split
  · exact handBoundary_frame _
  · next h =>
    have : ({ s with boundaryWaits := false } : State) = s := by cases s; simp_all
    rw [this]
    exact .refl s

/-- A boundary that does not wait leaves everything. -/
theorem takeBoundary_same (s : State) (h : s.boundaryWaits = false) : takeBoundary s = s := by simp [takeBoundary, h]

@[simp] theorem takeBoundary_boundaryWaits (s : State) : (takeBoundary s).boundaryWaits = false := by
  rw [(takeBoundary_frame s).1]

/-- A move of the quality changes nothing but the time base, the tally unit, the queue, the pending notices and the lines. -/
theorem moveQuality_frame (q : Quality) (s : State) : QualityFrame s (moveQuality q s) := by
  have time (t : TimeBase) : QualityFrame s (s.withTime t) := ⟨rfl, fun _ => rfl⟩
  unfold moveQuality
  dsimp only
  split
  · exact .refl s
  · split
    · exact (time _).trans (((produce_frame ..).trans (raiseAtAll_frame ..)).tally.trans (handInput_frame ..)).quality
    · exact (time _).trans (handInput_frame ..).quality

/-- A quality moved to itself is no transition. -/
theorem moveQuality_same (s : State) : moveQuality s.time.quality s = s := by
  simp [moveQuality]

end Sys2Proof.Machine
end

