-- ==== Sys2Proof/Laws/PerInstr.lean ====
section
/-!
SUPPORT. For every command: the request code of its frame is a code of the table of R188, but for the row UNKNOWN, whose code is
none of them. A command that is no request has no frame.
-/

namespace Sys2Proof.Laws.RequestCode

open Sys2Proof Sys2Proof.Machine

/-- A well-formed command that is a request carries a code of R188 exactly when it is not UNKNOWN. -/
def Statement (i : Instr) : Prop :=
  i.wellFormed = true → ∀ f, frameOf i = some f →
    (requestCodes.contains f.code = false ↔ ∃ port code rest, i = .unknown port code rest)

/-- A command whose frame has a code of the table and which is not UNKNOWN. -/
theorem of_known {i : Instr} (known : ∀ f, frameOf i = some f → requestCodes.contains f.code = true)
    (other : ∀ port code rest, i ≠ .unknown port code rest) : Statement i := by
  intro _ f hf
  rw [known f hf]
  constructor
  · intro h; cases h
  · rintro ⟨port, code, rest, h⟩; exact absurd h (other port code rest)

theorem readTime (port : Port) (rest : List Byte) : Statement (.readTime port rest) :=
  of_known (by intro f hf; cases hf; rfl) (by intros; exact Instr.noConfusion)
theorem setTimeImmediate (port : Port) (date : BitVec 16) (ms : BitVec 32) : Statement (.setTimeImmediate port date ms) :=
  of_known (by intro f hf; cases hf; rfl) (by intros; exact Instr.noConfusion)
theorem setTimeAtMark (port : Port) (date : BitVec 16) (ms : BitVec 32) : Statement (.setTimeAtMark port date ms) :=
  of_known (by intro f hf; cases hf; rfl) (by intros; exact Instr.noConfusion)
theorem setTimeWithdraw (port : Port) (date : BitVec 16) (ms : BitVec 32) : Statement (.setTimeWithdraw port date ms) :=
  of_known (by intro f hf; cases hf; rfl) (by intros; exact Instr.noConfusion)
theorem readDiscipline (port : Port) (rest : List Byte) : Statement (.readDiscipline port rest) :=
  of_known (by intro f hf; cases hf; rfl) (by intros; exact Instr.noConfusion)
theorem setDiscipline (port : Port) (rest : List Byte) : Statement (.setDiscipline port rest) :=
  of_known (by intro f hf; cases hf; rfl) (by intros; exact Instr.noConfusion)
theorem setPoint (port : Port) (rest : List Byte) : Statement (.setPoint port rest) :=
  of_known (by intro f hf; cases hf; rfl) (by intros; exact Instr.noConfusion)
theorem setPoints (port : Port) (rest : List Byte) : Statement (.setPoints port rest) :=
  of_known (by intro f hf; cases hf; rfl) (by intros; exact Instr.noConfusion)
theorem readPoints (port : Port) (rest : List Byte) : Statement (.readPoints port rest) :=
  of_known (by intro f hf; cases hf; rfl) (by intros; exact Instr.noConfusion)
theorem setBurst (port : Port) (rest : List Byte) : Statement (.setBurst port rest) :=
  of_known (by intro f hf; cases hf; rfl) (by intros; exact Instr.noConfusion)
theorem resetFirstOut (port : Port) (rest : List Byte) : Statement (.resetFirstOut port rest) :=
  of_known (by intro f hf; cases hf; rfl) (by intros; exact Instr.noConfusion)
theorem ackTrips (port : Port) (rest : List Byte) : Statement (.ackTrips port rest) :=
  of_known (by intro f hf; cases hf; rfl) (by intros; exact Instr.noConfusion)
theorem readFirstOut (port : Port) (rest : List Byte) : Statement (.readFirstOut port rest) :=
  of_known (by intro f hf; cases hf; rfl) (by intros; exact Instr.noConfusion)
theorem readAnnunciation (port : Port) (rest : List Byte) : Statement (.readAnnunciation port rest) :=
  of_known (by intro f hf; cases hf; rfl) (by intros; exact Instr.noConfusion)
theorem setQueueMode (port : Port) (rest : List Byte) : Statement (.setQueueMode port rest) :=
  of_known (by intro f hf; cases hf; rfl) (by intros; exact Instr.noConfusion)
theorem readEvents (port : Port) (rest : List Byte) : Statement (.readEvents port rest) :=
  of_known (by intro f hf; cases hf; rfl) (by intros; exact Instr.noConfusion)
theorem subscribe (port : Port) (rest : List Byte) : Statement (.subscribe port rest) :=
  of_known (by intro f hf; cases hf; rfl) (by intros; exact Instr.noConfusion)
theorem setTally (port : Port) (rest : List Byte) : Statement (.setTally port rest) :=
  of_known (by intro f hf; cases hf; rfl) (by intros; exact Instr.noConfusion)
theorem setDue (port : Port) (rest : List Byte) : Statement (.setDue port rest) :=
  of_known (by intro f hf; cases hf; rfl) (by intros; exact Instr.noConfusion)
theorem presetTally (port : Port) (rest : List Byte) : Statement (.presetTally port rest) :=
  of_known (by intro f hf; cases hf; rfl) (by intros; exact Instr.noConfusion)
theorem readTally (port : Port) (rest : List Byte) : Statement (.readTally port rest) :=
  of_known (by intro f hf; cases hf; rfl) (by intros; exact Instr.noConfusion)
theorem setRota (port : Port) (rest : List Byte) : Statement (.setRota port rest) :=
  of_known (by intro f hf; cases hf; rfl) (by intros; exact Instr.noConfusion)
theorem acceptDuty (port : Port) (rest : List Byte) : Statement (.acceptDuty port rest) :=
  of_known (by intro f hf; cases hf; rfl) (by intros; exact Instr.noConfusion)
theorem openHandover (port : Port) (rest : List Byte) : Statement (.openHandover port rest) :=
  of_known (by intro f hf; cases hf; rfl) (by intros; exact Instr.noConfusion)
theorem releaseDuty (port : Port) (rest : List Byte) : Statement (.releaseDuty port rest) :=
  of_known (by intro f hf; cases hf; rfl) (by intros; exact Instr.noConfusion)
theorem reclaimDuty (port : Port) (rest : List Byte) : Statement (.reclaimDuty port rest) :=
  of_known (by intro f hf; cases hf; rfl) (by intros; exact Instr.noConfusion)
theorem setHandover (port : Port) (rest : List Byte) : Statement (.setHandover port rest) :=
  of_known (by intro f hf; cases hf; rfl) (by intros; exact Instr.noConfusion)
theorem readDuty (port : Port) (rest : List Byte) : Statement (.readDuty port rest) :=
  of_known (by intro f hf; cases hf; rfl) (by intros; exact Instr.noConfusion)
theorem readShiftBook (port : Port) (rest : List Byte) : Statement (.readShiftBook port rest) :=
  of_known (by intro f hf; cases hf; rfl) (by intros; exact Instr.noConfusion)
theorem setAlarm (port : Port) (rest : List Byte) : Statement (.setAlarm port rest) :=
  of_known (by intro f hf; cases hf; rfl) (by intros; exact Instr.noConfusion)
theorem setNotices (port : Port) (rest : List Byte) : Statement (.setNotices port rest) :=
  of_known (by intro f hf; cases hf; rfl) (by intros; exact Instr.noConfusion)
theorem clearNotices (port : Port) (rest : List Byte) : Statement (.clearNotices port rest) :=
  of_known (by intro f hf; cases hf; rfl) (by intros; exact Instr.noConfusion)
theorem readNotices (port : Port) (rest : List Byte) : Statement (.readNotices port rest) :=
  of_known (by intro f hf; cases hf; rfl) (by intros; exact Instr.noConfusion)
theorem setRights (port : Port) (rest : List Byte) : Statement (.setRights port rest) :=
  of_known (by intro f hf; cases hf; rfl) (by intros; exact Instr.noConfusion)
theorem readPort (port : Port) (rest : List Byte) : Statement (.readPort port rest) :=
  of_known (by intro f hf; cases hf; rfl) (by intros; exact Instr.noConfusion)
theorem restart (port : Port) (rest : List Byte) (pins : AddressPins) (order : ClosingOrder) : Statement (.restart port rest pins order) :=
  of_known (by intro f hf; cases hf; rfl) (by intros; exact Instr.noConfusion)
theorem unknown (port : Port) (code : Byte) (rest : List Byte) : Statement (.unknown port code rest) := by
  intro h f hf
  cases hf
  exact ⟨fun _ => ⟨_, _, _, rfl⟩, fun _ => by simpa [Instr.wellFormed] using h⟩
theorem repeatedStartDiscard (port : Port) (bytes : List Byte) : Statement (.repeatedStartDiscard port bytes) :=
  of_known (by intro f hf; cases hf) (by intros; exact Instr.noConfusion)
theorem mark : Statement .mark :=
  of_known (by intro f hf; cases hf) (by intros; exact Instr.noConfusion)
theorem missingMarkTimeout : Statement .missingMarkTimeout :=
  of_known (by intro f hf; cases hf) (by intros; exact Instr.noConfusion)
theorem holdoverLimitExpiry : Statement .holdoverLimitExpiry :=
  of_known (by intro f hf; cases hf) (by intros; exact Instr.noConfusion)
theorem millisecondBoundary : Statement .millisecondBoundary :=
  of_known (by intro f hf; cases hf) (by intros; exact Instr.noConfusion)
theorem pointEdge (point : Fin 32) (high : Bool) : Statement (.pointEdge point high) :=
  of_known (by intro f hf; cases hf) (by intros; exact Instr.noConfusion)
theorem debounceExpiry (point : Fin 32) : Statement (.debounceExpiry point) :=
  of_known (by intro f hf; cases hf) (by intros; exact Instr.noConfusion)
theorem chatterWindowExpiry (point : Fin 32) : Statement (.chatterWindowExpiry point) :=
  of_known (by intro f hf; cases hf) (by intros; exact Instr.noConfusion)
theorem stabilityWaitExpiry (point : Fin 32) : Statement (.stabilityWaitExpiry point) :=
  of_known (by intro f hf; cases hf) (by intros; exact Instr.noConfusion)
theorem quietWaitExpiry : Statement .quietWaitExpiry :=
  of_known (by intro f hf; cases hf) (by intros; exact Instr.noConfusion)
theorem burstLimitExpiry : Statement .burstLimitExpiry :=
  of_known (by intro f hf; cases hf) (by intros; exact Instr.noConfusion)
theorem qualificationComplete (tally : Fin 12) : Statement (.qualificationComplete tally) :=
  of_known (by intro f hf; cases hf) (by intros; exact Instr.noConfusion)
theorem slotDue : Statement .slotDue :=
  of_known (by intro f hf; cases hf) (by intros; exact Instr.noConfusion)
theorem releaseDeadlineExpiry : Statement .releaseDeadlineExpiry :=
  of_known (by intro f hf; cases hf) (by intros; exact Instr.noConfusion)
theorem acceptDeadlineExpiry : Statement .acceptDeadlineExpiry :=
  of_known (by intro f hf; cases hf) (by intros; exact Instr.noConfusion)
theorem alarmReached (port : Port) : Statement (.alarmReached port) :=
  of_known (by intro f hf; cases hf) (by intros; exact Instr.noConfusion)
theorem pulseGapEnd (port : Port) : Statement (.pulseGapEnd port) :=
  of_known (by intro f hf; cases hf) (by intros; exact Instr.noConfusion)
theorem mainLossWarning (order : ClosingOrder) (vbakLow : Bool) : Statement (.mainLossWarning order vbakLow) :=
  of_known (by intro f hf; cases hf) (by intros; exact Instr.noConfusion)
theorem retentionLost : Statement .retentionLost :=
  of_known (by intro f hf; cases hf) (by intros; exact Instr.noConfusion)
theorem returnQualificationStart : Statement .returnQualificationStart :=
  of_known (by intro f hf; cases hf) (by intros; exact Instr.noConfusion)
theorem returnQualificationStop : Statement .returnQualificationStop :=
  of_known (by intro f hf; cases hf) (by intros; exact Instr.noConfusion)
theorem returnOfSupply (pins : AddressPins) (resetHigh : Bool) : Statement (.returnOfSupply pins resetHigh) :=
  of_known (by intro f hf; cases hf) (by intros; exact Instr.noConfusion)
theorem resetAssertion (pins : AddressPins) (order : ClosingOrder) : Statement (.resetAssertion pins order) :=
  of_known (by intro f hf; cases hf) (by intros; exact Instr.noConfusion)
theorem resetRearm : Statement .resetRearm :=
  of_known (by intro f hf; cases hf) (by intros; exact Instr.noConfusion)
theorem oscillatorTick : Statement .oscillatorTick :=
  of_known (by intro f hf; cases hf) (by intros; exact Instr.noConfusion)
theorem setTime (port : Port) (rest : List Byte) : Statement (.setTime port rest) :=
  of_known (by intro f hf; cases hf; rfl) (by intros; exact Instr.noConfusion)

end Sys2Proof.Laws.RequestCode
end

