-- ==== Sys2Proof/Tests/Slice0.lean ====
section
/-!
SUPPORT. Tests of one step each against the worked cases and the rules of spec/ (the expected values are those of the chapter
named in each docstring), the smoke test of well-formedness, and a witness for the hypotheses of every obligation that has
some.
-/

namespace Sys2Proof.Tests

open Sys2Proof Sys2Proof.Machine

set_option Elab.async false

/-! ### Helpers -/

/-- The state after a command. -/
def after (c : Instr) (s : State) : State :=
  match exec c s with
  | .next t => t
  | _ => s

/-- The answer at a port after a command. -/
def answer (p : Port) (c : Instr) (s : State) : Response := ((after c s).port p).response

/-- The bodies of the records that a command adds. -/
def added (c : Instr) (s : State) : List RecordBody :=
  ((after c s).queue.held.drop s.queue.held.length).map fun h => h.record.body

/-- The reset state at an instant, with a quality, at the tick of a millisecond boundary. -/
def dated (date ms us : Nat) (q : Quality) : State :=
  { State.reset with
    boundaryAt := some 0
    time := { State.reset.time with date := date, ms := ms, q := us * 4096000000, quality := q } }

/-- A crew on duty through port C. -/
def crewOn (crew : Nat) (s : State) : State :=
  s.withDuty { s.duty with state := .onDuty, crew := crew, port := some .c }

/-- The state with marks running: the last accepted mark one second ago. -/
def marking (s : State) : State :=
  { s with
    elapsed := 9000 * 4096000000000
    discipline := { s.discipline with
      lastMark := some ⟨s.time.date, 0, 0⟩, lastMarkAt := some (8000 * 4096000000000)
      missingMark := some (9200 * 4096000000000) } }

/-- The state with a point's entry and debounced state. -/
def pointAs (n : Fin 32) (mode : PointMode) (debounce limit window : Nat) (active : Bool) (s : State) : State :=
  s.withPoint n ⟨⟨mode, .activeHigh, debounce, limit, window⟩, active, none, .clear⟩

/-! ### Well-formedness and decoding -/

theorem test_wellFormed_refuses_unknown_with_a_defined_code : (Instr.unknown .a 0x01 [0]).wellFormed = false := by decide

theorem test_wellFormed_accepts_unknown : (Instr.unknown .a 0x05 [0]).wellFormed = true := by decide

theorem test_wellFormed_refuses_setTime_naming_a_mode :
    (Instr.setTime .a [7, 0, 0, 0, 0, 0, 0, 2]).wellFormed = false := by decide

theorem test_wellFormed_accepts_setTime_with_another_mode :
    (Instr.setTime .a [7, 0, 0, 0, 0, 0, 0, 3]).wellFormed = true := by decide

theorem test_no_word_spells_a_command : decodeTableWord 16 0x1234 = none := rfl

/-! ### Time base (01) -/

/-- Worked case of 01: T = 13,500 ppb, each tick adds 1,000,013,500. -/
theorem test_tick_adds_the_trimmed_increment :
    (after .oscillatorTick
      (State.reset.withDiscipline { State.reset.discipline with freqTrim := 7500, slewTrim := 6000 })).time.q =
      1000013500 := by decide +kernel

/-- Worked case of 01: the 4,095th tick of millisecond 19 leaves Q = 50,610,500. -/
theorem test_boundary_leaves_the_residue :
    let s := (State.reset.withDiscipline { State.reset.discipline with freqTrim := 7500, slewTrim := 6000 }).withTime
      { State.reset.time with q := 995328000 + 4094 * 1000013500 }
    (after .millisecondBoundary s).time.q = 50610500 ∧ (after .millisecondBoundary s).time.ms = 1 := by decide +kernel

/-- R3: the boundary that ends the last millisecond of date 65,535 begins date 0. -/
theorem test_boundary_wraps_the_date :
    let s := State.reset.withTime { State.reset.time with date := 65535, ms := 86399999, q := 4095999999999 }
    ((after .millisecondBoundary s).time.date, (after .millisecondBoundary s).time.ms) = (0, 0) := by decide +kernel

/-- R107: the boundary at which the count reaches the qualify time completes the qualification. -/
theorem test_boundary_completes_the_qualification :
    let s := (State.reset.withEntry 2
      { Tally.cold with config := ⟨true, 0, 0, 5, true, true⟩, run := .qualifying, qualifyCount := 4999 }).withTime
      { State.reset.time with q := 4095000000000 }
    let t := (after .millisecondBoundary s).entry 2
    (t.run, t.runLength, t.lifetime, t.starts) = (.running, 5000, 5000, 1) ∧
      added .millisecondBoundary s = [.tallyRun 2] := by decide +kernel

/-- R17: the payload of the cold clock. -/
theorem test_readTime_cold :
    answer .b (.readTime .b [0]) State.reset = .ok [0, 0, 0, 0, 0, 0, 0, 0, 0, 0, 0, 0, 0, 0] := by decide +kernel

/-- R13: the first set makes the quality FREE, with TIME_SET before QUALITY. -/
theorem test_setTimeImmediate_first :
    added (.setTimeImmediate .a 19000 43200000) State.reset =
      [.timeSet ⟨0, 0, 0⟩ .a .immediate, .quality .unset .free] := by decide +kernel

/-- R45: an immediate set moves a debounce in progress, also one whose expiry is still to be taken at that tick; its POINT record is
dated on the new time. -/
theorem test_setTimeImmediate_moves_debounces :
    let start : Instant := ⟨19000, 43199000, 250⟩
    let s := pointAs 3 .record 10 0 10 false (dated 19000 43199010 250 .free)
    let u := fun e : Nat => after (.setTimeImmediate .a 19000 43200000)
      (s.withPoint 3 { s.point 3 with debouncing := some ⟨start, e, false⟩ })
    ((u 1).point 3).debouncing = some ⟨⟨19000, 43199990, 0⟩, 1, false⟩ ∧
      ((after (.debounceExpiry 3) (u 0)).queue.held.getLast?.map fun h => (h.record.body, h.record.instant)) =
        some (.point 3 true .change, ⟨19000, 43199990, 0⟩) := by decide +kernel

/-- Worked case of 01: the millisecond 43,200,250 is staged as 43,200,000. -/
theorem test_setTimeAtMark_stages_a_whole_second :
    (after (.setTimeAtMark .c 19000 43200250) (dated 19000 43199612 400 .free)).time.staged =
      some ⟨19000, 43200000, .c⟩ := by decide +kernel

/-- R16: WITHDRAW discards the staged set. -/
theorem test_setTimeWithdraw :
    (after (.setTimeWithdraw .c 0 0) (after (.setTimeAtMark .c 19000 43200250) (dated 19000 43199612 400 .free))).time.staged =
      none := by decide +kernel

/-- R12: a mode that names none of the three is refused with RANGE and the value. -/
theorem test_setTime_bad_mode :
    answer .a (.setTime .a [7, 0, 0, 0, 0, 0, 0, 9]) State.reset = .refused .range 0x02 9 := by decide +kernel

/-! ### Discipline (02) -/

/-- Worked case of 02, mark 1: E = -48, S = +48,000, F = +6,000, lock counter 1, ACQUIRING. -/
theorem test_mark_learns :
    let t := after .mark (marking (dated 19030 59999 952 .free))
    (t.discipline.lastOffset, t.discipline.slewTrim, t.discipline.freqTrim, t.discipline.lockCounter, t.time.quality) =
      (-48, 48000, 6000, 1, .acquiring) := by decide +kernel

/-- Worked case of 02, mark B: a step of +26,900 µs, TIME_STEP before QUALITY. -/
theorem test_mark_steps :
    let s := marking (dated 19041 52319026 900 .locked)
    (after .mark s).time.ms = 52319000 ∧ added .mark s = [.timeStep 26900, .quality .locked .acquiring] := by
  decide +kernel

/-- R21: an edge at the tick of a warm restart that went first is not taken. -/
theorem test_mark_after_a_restart :
    let s := after (.restart .a [0] ⟨false, false, false⟩ .tripFirst) (marking (dated 19030 59999 952 .free))
    after .mark s = s ∧ after .mark { s with elapsed := s.elapsed + 1000000000 } ≠ { s with elapsed := s.elapsed + 1000000000 } := by
  decide +kernel

/-- Worked case of 02: the missing-mark timeout takes LOCKED to HOLDOVER and S to 0. -/
theorem test_missing_mark :
    let s := { marking (dated 19040 30001200 0 .locked) with elapsed := 9200 * 4096000000000 }
    (after .missingMarkTimeout (s.withDiscipline { s.discipline with slewTrim := 3000 })).discipline.slewTrim = 0 ∧
      added .missingMarkTimeout s = [.quality .locked .holdover] := by decide +kernel

/-- Worked case of 02: the holdover limit of 3,600 s takes HOLDOVER to FREE. -/
theorem test_holdover_limit :
    added .holdoverLimitExpiry { marking (dated 19040 33600000 0 .holdover) with elapsed := 3608000 * 4096000000000 } =
      [.quality .holdover .free] := by decide +kernel

/-- R36: every setting is clamped. -/
theorem test_setDiscipline_clamps :
    (after (.setDiscipline .a [10, 5, 0, 0, 0, 9, 65, 0, 0, 0, 59]) State.reset).discipline.settings =
      ⟨true, 1, 10, 64, 60⟩ := by decide +kernel

/-- R37: the cold settings read back, step enable on and holdover limit 3,600 s. -/
theorem test_readDiscipline_cold :
    (disciplinePayload State.reset).drop 26 = [1, 0, 20, 0, 100, 8, 0, 0, 14, 16] := by decide +kernel

/-! ### Points (03) -/

/-- Worked case of 03: the third fall begins the debounce that is confirmed, at 50,400,122.300. -/
theorem test_edge_starts_the_debounce :
    ((after (.pointEdge 3 true) (pointAs 3 .trip 10 0 10 false (dated 19050 50400122 300 .free))).point 3).debouncing =
      some ⟨⟨19050, 50400122, 300⟩, 10 * 4096000000000, false⟩ := by decide +kernel

/-- R43: the edge back cancels it. -/
theorem test_edge_cancels_the_debounce :
    let s := after (.pointEdge 3 true) (pointAs 3 .trip 10 0 10 false (dated 19050 50400121 540 .free))
    ((after (.pointEdge 3 false) s).point 3).debouncing = none := by decide +kernel

/-- The state of the worked trip of 04 before point 5 is confirmed: points 14 and 9 ranked in burst 318. -/
def tripping : State :=
  let s := pointAs 5 .trip 30 0 10 false (dated 19060 36000032 710 .free)
  let s := s.withPoint 5 { s.point 5 with debouncing := some ⟨⟨19060, 36000002, 710⟩, 0, false⟩ }
  s.withTrip { s.trip with
    burst := some ⟨318, 600 * 4096000000000, 10000 * 4096000000000⟩
    lastBurst := 318
    latch := .provisional
    latchingBurst := 318
    ranked := [⟨14, ⟨19060, 36000004, 150⟩, 0⟩, ⟨9, ⟨19060, 36000012, 480⟩, 1⟩] }

/-- Worked case of 04: the overspeed switch takes rank 1, its entry is ACTIVE_UNACK, its record carries burst 318. -/
theorem test_debounce_expiry_ranks_first :
    let t := after (.debounceExpiry 5) tripping
    t.trip.ranked.map (fun e => e.point) = [5, 14, 9] ∧ t.trip.entry 5 = .activeUnack ∧
      added (.debounceExpiry 5) tripping = [.point 5 true .change] ∧ (t.port .a).pending.has .firstOut = true := by
  decide +kernel

/-- Worked case of 03: the fourth change takes the count to 4, above the limit of 3. -/
theorem test_debounce_expiry_suppresses :
    let s := pointAs 12 .record 20 3 5 true State.reset
    let s := s.withPoint 12
      { s.point 12 with debouncing := some ⟨.zero, 0, false⟩, chatter := .counting 3 (5 * 1000 * 4096000000000) }
    added (.debounceExpiry 12) s = [.chatter 12 .suppressed 4] ∧ ((after (.debounceExpiry 12) s).point 12).active = true ∧
      ((after (.debounceExpiry 12) s).point 12).chatter = .suppressed 0 (5000 * 4096000000000) := by decide +kernel

/-- R49: the window of a COUNTING point closes with no record. -/
theorem test_window_expiry :
    let s := pointAs 12 .record 20 3 5 true State.reset
    let s := s.withPoint 12 { s.point 12 with chatter := .counting 2 0 }
    ((after (.chatterWindowExpiry 12) s).point 12).chatter = .clear ∧ added (.chatterWindowExpiry 12) s = [] := by
  decide +kernel

/-- Worked case of 03: RELEASED with 2 edges, then an AFTER_CHATTER change to inactive. -/
theorem test_stability_expiry :
    let s := pointAs 12 .record 20 3 5 true State.reset
    let s := s.withPoint 12 { s.point 12 with chatter := .suppressed 2 0 }
    added (.stabilityWaitExpiry 12) s = [.chatter 12 .released 2, .point 12 false .afterChatter] := by decide +kernel

/-- R42, R52: the settings are clamped, a chatter limit of 1 to 2, and given back. -/
theorem test_setPoint_clamps :
    answer .a (.setPoint .a [9, 7, 3, 1, 1, 44, 0, 1, 0, 0]) State.reset = .ok [7, 3, 1, 250, 2, 1] := by decide +kernel

/-- R54: a latched first-out freezes the points. -/
theorem test_setPoint_frozen :
    answer .a (.setPoint .a [9, 7, 3, 1, 1, 44, 0, 1, 0, 0]) tripping = .refused .frozen 0x11 7 := by decide +kernel

/-- R53: the field is written in the mask alone. -/
theorem test_setPoints_writes_the_mask :
    let t := after (.setPoints .a [7, 128, 0, 0, 1, 2, 0, 5]) State.reset
    ((t.point 0).entry.debounce, (t.point 1).entry.debounce, (t.point 31).entry.debounce) = (5, 10, 5) := by decide +kernel

/-- R57: a count that passes point 31 is shortened. -/
theorem test_readPoints_shortens :
    answer .a (.readPoints .a [2, 31, 8]) State.reset = .ok [31, 1, 0, 0, 10, 0, 10, 0, 0, 0, 0, 0, 0, 0, 0, 0, 0, 0, 0] := by
  decide +kernel

/-! ### Trips (04) -/

/-- Worked case of 04: the FIRST_OUT record ranks 5, 14, 9, 8 with their offsets. -/
theorem test_quiet_wait_expiry :
    let s := tripping.withTrip { tripping.trip with
      burst := some ⟨318, 0, 10000 * 4096000000000⟩
      ranked := [⟨5, ⟨19060, 36000002, 710⟩, 2⟩, ⟨14, ⟨19060, 36000004, 150⟩, 0⟩, ⟨9, ⟨19060, 36000012, 480⟩, 1⟩,
        ⟨8, ⟨19060, 36000061, 300⟩, 3⟩] }
    added .quietWaitExpiry s =
      [.firstOut ⟨19060, 36000002, 710⟩ 0 [(5, 0), (14, 1440), (9, 9770), (8, 58590)]] := by decide +kernel

/-- R64: at its 10 s limit the burst closes, and the next one has the next number. -/
theorem test_burst_limit_expiry :
    let t := after .burstLimitExpiry
      (State.reset.withTrip { State.reset.trip with burst := some ⟨318, 4096000000000, 0⟩, lastBurst := 318 })
    t.trip.burst = none ∧ t.trip.lastBurst = 318 := by decide +kernel

/-- The state of the worked acknowledgement of 04. -/
def tripped : State :=
  let s := crewOn 3 (dated 19060 40000000 0 .free)
  s.withTrip { s.trip with
    lastBurst := 318
    latch := .final
    latchingBurst := 318
    ranked := [⟨5, ⟨19060, 36000002, 710⟩, 2⟩]
    annunciation := (((s.trip.annunciation.set 5 .returnedUnack).set 8 .activeUnack).set 9 .activeUnack).set 14
      .returnedUnack }

/-- Worked case of 04: ACK_TRIPS from port C by crew 3, all. -/
theorem test_ackTrips_all :
    let t := after (.ackTrips .c [6, 3, 1, 0, 0, 0, 0]) tripped
    (t.trip.entry 5, t.trip.entry 8, t.trip.entry 9, t.trip.entry 14) = (.normal, .activeAck, .activeAck, .normal) ∧
      added (.ackTrips .c [6, 3, 1, 0, 0, 0, 0]) tripped = [.ack 3 .c [5, 8, 9, 14]] := by decide +kernel

/-- Worked case of 04: the reset returns the latch to ARMED with its record. -/
theorem test_resetFirstOut :
    (after (.resetFirstOut .c [1, 3]) tripped).trip.latch = .armed ∧
      added (.resetFirstOut .c [1, 3]) tripped = [.firstOutReset 3] := by decide +kernel

/-- Worked case of 04: the same request from port A is refused with NOT_DUTY. -/
theorem test_resetFirstOut_from_another_port :
    answer .a (.resetFirstOut .a [1, 3]) tripped = .refused .notDuty 0x1B 3 := by decide +kernel

/-- R67: the quiet time is clamped. -/
theorem test_setBurst_clamps : answer .a (.setBurst .a [2, 0, 10]) State.reset = .ok [0, 50] := by decide +kernel

/-- R79: the cold first-out. -/
theorem test_readFirstOut_cold :
    answer .b (.readFirstOut .b [0]) State.reset = .ok (List.replicate 19 0) := by decide +kernel

/-- R80: 32 entries and two counts. -/
theorem test_readAnnunciation_cold :
    answer .b (.readAnnunciation .b [0]) State.reset = .ok (List.replicate 36 0) := by decide +kernel

/-! ### Event queue (05) -/

/-- Worked case of 05: a lost record shows as a gap of 1 with no records. -/
theorem test_readEvents_reports_the_gap :
    let s := State.reset.withQueue { State.reset.queue with held := [], tailGap := .const 1 }
    answer .a (.readEvents .a [1, 8]) s = .ok [0, 1, 0, 0] := by decide +kernel

/-- A held record for port B, of a body. -/
def heldForB (body : RecordBody) : Held := ⟨⟨0, .zero, .free, 0, false, false, body⟩, ⟨none, some 0, none⟩⟩

/-- Worked case of 05: five records in 232 bytes; two remain. -/
theorem test_readEvents_sizes_the_response :
    let held :=
      [heldForB (.firstOut .zero 0 (List.replicate 16 (1, 2))), heldForB (.ack 3 .a (List.range 20)),
        heldForB (.tallyPreset 1 2 3 4 5 6), heldForB (.timeSet .zero .a .immediate), heldForB (.point 1 true .change),
        heldForB (.point 1 false .change), heldForB (.quality .free .locked)]
    let s := State.reset.withQueue { State.reset.queue with held := held }
    (match answer .b (.readEvents .b [1, 8]) s with
      | .ok payload => (payload.length, payload.take 4)
      | _ => (0, [])) = (232, [0, 0, 5, 2]) := by decide +kernel

/-- R98: the records that no port wants leave with the last of their readers. -/
theorem test_subscribe_off :
    let s := State.reset.withQueue { State.reset.queue with held := [heldForB (.tallyRun 1)] }
    (after (.subscribe .b [1, 0]) s).queue.held = [] := by decide +kernel

/-- R92: a value that names no mode is refused with RANGE. -/
theorem test_setQueueMode_range :
    answer .a (.setQueueMode .a [1, 2]) State.reset = .refused .range 0x22 2 := by decide +kernel

/-! ### Tallies (06) -/

/-- A tally in use on no input, with its condition true, and other fields. -/
def tallyAs (i : Fin 12) (f : Tally → Tally) (s : State) : State :=
  s.withEntry i (f { Tally.cold with config := ⟨true, 0, 0, 5, true, true⟩ })

/-- Worked case of 06: the 5,000th boundary completes the qualification. -/
theorem test_qualification_complete :
    let s := tallyAs 2
      (fun t => { t with run := .qualifying, qualifyCount := 5000, lifetime := 12336673901, starts := 1207 }) State.reset
    let t := (after (.qualificationComplete 2) s).entry 2
    (t.run, t.runLength, t.lifetime, t.starts, t.shiftPortion, t.shiftStarts) =
      (.running, 5000, 12336678901, 1208, 5000, 1) ∧ added (.qualificationComplete 2) s = [.tallyRun 2] := by
  decide +kernel

/-- R104: the qualify time is clamped to 60 s, and a true condition begins to qualify. -/
theorem test_setTally_clamps :
    let t := (after (.setTally .a [15, 11, 1, 0, 0, 0, 0, 0, 0, 0, 0, 0, 0, 61, 0, 0]) State.reset).entry 11
    (t.config.qualifyTime, t.run) = (60, .qualifying) := by decide +kernel

/-- R113, R114: a due value that the lifetime has reached turns due pending on. -/
theorem test_setDue_turns_on :
    added (.setDue .a [7, 1, 0, 0, 0, 0, 0, 9]) (tallyAs 1 (fun t => { t with lifetime := 9 }) State.reset) =
      [.tallyDue 1 9] := by decide +kernel

/-- Worked case of 06: a preset in RUNNING is staged with its crew. -/
theorem test_presetTally_stages :
    let s := crewOn 3 (tallyAs 5
      (fun t => { t with run := .running, lifetime := 800000000, starts := 4210, dueValue := 720000000, duePending := true })
      State.reset)
    let t := (after (.presetTally .c [12, 3, 5, 0, 0, 0, 0, 0, 0, 0, 0, 0, 0]) s).entry 5
    (t.staged, t.lifetime, t.duePending) = (some ⟨0, 0, 3⟩, 800000000, true) := by decide +kernel

/-- Worked case of 06: 12,345,678,901 ms read as 34,293 tenths, and as 3,429 h 21 min 18.901 s. -/
theorem test_readTally_hours :
    ((tallyPayload 2 (tallyAs 2 (fun t => { t with lifetime := 12345678901 }) State.reset)).drop 29).take 12 =
      [0, 0, 0x85, 0xF5, 0, 0, 0x0D, 0x65, 21, 18, 3, 0x85] := by decide +kernel

/-! ### Duty (07) and the shift book (08) -/

/-- The rota of the worked case of 07. -/
def threeSlots : List Slot := [⟨360, 1⟩, ⟨840, 2⟩, ⟨1320, 3⟩]

/-- The worked case of 07, with crew 1 on duty through port C, at a millisecond of date 19,100. -/
def shift (ms : Nat) : State :=
  let s := crewOn 1 (dated 19100 ms 0 .locked)
  s.withDuty { s.duty with rota := threeSlots, lastServed := some ⟨19100, 21600000, 0⟩ }

/-- The worked case of 07 after the slot has fallen due. -/
def handing (ms : Nat) : State :=
  let s := shift ms
  s.withDuty { s.duty with
    state := .due, lastServed := some ⟨19100, 50400000, 0⟩
    handover := ⟨some 1, 2, some ⟨19100, 54000000, 0⟩, none, false, 0⟩ }

/-- The worked case of 07 after the release. -/
def releasedAt (ms : Nat) : State :=
  let s := handing ms
  s.withDuty { s.duty with
    state := .released, handover := { s.duty.handover with acceptDeadline := some ⟨19100, 51330250, 0⟩ } }

/-- Worked case of 07: the 14:00 slot falls due. -/
theorem test_slot_due :
    (after .slotDue (shift 50400000)).duty = (handing 50400000).duty ∧
      added .slotDue (shift 50400000) = [.handover .due 1 2 (some 1) 0 0] := by decide +kernel

/-- Worked case of 07: the release at 51,030,250 sets the accept deadline 51,330,250. -/
theorem test_releaseDuty :
    (after (.releaseDuty .c [1, 1]) (handing 51030250)).duty = (releasedAt 51030250).duty := by decide +kernel

/-- Worked case of 07: crew 3 is refused with CREW, detail 2. -/
theorem test_acceptDuty_wrong_crew :
    answer .c (.acceptDuty .c [1, 3]) (releasedAt 51100000) = .refused .crew 0x32 2 := by decide +kernel

/-- Worked case of 07: crew 2 is accepted, with its record and its shift book record. -/
theorem test_acceptDuty :
    let t := after (.acceptDuty .c [1, 2]) (releasedAt 51125000)
    (t.duty.state, t.duty.crew) = (.onDuty, 2) ∧
      t.book.records.map (fun r => (r.outgoing, r.incoming, r.slot, r.shiftEnd)) = [(1, 2, some 1, ⟨19100, 51125000, 0⟩)] := by
  decide +kernel

/-- Worked case of 07: the first expiry re-offers until 51,630,250. -/
theorem test_accept_deadline_reoffers :
    (after .acceptDeadlineExpiry (releasedAt 51330250)).duty.handover.acceptDeadline = some ⟨19100, 51630250, 0⟩ ∧
      added .acceptDeadlineExpiry (releasedAt 51330250) = [.handover .reoffered 1 2 (some 1) 1 0] := by decide +kernel

/-- Worked case of 07: the third expiry lapses back to crew 1. -/
theorem test_accept_deadline_lapses :
    let s := releasedAt 51930250
    let s := s.withHandover { s.duty.handover with reoffers := 2 }
    added .acceptDeadlineExpiry s = [.handover .lapsedRevert 1 1 (some 1) 2 0] := by decide +kernel

/-- R137: the release deadline makes the handover overdue. -/
theorem test_release_deadline :
    let t := after .releaseDeadlineExpiry (handing 54000000)
    (t.duty.handover.overdue, t.duty.handover.releaseDeadline) = (true, none) := by decide +kernel

/-- R134: a handover opened by hand expects no crew, and its release deadline is an hour on. -/
theorem test_openHandover :
    (after (.openHandover .c [1, 1]) (shift 30000000)).duty.handover =
      ⟨none, 0, some ⟨19100, 33600000, 0⟩, none, false, 0⟩ := by decide +kernel

/-- R136: the reclaimed handover is DUE again. -/
theorem test_reclaimDuty :
    (after (.reclaimDuty .c [1, 1]) (releasedAt 51100000)).duty = (handing 51100000).duty := by decide +kernel

/-- R127: the deadline that passed while the handover was released passes at the next boundary, not at the reclaim. -/
theorem test_reclaim_past_the_release_deadline :
    let s := after (.reclaimDuty .c [1, 1]) (releasedAt 54000000)
    let s := { s.withTime { s.time with q := 4095000000000 } with boundaryAt := none }
    (after .oscillatorTick (s.withTime { s.time with q := 0 })).duty.handover.overdue = false ∧
      (after .millisecondBoundary s).duty.handover.overdue = true := by decide +kernel

/-- The state one tick before its next millisecond boundary, and then after that tick, with the boundary still to be taken. -/
def atNextBoundary (s : State) : State :=
  after .oscillatorTick { s.withTime { s.time with q := 4095999999999 } with boundaryAt := none }

/-- R141: an OPEN_HANDOVER that goes before the slot of its tick opens, and the slot then retargets it; after the slot it is refused. -/
theorem test_open_and_slot_at_one_tick :
    let s := atNextBoundary (shift 50399999)
    let t := after (.openHandover .c [1, 1]) s
    s.now = ⟨19100, 50400000, 0⟩ ∧ t.duty.handover.releaseDeadline = some ⟨19100, 54000000, 0⟩ ∧
      added .millisecondBoundary t = [.handover .skipped 1 2 (some 1) 0 0] ∧
      added .millisecondBoundary s = [.handover .due 1 2 (some 1) 0 0] ∧
      answer .c (.openHandover .c [1, 1]) (after .millisecondBoundary s) = .refused .state 0x33 0 := by decide +kernel

/-- R140: a RELEASE_DUTY that goes before the release deadline of its tick leaves nothing to expire; after it the handover is
overdue. -/
theorem test_release_and_deadline_at_one_tick :
    let s := atNextBoundary (handing 53999999)
    let t := after .millisecondBoundary (after (.releaseDuty .c [1, 1]) s)
    (t.duty.state, t.duty.handover.overdue, t.duty.handover.acceptDeadline) =
      (.released, false, some ⟨19100, 54300000, 0⟩) ∧
      (after (.releaseDuty .c [1, 1]) (after .millisecondBoundary s)).duty.handover.overdue = true := by decide +kernel

/-- R140: of an acceptance and a reclaim at one tick the second is refused with STATE; a tick later the reclaim has NOT_DUTY. -/
theorem test_accept_and_reclaim_at_one_tick :
    let s := releasedAt 51125000
    let t := after (.acceptDuty .a [1, 2]) s
    answer .c (.reclaimDuty .c [1, 1]) t = .refused .state 0x35 0 ∧
      answer .c (.reclaimDuty .c [1, 1]) (after .oscillatorTick t) = .refused .notDuty 0x35 0 ∧
      answer .a (.acceptDuty .a [1, 2]) (after (.reclaimDuty .c [1, 1]) s) = .refused .state 0x32 2 := by decide +kernel

/-- R146: a restart at the tick of a boundary finds nothing that the boundary has not found. -/
theorem test_restart_after_the_boundary_of_its_tick :
    ((after (.restart .a [0] ⟨false, false, false⟩ .tripFirst) (atNextBoundary (handing 53999999))).queue.held.map fun h =>
      (h.record.body, h.record.outage)).drop 1 =
      [(.handover .overdue 1 2 (some 1) 0 0, false),
        (.power .restartRequest (some ⟨19100, 54000000, 0⟩) .locked .locked, false)] := by decide +kernel

/-- R125: a start minute not above the one before it is refused with its slot. -/
theorem test_setRota_order :
    answer .a (.setRota .a [8, 1, 2, 3, 72, 1, 1, 104, 2]) State.reset = .refused .range 0x31 1 := by decide +kernel

/-- R126: in VACANT a rota is applied at once. -/
theorem test_setRota_applies :
    (after (.setRota .a [8, 1, 2, 1, 104, 1, 3, 72, 2]) State.reset).duty.rota = [⟨360, 1⟩, ⟨840, 2⟩] := by decide +kernel

/-- R144: the windows and the limit are clamped. -/
theorem test_setHandover_clamps :
    answer .a (.setHandover .a [5, 241, 0, 8, 1, 15]) State.reset = .ok [240, 1, 7, 1, 15] := by decide +kernel

/-- R145: the payload begins with state, crew and port. -/
theorem test_readDuty_head :
    (match answer .b (.readDuty .b [0]) (handing 50400000) with
      | .ok payload => payload.take 5
      | _ => []) = [2, 1, 0x43, 1, 2] := by decide +kernel

/-- R152: an age that names no record is refused with BAD_INDEX. -/
theorem test_readShiftBook_empty :
    answer .b (.readShiftBook .b [2, 0, 0]) State.reset = .refused .badIndex 0x38 0 := by decide +kernel

/-! ### Notices and ports (09, 10) -/

/-- Port B in PULSE style with an inactive line and nothing pending but the notices given. -/
def pulseAtB (pending : NoticeSet) (line : Line) : State :=
  State.reset.withPort .b { State.reset.port .b with style := .pulse, pending := pending, line := line }

/-- Worked case of 09: FIRST_OUT cleared while EVENTS remains gives a gap of 50 µs. -/
theorem test_clearNotices_gives_a_gap :
    ((after (.clearNotices .b [1, 1]) (pulseAtB 0x41 .active)).port .b).line = .gap (50 * 4096000000) := by decide +kernel

/-- Worked case of 09: FIRST_OUT cleared with nothing else leaves the line inactive with no gap. -/
theorem test_clearNotices_ends_the_line :
    ((after (.clearNotices .b [1, 1]) (pulseAtB 0x01 .active)).port .b).line = .inactive := by decide +kernel

/-- Worked case of 09: the top notice is FIRST_OUT. -/
theorem test_readNotices_top :
    answer .b (.readNotices .b [0]) (pulseAtB 0x41 .active) = .ok [0x41, 0x7F, 1, 0, 1] := by decide +kernel

/-- R165: the end of the gap drives the line active. -/
theorem test_pulse_gap_end : ((after (.pulseGapEnd .b) (pulseAtB 0x41 (.gap 0))).port .b).line = .active := by
  decide +kernel

/-- R161: a style that names neither is refused with RANGE. -/
theorem test_setNotices_range :
    answer .b (.setNotices .b [2, 0, 2]) State.reset = .refused .range 0x41 2 := by decide +kernel

/-- R160: an alarm that the clock has reached is pending at once. -/
theorem test_setAlarm_reached :
    answer .b (.setAlarm .b [7, 1, 0, 5, 0, 0, 0, 9]) (dated 5 9 0 .free) =
      .ok [1, 0, 5, 0, 0, 0, 9, 0, 0, 1] := by decide +kernel

/-- R159: the alarm compare holds in no UNSET clock. -/
theorem test_alarm_reached :
    let s := fun q : Quality => (dated 5 9 0 q).withPort .b { State.reset.port .b with alarm := some ⟨5, 9, 0⟩ }
    ((after (.alarmReached .b) (s .free)).port .b).pending.has .alarm = true ∧
      ((after (.alarmReached .b) (s .unset)).port .b).pending.has .alarm = false := by decide +kernel

/-- Worked case of 10: DUTY cannot be taken from the duty port. -/
theorem test_setRights_keeps_duty :
    answer .a (.setRights .a [4, 0x43, 5, 0x0F, 0xFF]) (crewOn 2 State.reset) = .refused .state 0x49 1 := by decide +kernel

/-- R176: identity 620, revision 1, port C, its address and its cold rights. -/
theorem test_readPort_head :
    (portPayload .c State.reset).take 9 = [2, 108, 1, 0x43, 0x52, 13, 0x0F, 0xFF, 1] := by decide +kernel

/-- Worked case of 10: a frame of 6 bytes whose length says 6 arguments. -/
theorem test_frame_shape :
    answer .c (.ackTrips .c [6, 2, 1, 0, 0]) (crewOn 2 State.reset) = .refused .frame 0x1C 6 := by decide +kernel

/-- R170: a code that names no request. -/
theorem test_unknown : answer .c (.unknown .c 0x7E [0]) State.reset = .refused .unknown 0x7E 0x7E := by decide +kernel

/-- R169: the discarded frame leaves the response. -/
theorem test_repeated_start :
    (after (.repeatedStartDiscard .c [0x1C, 6]) State.reset).ports = State.reset.ports := by decide +kernel

/-! ### Supplies (11) -/

/-- Worked case of 11: the warning closes the burst with its FIRST_OUT record and writes the start. -/
theorem test_main_loss :
    let t := after (.mainLossWarning .tripFirst false) tripping
    (t.supply.state, t.supply.outageStart, t.trip.latch, (t.port .a).pending) =
      (.backup, some ⟨19060, 36000032, 710⟩, .final, 0) := by decide +kernel

/-- The part in BACKUP with the return qualification run. -/
def returning (valid : Bool) : State :=
  { after (.mainLossWarning .tripFirst false) (dated 19120 48000150 220 .locked) with
    supply := { State.reset.supply with
      state := .backup, qualification := some 0, retentionValid := valid
      outageStart := some ⟨19120, 48000150, 220⟩, qualityAtStart := .locked } }

/-- Worked case of 11: the POWER record of the return. -/
theorem test_return :
    added (.returnOfSupply ⟨false, false, false⟩ true) (returning true) =
      [.power .outage (some ⟨19120, 48000150, 220⟩) .locked .locked] := by decide +kernel

/-- Worked case of 11: with retention lost the return is a cold start. -/
theorem test_cold_start :
    after (.returnOfSupply ⟨false, false, false⟩ true) (returning false) = State.reset := by decide +kernel

theorem test_retention_lost : (after .retentionLost (returning true)).supply.retentionValid = false := by decide +kernel

/-- R180: 50 ms of elapsed time. -/
theorem test_return_qualification :
    let s := after .returnQualificationStop (returning true)
    s.supply.qualification = none ∧
      (after .returnQualificationStart s).supply.qualification = some (50 * 4096000000000) := by decide +kernel

/-- R185: a line high at tick 0 and low from tick 1 has been low for 100 µs (409.6 ticks) at tick 411 and not at tick 410; an
assertion that is recognised leaves recognition waiting until the line is seen high. -/
theorem test_reset_assertion :
    let c := Instr.resetAssertion ⟨true, false, false⟩ .tripFirst
    let t := after c { State.reset with elapsed := 411000000000 }
    t.supply.resetArmed = false ∧ (t.port .a).address = 0x53 ∧ (after .resetRearm t).supply.resetArmed = true ∧
      after c { State.reset with elapsed := 410000000000 } = { State.reset with elapsed := 410000000000 } := by
  decide +kernel

/-- R177: RESTART leaves OK with length 0 at port A. -/
theorem test_restart :
    answer .a (.restart .a [0] ⟨false, false, false⟩ .tripFirst) State.reset = .ok [] ∧
      answer .b (.restart .b [0] ⟨false, false, false⟩ .tripFirst) State.reset = .refused .denied 0x4F 0 := by
  decide +kernel

/-! ### Witnesses: states and operands that meet the hypotheses of each obligation

A clause with hypotheses of its own has a witness at a boundary of its range. -/

theorem witness_StepRunsTheFrontCommand : State.reset.pending = [] := by decide +kernel

theorem witness_ColdStartTakesColdValues :
    (returning false).running = false ∧ (returning false).supply.retentionValid = false ∧
      (returning false).supply.qualification = some 0 ∧ 0 ≤ (returning false).elapsed := by decide +kernel

/-- BACKUP, the four clauses of the frame checks, and a refusal. -/
theorem witness_FramesAreCheckedAndRefusalsChangeOnlyTheirPort :
    frameOf (.readTime .a []) = some ⟨.a, 0x01, []⟩ ∧ State.reset.running = true ∧ (returning true).running = false ∧
      (frameOf (.unknown .b 0x05 [0]) = some ⟨.b, 0x05, [0]⟩ ∧ requestCodes.contains 0x05 = false) ∧
      (frameOf (.setBurst .a [3, 0, 0, 0]) = some ⟨.a, 0x1A, [3, 0, 0, 0]⟩ ∧ fixedLength 0x1A = some 2 ∧
        ([3, 0, 0, 0] : List Byte).length ≠ 2 + 1) ∧
      frameOf (.setRota .a [1, 0]) = some ⟨.a, 0x31, [1, 0]⟩ ∧ ([1, 0] : List Byte).length < 3 ∧
      (after (.readTime .a []) State.reset).port .a =
        { State.reset.port .a with
          response := .refused .frame 0x01 1, refusal := some ⟨0x01, .frame, 1, ⟨0, 0, 0⟩⟩ } := by decide +kernel

/-! Invariants: each holds in a state that is not the reset state, with a command waiting. -/

/-- A state with a command that waits. -/
def waiting (s : State) : State := { s with pending := [.oscillatorTick] }

theorem step_waiting (s : State) : step (waiting s) = .next (tick { s with pending := [] }) := rfl

theorem witness_StepKeepsTheClockInRange :
    let s := waiting (State.reset.withTime { State.reset.time with
      date := 65535, ms := 86399999, q := 4095999999999, staged := some ⟨65535, 86399000, .c⟩ })
    ClockInRange s ∧ ∃ t, step s = .next t := by
  refine ⟨⟨by decide, by decide, by decide, by decide, by decide, ?_⟩, _, step_waiting _⟩
  rintro x ⟨⟩
  decide

/-- Two records in port A's stream, one lost between them, and one lost after them. -/
def gapped : State :=
  State.reset.withQueue { State.reset.queue with
    held := [⟨.powerCold, .const (some 0)⟩,
      ⟨⟨2, .zero, .free, 0, false, false, .tallyRun 1⟩, ⟨some 1, none, some 1⟩⟩]
    seq := 4
    tailGap := ⟨1, 3, 1⟩ }

theorem witness_StepKeepsTheQueueInOrder : QueueInOrder (waiting gapped) ∧ ∃ t, step (waiting gapped) = .next t := by
  refine ⟨⟨by decide, by decide, ?_, ?_⟩, _, step_waiting _⟩
  · intro h hh
    fin_cases hh <;> refine ⟨by decide, by decide, ?_⟩ <;> intro p <;> cases p <;> decide
  intro p
  cases p
  · refine ⟨⟨fun _ => by decide, trivial⟩, ?_⟩; rintro last ⟨⟩; decide
  · refine ⟨trivial, ?_⟩; rintro last ⟨⟩; decide
  · refine ⟨⟨fun _ => by decide, trivial⟩, ?_⟩; rintro last ⟨⟩; decide

theorem witness_StepKeepsTheLatchCoherent : LatchCoherent (waiting tripping) ∧ ∃ t, step (waiting tripping) = .next t := by
  refine ⟨⟨by decide, fun _ => ⟨_, rfl, by decide⟩, by decide, ?_, by decide, by decide, by decide, ?_⟩, _,
    step_waiting _⟩
  · unfold Ranking; decide
  rintro b ⟨⟩
  decide

/-- A TRIP point with a standing entry. -/
def standing : State :=
  let s := pointAs 8 .trip 10 0 10 true State.reset
  s.withTrip { s.trip with annunciation := s.trip.annunciation.set 8 .activeAck }

theorem witness_StepKeepsAnnunciationOnTripPoints :
    AnnunciationCoherent (waiting standing) ∧ ∃ t, step (waiting standing) = .next t := by
  refine ⟨?_, _, step_waiting _⟩
  unfold AnnunciationCoherent
  decide +kernel

theorem witness_StepKeepsTheDutyRecord : DutyCoherent (waiting (releasedAt 51100000)) := by
  refine ⟨by decide, fun _ => ⟨by decide, by decide, .c, by decide, by decide⟩, by decide, by decide, by decide, by decide,
    by decide, ?_, ⟨by decide, ?_, by decide⟩, ?_, by decide, by decide, by decide, by decide⟩
  · rintro k ⟨⟩; decide
  · intro x hx; fin_cases hx <;> exact ⟨by decide, by decide⟩
  · rintro r ⟨⟩

/-- Two shift book records that join. -/
def twoShifts : State :=
  let r : BookRecord := ⟨412, ⟨19100, 0, 0⟩, ⟨19100, 21640512, 406⟩, 9, 1, none, 0, false, 0, 0, .armed, [], []⟩
  State.reset.withBook
    ⟨[{ r with number := 413, shiftStart := r.shiftEnd, shiftEnd := ⟨19100, 51125000, 731⟩ }, r], 414,
      ⟨19100, 51125000, 731⟩⟩

theorem witness_StepKeepsTheShiftBook : BookInOrder (waiting twoShifts) ∧ ∃ t, step (waiting twoShifts) = .next t := by
  refine ⟨⟨by decide, ⟨by decide, by decide, trivial⟩, ?_⟩, _, step_waiting _⟩
  rintro r ⟨⟩
  decide

theorem witness_StepKeepsAttentionWithTheNotices :
    AttentionFollows (waiting (pulseAtB 0x41 (.gap 5))) ∧ ∃ t, step (waiting (pulseAtB 0x41 (.gap 5))) = .next t := by
  refine ⟨?_, _, step_waiting _⟩
  intro p
  cases p
  · exact ⟨by show _ = plainLine _; decide, by decide, by decide⟩
  · exact ⟨trivial, by decide, by decide⟩
  · exact ⟨by show _ = plainLine _; decide, by decide, by decide⟩

/-- A running tally with a staged preset. -/
def brakes : State :=
  tallyAs 5
    (fun t => { t with
      run := .running, lifetime := 800000000, starts := 4210, dueValue := 720000000, duePending := true
      staged := some ⟨0, 0, 3⟩ })
    State.reset

theorem witness_StepKeepsTalliesWithTheirConditions :
    TalliesFollow (waiting brakes) ∧ ∃ t, step (waiting brakes) = .next t := by
  refine ⟨⟨?_, ?_⟩, _, step_waiting _⟩
  · have other : ∀ i : Fin 12, i ≠ 5 → (waiting brakes).entry i = Tally.cold := by decide +kernel
    intro i
    by_cases hi : i = 5
    · subst hi
      refine ⟨by decide +kernel, by decide +kernel, by decide +kernel, by decide +kernel, by decide +kernel,
        by decide +kernel, by decide +kernel, ?_⟩
      rintro x ⟨⟩
      decide +kernel
    · rw [other i hi]
      exact ⟨by decide, by decide, by decide, by decide, by decide, by decide, by decide, by rintro x ⟨⟩⟩
  · decide +kernel

/-! Ticks. -/

/-- The last tick below the modulus and the first that reaches it, and a tick with retention lost, with and without a
qualification. -/
theorem witness_TickAddsTheTrimmedIncrement :
    (let u := settle (State.reset.withTime { State.reset.time with q := 4094999999999 });
      u.retentionRuns = true ∧ u.time.q + (1000000000 + u.trim).toNat = 4096000000000 - 1) ∧
    (let u := settle (State.reset.withTime { State.reset.time with q := 4095000000000 });
      u.retentionRuns = true ∧ u.time.q + (1000000000 + u.trim).toNat = 4096000000000) ∧
    (let s := (returning false).withSupply { (returning false).supply with qualification := some 1 };
      (settle s).retentionRuns = false ∧ (settle s).supply.qualification.isSome = true) ∧
    (let s := (returning false).withSupply { (returning false).supply with qualification := none };
      (settle s).retentionRuns = false ∧ (settle s).supply.qualification = none) := by decide +kernel

/-- A cold duty unit has nothing that falls due. -/
theorem nothingFallsDue_of_cold (v : State) (h : v.duty = DutyUnit.cold) : NothingFallsDue v := by
  refine ⟨fun d hd => ?_, fun d hd => ?_, .inr fun x hx => ?_⟩ <;> rw [h] at * <;> simp_all [DutyUnit.cold, mostRecentSlot, numbered]

/-- The first sum that reaches the modulus, in RUN, with an idle, a qualifying, a completing and a running tally, due pending that
turns on at it and nothing that falls due; with a paused unit; and in BACKUP; a boundary that waits and one that has been taken. -/
theorem witness_BoundaryAdvancesTheClockAndTheTallies :
    let s := (tallyAs 2 (fun t => { t with run := .qualifying, qualifyCount := 4998 }) brakes).withTime
      { State.reset.time with q := 4095000000000 }
    let u := settle (tallyAs 3 (fun t => { t with run := .qualifying, qualifyCount := 4999, dueValue := 5000 }) s)
    let v := settle (s.withTally { s.tally with paused := true })
    let w := { (returning true).withSupply { (returning true).supply with qualification := none } with boundaryAt := none }
    let z := w.withSupply { w.supply with retentionValid := false }
    let x := after .oscillatorTick s
    let y := after .millisecondBoundary s
    s.boundaryAt ≠ some s.elapsed ∧ x.boundaryAt = some x.elapsed ∧ x.boundaryWaits = true ∧ y.boundaryAt = some y.elapsed ∧
      y.boundaryWaits = false ∧ State.reset.boundaryAt ≠ some State.reset.elapsed ∧
      (settle State.reset).time.q + (1000000000 + (settle State.reset).trim).toNat < 4096000000000 ∧
      z.boundaryAt ≠ some z.elapsed ∧ (settle z).retentionRuns = false ∧ w.boundaryAt ≠ some w.elapsed ∧ u.retentionRuns = true ∧
      4096000000000 = u.time.q + (1000000000 + u.trim).toNat ∧ u.tally.paused = false ∧
      u.running = true ∧ u.duty = DutyUnit.cold ∧
      ((u.entry 0).run, (u.entry 2).run, (u.entry 3).qualifyCount, (u.entry 5).run) = (.idle, .qualifying, 4999, .running) ∧
      ((u.entry 3).run, (u.entry 3).counted.run, (u.entry 3).config.recordTransitions) = (.qualifying, .running, true) ∧
      ((u.entry 3).duePending, (u.entry 3).counted.duePending) = (false, true) ∧
      v.retentionRuns = true ∧ 4096000000000 = v.time.q + (1000000000 + v.trim).toNat ∧ v.tally.paused = true ∧
      (settle (w.withTime { w.time with q := 4095000000000 })).running = false ∧
      (settle (w.withTime { w.time with q := 4095000000000 })).retentionRuns = true := by
  decide +kernel

/-! Time base and discipline. -/

theorem witness_SetTimeChecksInOrder : State.reset.running = true ∧ (State.reset.port .a).rights.time = true ∧
    (State.reset.port .b).rights.time = false ∧ tripping.trip.burst.isSome = true := by decide +kernel

theorem witness_ImmediateSetRewritesTheTime :
    State.reset.running = true ∧ (State.reset.port .c).rights.time = true ∧ (86399999 : BitVec 32).toNat < 86400000 ∧
      State.reset.trip.burst = none ∧ State.reset.time.quality = .unset ∧ (dated 1 0 0 .locked).time.quality ≠ .unset := by
  decide +kernel

theorem witness_StagedSetIsStoredOrWithdrawn :
    tripping.running = true ∧ (tripping.port .c).rights.time = true ∧ (86399999 : BitVec 32).toNat < 86400000 := by
  decide +kernel

/-- The last early tick; BACKUP and the tick of a restart; the first tick of acceptance in UNSET, with no staged set and with a burst
open. -/
theorem witness_UnmeasuredMarksTouchOnlyTheDiscipline :
    let s := { marking State.reset with elapsed := 8800 * 4096000000000 - 1 }
    let u := { marking State.reset with elapsed := 8800 * 4096000000000 }
    let v := { marking tripping with time := { State.reset.time with staged := some ⟨1, 1000, .a⟩ } }
    (s.discipline.lastMarkAt = some (8000 * 4096000000000) ∧ s.running = true ∧
        s.supply.restartAt ≠ some s.elapsed ∧ s.elapsed < 8000 * 4096000000000 + 800 * 4096000000000) ∧
      (returning true).running = false ∧ (returning true).discipline.lastMarkAt = none ∧
      (after (.restart .a [0] ⟨false, false, false⟩ .tripFirst) s).supply.restartAt = some s.elapsed ∧
      (u.takesMark = true ∧ u.acceptsMark = true ∧ u.time.quality = .unset ∧ u.time.staged = none) ∧
      (v.takesMark = true ∧ v.acceptsMark = true ∧ v.time.quality = .unset ∧ v.trip.burst.isSome = true) := by
  decide +kernel

/-- A slew mark from FREE, and a deferred-step mark at the step limit in an open burst. -/
theorem witness_SlewMarkSetsTheTrims :
    (let s := marking (dated 19030 59999 952 .free);
      s.takesMark = true ∧ s.acceptsMark = true ∧ s.time.quality ≠ .unset ∧ s.time.staged = none ∧
        ((s.time.ms % 1000 * 1000 + s.time.q / 4096000000 : Nat) : Int) = 999952 ∧
        (s.discipline.settings.stepEnable &&
          decide (((s.discipline.settings.stepLimit * 1000 : Nat) : Int) ≤ (-48 : Int).natAbs)) = false) ∧
    (let s := marking (tripping.withTime (dated 19060 36000020 0 .locked).time);
      s.takesMark = true ∧ s.acceptsMark = true ∧ s.time.quality = .locked ∧ s.time.staged = none ∧
        ((s.time.ms % 1000 * 1000 + s.time.q / 4096000000 : Nat) : Int) = 20000 ∧
        (s.discipline.settings.stepEnable &&
          decide (((s.discipline.settings.stepLimit * 1000 : Nat) : Int) ≤ (20000 : Int).natAbs)) = true ∧
        s.trip.burst.isSome = true) := by decide +kernel

/-- An offset of exactly the step limit below the whole second, at the end of date 65,535. -/
theorem witness_StepMarkMovesToTheWholeSecond :
    let s := marking (dated 65535 86399980 0 .acquiring)
    s.takesMark = true ∧ s.acceptsMark = true ∧ s.time.quality ≠ .unset ∧ s.time.staged = none ∧ s.trip.burst = none ∧
      s.time.date < 65536 ∧ s.time.ms < 86400000 ∧ s.time.q < 4096000000000 ∧
      980000 = s.time.ms % 1000 * 1000 + s.time.q / 4096000000 ∧
      (-20000 : Int) = (if (980000 : Nat) < 500000 then ((980000 : Nat) : Int) else ((980000 : Nat) : Int) - 1000000) ∧
      s.discipline.settings.stepEnable = true ∧ s.discipline.settings.stepLimit * 1000 = (-20000 : Int).natAbs := by
  decide +kernel

theorem witness_AcceptedMarkAppliesAStagedSet :
    let s := marking (dated 19000 43199968 712 .free)
    let s := s.withTime { s.time with staged := some ⟨19000, 43200000, .c⟩ }
    s.takesMark = true ∧ s.acceptsMark = true ∧ s.time.staged = some ⟨19000, 43200000, .c⟩ ∧ s.trip.burst = none := by
  decide +kernel

/-- The tick before each expiry and the tick of it, in RUN and, for the timeout, in BACKUP. -/
theorem witness_DisciplineTimersMoveTheQuality :
    let s := fun e : Nat => { marking (dated 19040 0 0 .locked) with elapsed := e }
    let v := { marking ((returning true).withTally { State.reset.tally with paused := true }) with
      elapsed := 9200 * 4096000000000 }
    let h := fun e : Nat => { marking (dated 19040 0 0 .holdover) with elapsed := e }
    ((s 0).discipline.missingMark = some (9200 * 4096000000000) ∧ (s 0).retentionRuns = true ∧
        (s (9200 * 4096000000000 - 1)).elapsed < 9200 * 4096000000000 ∧
        9200 * 4096000000000 ≤ (s (9200 * 4096000000000)).elapsed ∧ (s 0).running = true ∧ (s 0).time.quality = .locked) ∧
      (v.discipline.missingMark = some (9200 * 4096000000000) ∧ v.retentionRuns = true ∧
        9200 * 4096000000000 ≤ v.elapsed ∧ v.running = false ∧ v.tally.paused = true) ∧
      (h 0).discipline.lastMarkAt = some (8000 * 4096000000000) ∧ (h 0).retentionRuns = true ∧
      (h 0).time.quality = .holdover ∧ (h 0).running = true ∧ (h 0).tally.inputs.getLsbD 33 = false ∧
      8000 * 4096000000000 + (h 0).discipline.settings.holdoverLimit * 1000 * 4096000000000 =
        (h (3608000 * 4096000000000)).elapsed ∧
      ¬ 8000 * 4096000000000 + (h 0).discipline.settings.holdoverLimit * 1000 * 4096000000000 ≤
        (h (3608000 * 4096000000000 - 1)).elapsed := by decide +kernel

/-- A port without TIME; LOCKED; HOLDOVER at the new limit of 60 s. -/
theorem witness_DisciplineSettingsAreClampedAndStored :
    let args : List Byte := [1, 0, 20, 0, 100, 8, 0, 0, 0, 60]
    let s := { marking (dated 19040 0 0 .holdover) with elapsed := 68000 * 4096000000000 }
    let u := s.withDiscipline { s.discipline with settings := ⟨true, 20, 100, 8, 60⟩ }
    args.length = 10 ∧ s.running = true ∧ (s.port .b).rights.time = false ∧ (s.port .a).rights.time = true ∧
      (dated 19040 0 0 .locked).time.quality ≠ .holdover ∧ s.time.quality = .holdover ∧ u.holdoverPassed = true ∧
      ({ u with elapsed := 68000 * 4096000000000 - 1 }).holdoverPassed = false := by decide +kernel

/-! Points. -/

/-- A level that stands; a change in BACKUP and in OFF; a change of a watched point. -/
theorem witness_EdgeActsThroughTheDebounce :
    let s := pointAs 31 .status 250 0 10 false State.reset
    s.lines.getLsbD 31 = false ∧ s.lines.getLsbD 31 ≠ true ∧ s.running = true ∧ (s.point 31).entry.mode ≠ .off ∧
      (s.point 0).entry.mode = .off ∧ (returning true).running = false := by decide +kernel

/-- A change not counted, a first counted change, and one that reaches the limit, each at its expiry; and a change earlier than
every ranked one; and BACKUP. -/
theorem witness_DebounceExpiryConfirmsTheChange :
    let d : Debounce := ⟨⟨19060, 36000002, 710⟩, 0, false⟩
    let s := fun (limit : Nat) (c : Chatter) =>
      let s := pointAs 12 .record 20 limit 5 true State.reset
      s.withPoint 12 { s.point 12 with debouncing := some d, chatter := c }
    (returning true).running = false ∧ (∀ e ∈ tripping.trip.ranked, e.instant.le d.start = false) ∧
    (tripping.running = true ∧ (tripping.point 5).entry.mode = .trip ∧ (tripping.point 5).debouncing = some d ∧
        d.expiry ≤ tripping.elapsed ∧ (tripping.point 5).entry.chatterLimit = 0 ∧ (tripping.point 5).active = false ∧
        (tripping.withTrip { tripping.trip with latch := .armed }).trip.latch = .armed) ∧
      ((s 3 .clear).running = true ∧ ((s 3 .clear).point 12).entry.mode = .record ∧
        ((s 3 .clear).point 12).debouncing = some d ∧ ((s 3 .clear).point 12).entry.chatterLimit ≠ 0 ∧
        ((s 3 .clear).point 12).chatter = .clear) ∧
      (((s 3 (.counting 2 9)).point 12).chatter = .counting 2 9 ∧
        2 + 1 = ((s 3 (.counting 2 9)).point 12).entry.chatterLimit) := by decide +kernel

/-- The tick before each expiry and the tick of it; and BACKUP. -/
theorem witness_ChatterSuppressesAndClearsThePoint :
    let s := fun (d e : Nat) =>
      let s := pointAs 12 .record 20 3 5 true State.reset
      s.withPoint 12 { s.point 12 with debouncing := some ⟨.zero, d, false⟩, chatter := .counting 3 e }
    (s 0 9).running = true ∧ ((s 0 9).point 12).debouncing = some ⟨.zero, 0, false⟩ ∧
      ((s 0 9).point 12).chatter = .counting 3 9 ∧ ((s 0 9).point 12).entry.chatterLimit ≠ 0 ∧
      (returning true).running = false ∧ 3 = ((s 0 9).point 12).entry.chatterLimit ∧ 0 ≤ (s 0 9).elapsed ∧ (s 1 9).elapsed < 1 ∧ (s 0 1).elapsed < 1 ∧
      0 ≤ (s 0 0).elapsed := by decide +kernel

/-- A line that differs from the frozen state, and one that agrees; and BACKUP. -/
theorem witness_StabilityWaitReleasesThePoint :
    let s := fun active : Bool =>
      let s := pointAs 12 .record 20 3 5 active State.reset
      s.withPoint 12 { s.point 12 with chatter := .suppressed 2 0 }
    (s true).running = true ∧ ((s true).point 12).entry.mode ≠ .off ∧ ((s true).point 12).chatter = .suppressed 2 0 ∧
      (returning true).running = false ∧ 0 ≤ (s true).elapsed ∧ (s true).lineActive 12 ≠ ((s true).point 12).active ∧
      (s false).lineActive 12 = ((s false).point 12).active := by decide +kernel

/-- A change of mode of point 31, no change but the settings, a change of polarity alone, and a suppressed point, whose chatter limit
is written as 0 with a polarity that shows its line at its state and with one that does not. -/
theorem witness_PointWriteChecksAndStores :
    let s := pointAs 31 .trip 10 0 10 false State.reset
    let args : List Byte := [31, 2, 1, 0, 251, 0, 1, 0, 61]
    s.running = true ∧ args.length = 9 ∧ (s.port .a).rights.config = true ∧ argField args 0 1 = (31 : Fin 32).val ∧
      pointModeOf (argField args 1 1) = some .record ∧ polarityOf (argField args 2 1) = some .activeLow ∧
      s.trip.latch = .armed ∧ (s.point 31).entry.mode = .trip ∧ s.trip.entry 31 = .normal ∧
      pointModeOf 3 = some .trip ∧ polarityOf 0 = some (s.point 31).entry.polarity ∧ (s.point 31).chatter = .clear ∧
      (let x := { s.point 31 with chatter := .suppressed 1 9 }
      let e := fun polarity : Polarity => (⟨.trip, polarity, 0, 0, 5⟩ : PointEntry)
      x.chatter = .suppressed 1 9 ∧ argField [31, 3, 0, 0, 0, 0, 0, 0, 5] 5 2 = 0 ∧
        (x.written (e .activeHigh) false s.now s.elapsed).active = x.active ∧
        (x.written (e .activeLow) false s.now s.elapsed).active ≠ x.active) := by
  decide +kernel

/-- A port without CONFIG; selectors 4 and 5; modes 3 and 4; a latched first-out with an empty mask and with one whose lowest point is
31; a standing trip at point 8; a mode written to the points of a mask with a TRIP point at rest among them, none suppressed; an
empty mask. -/
theorem witness_PointsWriteStoresTheFieldInTheMask :
    let s := pointAs 31 .trip 10 0 10 false State.reset
    let args := fun high low field value : Byte => ([high, 0, low, 0, field, 0, value] : List Byte)
    let mask := fun high low : Byte => BitVec.ofNat 32 (argField (args high low 0 1) 0 4)
    s.running = true ∧ (args 0x80 0 0 1).length = 7 ∧ (s.port .b).rights.config = false ∧ (s.port .a).rights.config = true ∧
      4 < argField (args 0 0 5 0) 4 1 ∧ ¬ 4 < argField (args 0 0 4 0) 4 1 ∧ 3 < argField (args 0 0 0 4) 5 2 ∧
      ¬ 3 < argField (args 0 0 0 3) 5 2 ∧ tripping.trip.latch ≠ .armed ∧ mask 0 0 = 0 ∧
      ((mask 0x80 0).getLsbD 31 = true ∧ ∀ m : Fin 32, m < 31 → (mask 0x80 0).getLsbD m.val = false) ∧
      (standing.trip.latch = .armed ∧ (mask 0 1).getLsbD 8 = true ∧ (standing.point 8).entry.mode = .trip ∧
        standing.trip.entry 8 ≠ .normal ∧ argField (args 0 1 0 1) 4 1 = 0 ∧ argField (args 0 1 0 1) 5 2 ≠ 3) ∧
      s.trip.latch = .armed ∧ (s.point 31).entry.mode = .trip ∧ s.trip.entry 31 = .normal ∧
      ∀ n : Fin 32, (s.point n).chatter = .clear := by decide +kernel

/-! Trips. -/

/-- Each wait at its expiry and one unit before it, with a PROVISIONAL and with a FINAL latch; and BACKUP. -/
theorem witness_BurstExpiryClosesTheBurst :
    let b : Burst := ⟨318, 600 * 4096000000000, 10000 * 4096000000000⟩
    let s := fun e : Nat => { tripping with elapsed := e }
    (returning true).running = false ∧ (s 0).running = true ∧ (s 0).trip.burst = some b ∧ (s b.quietExpiry).elapsed = b.quietExpiry ∧
      (s (b.limitExpiry - 1)).elapsed < b.limitExpiry ∧ (s 0).trip.latch = .provisional ∧
      (s 0).trip.ranked = ⟨14, ⟨19060, 36000004, 150⟩, 0⟩ :: [⟨9, ⟨19060, 36000012, 480⟩, 1⟩] ∧
      (tripping.withTrip { tripping.trip with latch := .final }).trip.latch ≠ .provisional := by decide +kernel

/-- A list of sixteen, the overflow at its maximum. -/
theorem witness_ActivationIsRankedByItsInstant :
    let t := { tripping.trip with
      ranked := (List.range 16).map fun k => ⟨k, ⟨19060, 36000000 + k, 0⟩, k⟩, overflow := 255 }
    Ranking t.ranked ∧ t.ranked.length ≤ 16 := by
  unfold Ranking
  decide +kernel

theorem witness_AcknowledgementMovesTheSelectedEntries :
    let args : List Byte := [3, 0, 0, 0, 64, 32]
    tripped.running = true ∧ args.length = 6 ∧ (tripped.port .c).rights.duty = true ∧ 1 ≤ argField args 0 1 ∧
      argField args 0 1 ≤ 15 ∧ tripped.duty.state = .onDuty ∧ tripped.duty.port = some .c ∧
      tripped.duty.crew = argField args 0 1 := by decide +kernel

/-- FINAL with no burst, ARMED with no burst, and a burst open. -/
theorem witness_ResetReturnsTheFirstOutToArmed :
    let armed := tripped.withTrip TripUnit.cold
    let open_ := tripped.withTrip { TripUnit.cold with burst := some ⟨1, 5, 9⟩, lastBurst := 1 }
    tripped.running = true ∧ (tripped.port .c).rights.duty = true ∧ tripped.duty.state = .onDuty ∧
      tripped.duty.port = some .c ∧ tripped.duty.crew = (3 : Byte).toNat ∧ tripped.trip.burst = none ∧
      tripped.trip.latch = .final ∧ armed.trip.burst = none ∧ armed.trip.latch = .armed ∧
      open_.trip.burst = some ⟨1, 5, 9⟩ ∧ open_.duty = tripped.duty := by decide +kernel

theorem witness_BurstQuietTimeIsStored :
    State.reset.running = true ∧ (State.reset.port .a).rights.config = true ∧
      (State.reset.port .b).rights.config = false ∧ State.reset.trip.burst = none ∧
      tripping.trip.burst = some ⟨318, 600 * 4096000000000, 10000 * 4096000000000⟩ ∧
      (returning true).supply.retentionValid = true ∧ (returning false).running = false ∧
      (returning false).supply.retentionValid = false ∧ (returning false).supply.qualification = some 0 ∧
      0 ≤ (returning false).elapsed := by decide +kernel

/-! The event queue. -/

/-- A full queue in either mode. -/
def full (mode : OverflowMode) : State :=
  State.reset.withQueue { State.reset.queue with held := List.replicate 128 ⟨.powerCold, .const (some 0)⟩, mode := mode }

/-- A full queue of port B's alone but for one record, the oldest, which is the whole stream of port A. -/
def fullButForA : State :=
  State.reset.withQueue { State.reset.queue with
    held := ⟨.powerCold, ⟨some 65535, some 7, none⟩⟩ :: List.replicate 127 ⟨.powerCold, ⟨none, some 0, none⟩⟩, mode := .keepNewest }

/-- A KEEP_NEWEST removal: port A with no other record, port B with another, port C that does not read the oldest. -/
theorem witness_ProducedRecordIsStoredOrCountedAsLost_removal :
    let q := fullButForA.queue
    let read := fun p : Port => (q.stream p).map fun h => (h.record, h.leadGap p)
    q.held.length = 128 ∧ q.mode = .keepNewest ∧ (∀ p ∈ [Port.a, .b, .c], q.subscribed.get p = true) ∧
      q.held.head?.map (fun h => (h.readBy .a, h.readBy .b, h.readBy .c)) = some (true, true, false) ∧
      read .a = [(.powerCold, 65535)] ∧ (read .b).take 2 = [(.powerCold, 7), (.powerCold, 0)] := by decide +kernel

theorem witness_ProducedRecordIsStoredOrCountedAsLost : ∀ mode ∈ [OverflowMode.keepOldest, .keepNewest],
    (full mode).running = true ∧ (full mode).queue.held.length = 128 ∧ State.reset.queue.held.length < 128 ∧
      (full mode).queue.mode = mode ∧
      ((full mode).port .a).pending.has .events = (!((full mode).queue.stream .a).isEmpty) ∧
      ((full mode).port .b).pending.has .events = (!((full mode).queue.stream .b).isEmpty) ∧
      ((full mode).port .c).pending.has .events = (!((full mode).queue.stream .c).isEmpty) := by decide +kernel

theorem witness_ReadEventsDeliversTheHeadOfTheStream :
    let denied := gapped.withPort .b { gapped.port .b with rights := ⟨false, false, false, false⟩ }
    gapped.running = true ∧ (gapped.port .a).rights.events = true ∧ (gapped.queue.stream .a).length = 2 ∧
      denied.running = true ∧ (denied.port .b).rights.events = false := by
  decide +kernel

/-- A port without EVENTS, one that is subscribed and one that is not. -/
theorem witness_SubscriptionJoinsOrLeaves :
    let s := State.reset.withPort .b { State.reset.port .b with rights := ⟨false, false, false, false⟩ }
    let u := s.withQueue { s.queue with subscribed := ⟨true, false, false⟩ }
    u.running = true ∧ (u.port .b).rights.events = false ∧ (u.port .a).rights.events = true ∧
      u.queue.subscribed.get .a = true ∧ (u.port .c).rights.events = true ∧ u.queue.subscribed.get .c = false := by
  decide +kernel

theorem witness_QueueModeIsStored :
    State.reset.running = true ∧ (State.reset.port .b).rights.config = false ∧
      (State.reset.port .a).rights.config = true ∧ 1 < (2 : Byte).toNat ∧ (returning true).supply.retentionValid = true ∧
      (returning false).running = false ∧ (returning false).supply.retentionValid = false ∧
      (returning false).supply.qualification = some 0 ∧ 0 ≤ (returning false).elapsed := by decide +kernel

/-! Tallies. -/

/-- The boundary before the qualify time and the boundary of it. -/
theorem witness_QualificationStartsTheRun :
    let s := fun count : Nat => tallyAs 11 (fun t => { t with run := .qualifying, qualifyCount := count }) State.reset
    (s 5000).tally.paused = false ∧ ((s 5000).entry 11).run = .qualifying ∧
      ((s 5000).entry 11).config.qualifyTime * 1000 = ((s 5000).entry 11).qualifyCount ∧
      ((s 4999).entry 11).qualifyCount < ((s 4999).entry 11).config.qualifyTime * 1000 ∧
      ((s 5000).entry 11).config.recordTransitions = true := by decide +kernel

/-- The last input changes: a tally on it in each run state, with and without a staged preset; and the end of one run alone. -/
theorem witness_InputChangeMovesTheRunStates :
    let on := fun (t : Tally) => { t with config := { t.config with care := BitVec.twoPow 36 35 } }
    let s := tallyAs 0 (fun t => on { t with run := .running }) brakes
    let s := tallyAs 1 (fun t => on { t with run := .qualifying }) s
    let s := tallyAs 2 (fun t => { on t with config := { (on t).config with pattern := BitVec.twoPow 36 35 } }) s
    let holds := fun i => (s.entry i).config.holds (putBit s.tally.inputs 35 true)
    s.tally.paused = false ∧ s.tally.inputs.getLsbD 35 ≠ true ∧
      ((s.entry 0).run, (s.entry 1).run, (s.entry 2).run, (s.entry 5).run) = (.running, .qualifying, .idle, .running) ∧
      (holds 0, holds 1, holds 2, holds 5) = (false, false, true, true) ∧ (s.entry 0).staged = none ∧
      (s.entry 2).config.qualifyTime ≠ 0 ∧ (s.entry 5).staged = some ⟨0, 0, 3⟩ ∧
      (let v := tallyAs 0 (fun t => on { t with run := .running }) State.reset;
      (∀ j, j ≠ 0 → (handInput 35 true v).entry j = v.entry j) ∧ (v.entry 0).run = .running ∧ (v.entry 0).staged = none ∧
        v.tally.paused = false ∧ v.tally.inputs.getLsbD 35 ≠ true) := by decide +kernel

/-- The first index that names no tally and the last that names one, and a port without CONFIG. -/
theorem witness_TallyConfigurationIsStoredAndActs :
    let args := fun i : Byte => i :: List.replicate 14 (1 : Byte)
    (args 0).length = 15 ∧ State.reset.running = true ∧ (State.reset.port .b).rights.config = false ∧
      (State.reset.port .a).rights.config = true ∧ 11 < argField (args 12) 0 1 ∧
      argField (args 11) 0 1 = (11 : Fin 12).val := by decide +kernel

theorem witness_DueValueIsStoredAndCompared :
    let args := fun i : Byte => i :: List.replicate 6 (255 : Byte)
    (args 0).length = 7 ∧ State.reset.running = true ∧ (State.reset.port .b).rights.config = false ∧
      (State.reset.port .a).rights.config = true ∧ 11 < argField (args 12) 0 1 ∧
      argField (args 11) 0 1 = (11 : Fin 12).val := by decide +kernel

/-- A running tally, an idle one, and the first index that names none. -/
theorem witness_PresetIsStagedOrApplied :
    let args := fun i : Byte => 3 :: i :: List.replicate 10 (255 : Byte)
    let s := crewOn 3 brakes
    s.running = true ∧ (args 0).length = 12 ∧ (s.port .c).rights.duty = true ∧ 1 ≤ argField (args 0) 0 1 ∧
      argField (args 0) 0 1 ≤ 15 ∧ s.duty.state = .onDuty ∧ s.duty.port = some .c ∧
      s.duty.crew = argField (args 0) 0 1 ∧ 11 < argField (args 12) 1 1 ∧
      argField (args 5) 1 1 = (5 : Fin 12).val ∧ (s.entry 5).run = .running ∧ (s.entry 11).run ≠ .running := by
  decide +kernel

/-! Duty. -/

theorem witness_DutyBoundRequestsNeedTheCrewOnDuty :
    let c := Instr.resetFirstOut .c (BitVec.ofNat 8 ([3] : List Byte).length :: [3])
    ((tripped.port .b).rights.duty = false ∧ (tripped.port .c).rights.duty = true ∧ argField [0] 0 1 = 0 ∧
      15 < argField [16] 0 1 ∧ argField [15] 0 1 = 15 ∧ State.reset.duty.state = .vacant ∧
      (releasedAt 51100000).duty.state = .released ∧ (handing 0).duty.state = .due ∧ tripped.duty.state = .onDuty ∧
      tripped.duty.port ≠ some .a ∧ tripped.duty.crew ≠ argField [4] 0 1) ∧
    tripped.running = true ∧ ([3] : List Byte).length ≤ 64 ∧ exec c tripped = .next (after c tripped) ∧
      ((after c tripped).port .c).response = .ok [0] :=
  ⟨by decide +kernel, by decide +kernel, by decide, rfl, by decide +kernel⟩

/-- A port without DUTY, crews 0 and 16, a duty that is held; a vacant duty; a released one with the outgoing crew, an unexpected crew
and the expected crew. -/
theorem witness_ExchangeWritesTheBook :
    let s := releasedAt 51125000
    ((State.reset.port .b).rights.duty = false ∧ (0 : Byte).toNat = 0 ∧ 15 < (16 : Byte).toNat ∧
        (shift 0).duty.state = .onDuty ∧ (handing 0).duty.state = .due) ∧
      (State.reset.running = true ∧ (State.reset.port .c).rights.duty = true ∧ 1 ≤ (15 : Byte).toNat ∧
        (15 : Byte).toNat ≤ 15 ∧ State.reset.duty.state = .vacant) ∧
      (s.running = true ∧ (s.port .c).rights.duty = true ∧ s.duty.state = .released ∧ (1 : Byte).toNat = s.duty.crew ∧
        s.duty.handover.expected ≠ 0 ∧ (3 : Byte).toNat ≠ s.duty.handover.expected ∧
        ¬ ((2 : Byte).toNat = s.duty.crew ∨
          (s.duty.handover.expected ≠ 0 ∧ (2 : Byte).toNat ≠ s.duty.handover.expected))) := by decide +kernel

/-- Each request from the duty port and crew in its state; and for the refusals a port without DUTY, crews 0 and 16, VACANT, another
port, another crew, and the states of the other requests. -/
theorem witness_OpenReleaseAndReclaimMoveTheHandover :
    (∀ s ∈ [shift 30000000, handing 51030250, releasedAt 51100000],
      s.running = true ∧ (s.port .c).rights.duty = true ∧ s.duty.port = some .c ∧ s.duty.crew = (1 : Byte).toNat ∧
        s.duty.state ≠ .vacant) ∧
      ((shift 0).duty.state, (handing 0).duty.state, (releasedAt 0).duty.state) = (.onDuty, .due, .released) ∧
      ((handing 0).port .b).rights.duty = false ∧ (0 : Byte).toNat = 0 ∧ 15 < (16 : Byte).toNat ∧
      State.reset.duty.state = .vacant ∧ (handing 0).duty.port ≠ some .a ∧ (handing 0).duty.crew ≠ (2 : Byte).toNat ∧
      (let s := releasedAt 51125000
      let t := after (.acceptDuty .a [1, 2]) s
      (s.port .a).rights.duty = true ∧ t.duty.state = .onDuty ∧ t.duty.relieved = some ⟨t.elapsed, some .c, (1 : Byte).toNat⟩) := by
  decide +kernel

theorem witness_OpenReleaseAndReclaimMoveTheHandover_pair (s : State) :
    exec (.acceptDuty .a [1, 2]) s = .next (after (.acceptDuty .a [1, 2]) s) ∧
      exec (.reclaimDuty .c [1, 1]) s = .next (after (.reclaimDuty .c [1, 1]) s) := ⟨rfl, rfl⟩

/-- A check between slots finds nothing. -/
theorem witness_NothingFallsDue : (shift 30000000).boundaryAt = some (shift 30000000).elapsed ∧ NothingFallsDue (shift 30000000) := by
  refine ⟨by decide +kernel, by rintro d ⟨⟩, by rintro d ⟨⟩, .inr ?_⟩
  rintro x hx
  refine ⟨⟨19100, 21600000, 0⟩, rfl, ?_⟩
  have : mostRecentSlot (shift 30000000).duty.rota (shift 30000000).now = some (⟨19100, 21600000, 0⟩, 0, ⟨360, 1⟩) := by
    decide +kernel
  rw [this] at hx
  cases hx
  decide +kernel

/-- The accept deadline passes before the slots are looked for, at an accept window of 1 to 30 minutes. -/
theorem witness_SlotFallsDueByState_deadlines_first :
    let s := releasedAt 51330250
    s.boundaryAt = some s.elapsed ∧ s.running = true ∧ ClockInRange s ∧ 1 ≤ s.duty.settings.acceptWindow ∧
      s.duty.settings.acceptWindow ≤ 30 ∧ exec .releaseDeadlineExpiry s = .next (after .releaseDeadlineExpiry s) ∧
      exec .acceptDeadlineExpiry (after .releaseDeadlineExpiry s) =
        .next (after .acceptDeadlineExpiry (after .releaseDeadlineExpiry s)) := by
  refine ⟨by decide +kernel, by decide +kernel, ⟨by decide, by decide, by decide, by decide, by decide, ?_⟩, by decide +kernel,
    by decide +kernel, rfl, rfl⟩
  rintro x ⟨⟩

/-- Both halves of the circle, and the distance at which each instant is later than the other; an instant before every slot of a rota,
one after some, and the rota that has none. -/
theorem witness_SlotsAreFoundOnTheCircle :
    let a : Instant := ⟨65535, 86399999, 999⟩
    let b : Instant := ⟨32767, 86399999, 999⟩
    a.inRange ∧ b.inRange ∧ a.circleFrom b = 32768 * 86400000 * 1000 ∧ b.circleFrom a = 32768 * 86400000 * 1000 ∧
      (⟨0, 0, 0⟩ : Instant).inRange ∧ (⟨0, 0, 0⟩ : Instant).circleFrom a = 1 ∧
      (∀ y ∈ threeSlots, (0 : Nat) < y.minute * 60000) ∧ (∃ y ∈ threeSlots, y.minute * 60000 ≤ 21600000) ∧
      skippedCount threeSlots ⟨65535, 79200000, 0⟩ ⟨0, 50400000, 0⟩ = 1 := by
  unfold Instant.inRange
  decide +kernel

/-- The tick the slot falls due, in each duty state, with no deadline passed, the new one ahead; a new one that is reached; no served
slot; and a tick of no boundary. -/
theorem witness_SlotFallsDueByState :
    State.reset.boundaryAt ≠ some State.reset.elapsed ∧
    (let s := (shift 50400000).withDuty { (shift 50400000).duty with lastServed := none };
      s.boundaryAt = some s.elapsed ∧ s.time.quality ≠ .unset ∧ s.duty.lastServed = none ∧
        mostRecentSlot s.duty.rota s.now = some (⟨19100, 50400000, 0⟩, 1, ⟨840, 2⟩)) ∧
    ((shift 54000000).now.atOrAfter ((⟨19100, 50400000, 0⟩ : Instant).addUs 3600000000) = true ∧
      (shift 53999999).now.atOrAfter ((⟨19100, 50400000, 0⟩ : Instant).addUs 3600000000) = false) ∧
    let due : Instant := ⟨19100, 50400000, 0⟩
    let served : Instant := ⟨19100, 21600000, 0⟩
    let s := fun state : DutyState =>
      (shift 50400000).withDuty { (shift 50400000).duty with
        state := state
        handover := ⟨none, 0, some ⟨19100, 50400001, 0⟩, some ⟨19100, 50400001, 0⟩, false, 0⟩ }
    ∀ state ∈ [DutyState.vacant, .onDuty, .due, .released],
      (s state).boundaryAt = some (s state).elapsed ∧ (s state).running = true ∧ (s state).time.quality ≠ .unset ∧
        mostRecentSlot (s state).duty.rota (s state).now = some (due, 1, ⟨840, 2⟩) ∧
        (s state).duty.lastServed = some served ∧ due.laterThan served = true ∧
        (s state).now.atOrAfter (due.addUs (((s state).duty.settings.releaseWindow * 60000000 : Nat) : Int)) = false ∧
        (s state).now.atOrAfter ⟨19100, 50400001, 0⟩ = false ∧ (s state).duty.state = state := by decide +kernel

/-- A tick of no boundary and another state; the release deadline a millisecond on and now; the accept deadline a millisecond on and
now, below and at the re-offer limit, for each lapse. -/
theorem witness_DeadlinesOfTheHandover :
    let r := fun ms => handing ms
    let a := releasedAt 51330250
    let l := fun (action : LapseAction) (crew : Nat) =>
      a.withDuty { a.duty with
        settings := { a.duty.settings with lapse := action, standingCrew := crew }
        handover := { a.duty.handover with reoffers := 2 } }
    State.reset.boundaryAt ≠ some State.reset.elapsed ∧ (r 0).boundaryAt = some (r 0).elapsed ∧
      a.boundaryAt = some a.elapsed ∧ (r 0).duty.state ≠ .released ∧ a.duty.state ≠ .due ∧
      (releasedAt 51330249).now.atOrAfter ⟨19100, 51330250, 0⟩ = false ∧
      (r 0).running = true ∧ (r 0).duty.state = .due ∧ (r 0).duty.handover.releaseDeadline = some ⟨19100, 54000000, 0⟩ ∧
      (r 53999999).now.atOrAfter ⟨19100, 54000000, 0⟩ = false ∧
      (r 54000000).now.atOrAfter ⟨19100, 54000000, 0⟩ = true ∧
      a.running = true ∧ a.duty.state = .released ∧ a.duty.handover.acceptDeadline = some ⟨19100, 51330250, 0⟩ ∧
      a.now.atOrAfter ⟨19100, 51330250, 0⟩ = true ∧ a.duty.handover.reoffers < a.duty.settings.reofferLimit ∧
      (l .revert 0).duty.settings.reofferLimit = (l .revert 0).duty.handover.reoffers ∧
      (l .standing 15).duty.settings.standingCrew ≠ 0 ∧ (l .standing 0).duty.settings.standingCrew = 0 := by
  decide +kernel

/-- The refusals: VACANT without CONFIG; counts 6 and 7; a length that does not carry the slots; a minute of 1,440 and a crew of 16; a
minute equal to the one before it. -/
theorem witness_RotaIsAppliedOrWaits_refusals :
    let args : List Byte := [1, 2, 0, 0, 15, 0, 0, 0]
    let slot := fun j : Nat => (⟨argField args (2 + 3 * j) 2, argField args (4 + 3 * j) 1⟩ : Slot)
    State.reset.duty.state = .vacant ∧ (State.reset.port .b).rights.config = false ∧
      (State.reset.port .a).rights.config = true ∧ 6 < argField [1, 7] 1 1 ∧ argField [1, 6] 1 1 ≤ 6 ∧
      ([1, 6] : List Byte).length ≠ 2 + 3 * argField [1, 6] 1 1 ∧ args.length = 2 + 3 * 2 ∧
      ¬ (⟨1440, 0⟩ : Slot).fits ∧ ¬ (⟨1439, 16⟩ : Slot).fits ∧ (slot 0).fits ∧ (slot 1).fits ∧
      (slot 1).minute = (slot 0).minute := by
  unfold Slot.fits
  decide +kernel

/-- An empty rota and one of two slots, in VACANT and on duty. -/
theorem witness_RotaIsAppliedOrWaits :
    let args : List Byte := [1, 2, 0, 0, 15, 5, 159, 0]
    let s := shift 30000000
    (argField [0, 0] 1 1 = 0 ∧ ([0, 0] : List Byte).length = 2 + 3 * 0) ∧ argField args 1 1 = 2 ∧
      args.length = 2 + 3 * 2 ∧
      ((List.range 2).map fun j => (⟨argField args (2 + 3 * j) 2, argField args (4 + 3 * j) 1⟩ : Slot)) =
        [⟨0, 15⟩, ⟨1439, 0⟩] ∧
      State.reset.running = true ∧ State.reset.duty.state = .vacant ∧ (State.reset.port .a).rights.config = true ∧
      s.running = true ∧ s.duty.state = .onDuty ∧ (s.port .c).rights.duty = true ∧ 1 ≤ s.duty.crew ∧ s.duty.crew ≤ 15 ∧
      s.duty.port = some .c ∧ argField args 0 1 = s.duty.crew := by decide +kernel

theorem witness_RotaFits : RotaFits [] ∧ RotaFits [⟨0, 15⟩, ⟨1439, 0⟩] := by
  refine ⟨⟨by decide, by simp, by decide⟩, by decide, ?_, by decide⟩
  intro x hx
  fin_cases hx <;> exact ⟨by decide, by decide⟩

theorem witness_HandoverSettingsAreClampedAndStored : State.reset.running = true := by decide +kernel

/-! Reads, notices, ports. -/

/-- Points 31 and 32, tallies 11 and 12, a tally outside the mask, each port letter and another, ages 1 and 2, parts 2 and 3. -/
theorem witness_ReadsAnswerAndChangeNothing :
    let s := twoShifts.withPort .b { twoShifts.port .b with readMask := 0x7FF }
    s.running = true ∧ 31 < (32 : Byte).toNat ∧ ¬ 31 < (31 : Byte).toNat ∧ 11 < (12 : Byte).toNat ∧
      (11 : Byte).toNat = (11 : Fin 12).val ∧ (s.port .a).readMask.getLsbD 11 = true ∧
      (s.port .b).readMask.getLsbD 11 = false ∧ (0x41 : Byte) = portLetter .a ∧ (0x44 : Byte) ≠ portLetter .c ∧
      (s.book.records[(1 : Byte).toNat]?).isSome = true ∧ s.book.records[(2 : Byte).toNat]? = none ∧
      2 < (3 : Byte).toNat := by decide +kernel

theorem witness_TopNoticeIsTheHighestPendingAndEnabled :
    (pulseAtB 0x40 .active).running = true ∧
      ((pulseAtB 0x40 .active).port .b).pending &&& ((pulseAtB 0x40 .active).port .b).enabled ≠ 0 ∧
      ((pulseAtB 0 .inactive).port .b).pending &&& ((pulseAtB 0 .inactive).port .b).enabled = 0 := by decide +kernel

theorem witness_NoticeRequestsMoveTheLine : (pulseAtB 0x41 .active).running = true ∧ 1 < (2 : Byte).toNat := by
  decide +kernel

/-- The first millisecond out of range, and the last in it; a tick of a boundary and a tick of none. -/
theorem witness_AlarmFollowsItsCompare :
    let args := fun low : Byte => ([1, 255, 255, 5, 38, 92, low] : List Byte)
    State.reset.boundaryAt ≠ some State.reset.elapsed ∧ (dated 5 9 0 .free).boundaryAt = some (dated 5 9 0 .free).elapsed ∧
      State.reset.running = true ∧ (args 0).length = 7 ∧ argField (args 0) 0 1 ≠ 0 ∧
      86400000 = argField (args 0) 3 4 ∧ argField [1, 255, 255, 5, 38, 91, 255] 3 4 = 86399999 := by decide +kernel

/-- R165, R166: a raise at an active line starts a gap of 50 µs; a raise of a pending notice moves nothing; a gap absorbs a raise; an
inactive line becomes active. -/
theorem test_raise_at_a_pulse_line :
    let raised := fun (n : Notice) (s : State) => ((setNotice .b n true s).port .b).line
    raised .gap (pulseAtB 0x40 .active) = .gap (50 * 4096000000) ∧ raised .events (pulseAtB 0x40 .active) = .active ∧
      raised .gap (pulseAtB 0x40 (.gap 5)) = .gap 5 ∧ raised .gap (pulseAtB 0 .inactive) = .active := by decide +kernel

/-- A notice that changes and one that does not, at a LEVEL port and at each line of a PULSE port; BACKUP; a gap that ends now, a gap
that ends one unit on, and a line in no gap. -/
theorem witness_PulseGapEndDrivesTheLine :
    (∀ l ∈ [Line.active, .inactive, .gap 5], (pulseAtB 0x40 l).running = true ∧ ((pulseAtB 0x40 l).port .b).style = .pulse ∧
      ((pulseAtB 0x40 l).port .b).line = l ∧ ((pulseAtB 0x40 l).port .b).pending.has .gap ≠ true ∧
      ((pulseAtB 0x40 l).port .b).pending.has .events = true) ∧
    (State.reset.port .a).style = .level ∧ (State.reset.port .a).pending.has .gap ≠ true ∧ (returning true).running = false ∧
    ((pulseAtB 0x41 (.gap 0)).port .b).line = .gap 0 ∧ 0 ≤ (pulseAtB 0x41 (.gap 0)).elapsed ∧
      ((pulseAtB 0x41 (.gap 1)).port .b).line = .gap 1 ∧ (pulseAtB 0x41 (.gap 1)).elapsed < 1 ∧
      ((pulseAtB 0x41 .active).port .b).line = .active := by decide +kernel

/-- Another port, a letter that is not B or C, the duty port's DUTY right, and a grant that takes EVENTS away. -/
theorem witness_RightsAreStoredAndActOnTheQueueAndNotices :
    let s := crewOn 2 State.reset
    s.running = true ∧ Port.b ≠ .a ∧ (0x41 : Byte) ≠ 0x42 ∧ (0x41 : Byte) ≠ 0x43 ∧ (0x43 : Byte) = portLetter .c ∧
      s.duty.port = some .c ∧ (7 : Byte).getLsbD 3 = false ∧ (8 : Byte).getLsbD 3 = true ∧
      (s.port .c).rights.events = true ∧ (8 : Byte).getLsbD 2 = false ∧ s.queue.subscribed.get .c = true ∧
      BitVec.ofNat 12 ((0x0F : Byte).toNat * 256 + (0xFE : Byte).toNat) ≠ (s.port .c).readMask := by decide +kernel

/-! Supplies. -/

/-- RUN with a provisional first-out, RUN with no burst, and BACKUP with and without a qualification. -/
theorem witness_MainLossAndSupplyEvents :
    let s := returning true
    let u := s.withSupply { s.supply with qualification := none }
    tripping.running = true ∧ tripping.trip.burst = some ⟨318, 600 * 4096000000000, 10000 * 4096000000000⟩ ∧
      tripping.trip.latch = .provisional ∧
      tripping.trip.ranked = ⟨14, ⟨19060, 36000004, 150⟩, 0⟩ :: [⟨9, ⟨19060, 36000012, 480⟩, 1⟩] ∧
      State.reset.running = true ∧ State.reset.trip.burst = none ∧ s.running = false ∧ s.supply.qualification ≠ none ∧
      u.running = false ∧ u.supply.qualification = none := by decide +kernel

/-- A released handover at its limit, which lapses into VACANT at its accept deadline. -/
def lapsing (ms : Nat) : State :=
  let s := releasedAt ms
  s.withDuty { s.duty with
    settings := { s.duty.settings with lapse := .standing, standingCrew := 0 }
    handover := { s.duty.handover with reoffers := 2, acceptDeadline := some ⟨19100, 0, 0⟩ } }

/-- A state with a suppressed point, a recorded run whose condition is false and a release deadline that has passed. -/
def interrupted (s : State) : State :=
  let s := pointAs 12 .record 20 3 5 false s
  let s := s.withPoint 12 { s.point 12 with chatter := .suppressed 2 9 }
  let s := s.withEntry 4
    { Tally.cold with config := ⟨true, 1, 1, 5, true, false⟩, run := .running, runLength := 3600000 }
  s.withDuty { s.duty with
    state := .due, crew := 1, port := some .c, handover := ⟨none, 2, some s.now, none, false, 0⟩ }

/-- R59, R121, R137, R186: the records of the restore carry the OUTAGE flag, and POWER does not. -/
theorem test_return_flags :
    ((after (.returnOfSupply ⟨false, false, false⟩ true) (interrupted (returning true))).queue.held.drop
        (returning true).queue.held.length).map (fun h => (h.record.body, h.record.outage)) =
      [(.power .outage (some ⟨19120, 48000150, 220⟩) .locked .locked, false), (.tallyStop 4 3600000, true),
        (.chatter 12 .released 2, true), (.handover .overdue 1 2 none 0 0, true)] := by decide +kernel

/-- What the records of a restore rest on: a suppressed point, a recorded run that ends, a release deadline of this instant. -/
theorem witness_RestoreRecords : ∀ s ∈ [interrupted (returning true), interrupted { State.reset with elapsed := 411000000000 }],
    (s.point 12).entry.mode ≠ .off ∧ (s.point 12).chatter = .suppressed 2 9 ∧ (s.entry 4).run = .running ∧
      (s.entry 4).config.recordTransitions = true ∧ (s.entry 4).config.holds s.presentInputs = false ∧
      (s.entry 4).config.holds (putBit s.presentInputs 35 false) = false ∧ s.trip.burst = none ∧ s.duty.state = .due ∧
      s.duty.handover.releaseDeadline = some s.now ∧ s.now.atOrAfter s.now = true := by decide +kernel

/-- The qualification one unit short, and run; and a lapse into VACANT at the check of the return. -/
theorem witness_ReturnRestoresTheBlocks :
    let s := fun e : Nat => (returning true).withSupply { (returning true).supply with qualification := some e }
    (s 1).running = false ∧ (s 1).supply.qualification = some 1 ∧ (s 1).elapsed < 1 ∧ 0 ≤ (s 0).elapsed ∧
      (s 0).supply.retentionValid = true ∧ (s 0).trip.burst = none ∧ ((s 0).point 0).debouncing = none ∧
      (after (.returnOfSupply ⟨false, false, false⟩ true) (s 0)).duty.state = (s 0).duty.state ∧
      (let v := (s 0).withDuty { (lapsing 51330250).duty with state := .released }
      (after (.returnOfSupply ⟨false, false, false⟩ true) v).duty.state = .vacant ∧ v.duty.state ≠ .vacant) := by
  decide +kernel

/-- The last elapsed reading at which the 100 µs cannot be complete and the first at which they can; recognition that waits; no burst, a
PROVISIONAL burst; and a lapse into VACANT at the check of the restart. -/
theorem witness_WarmRestartClosesAndRestoresAtOneTick :
    let early := { State.reset with elapsed := 1000000000 + 100 * 4096000000 - 1 }
    let s := { State.reset with elapsed := 1000000000 + 100 * 4096000000 }
    let waits := s.withSupply { s.supply with resetArmed := false }
    let c := Instr.restart .a [0] ⟨false, false, false⟩ .tallyFirst
    s.running = true ∧ s.supply.resetArmed = true ∧ s.supply.resetHighAt + 1000000000 + 100 * 4096000000 ≤ s.elapsed ∧
      early.elapsed < early.supply.resetHighAt + 1000000000 + 100 * 4096000000 ∧ s.trip.burst = none ∧
      waits.running = true ∧ waits.supply.resetArmed = false ∧ Port.b ≠ .a ∧ (after c s).duty.state = s.duty.state ∧
      tripping.running = true ∧ tripping.trip.burst = some ⟨318, 600 * 4096000000000, 10000 * 4096000000000⟩ ∧
      tripping.trip.latch = .provisional ∧
      tripping.trip.ranked = ⟨14, ⟨19060, 36000004, 150⟩, 0⟩ :: [⟨9, ⟨19060, 36000012, 480⟩, 1⟩] ∧
      (after c (lapsing 51330250)).duty.state = .vacant ∧ (lapsing 51330250).duty.state ≠ .vacant := by decide +kernel

end Sys2Proof.Tests
end

section
/-!
SUPPORT. SET_TIME against the order of R12: the fields that its frame carries, what a well-shaped frame makes of the answer of the
block that serves it, and one lemma for each check of R12.
-/

namespace Sys2Proof.Machine

/-! ### Numbers in bytes -/

theorem beBytes_succ (k v : Nat) : beBytes (k + 1) v = BitVec.ofNat 8 (v / 256 ^ k) :: beBytes k v := by
  simp [beBytes, List.range_succ]

@[simp] theorem length_beBytes (k v : Nat) : (beBytes k v).length = k := by simp [beBytes]

/-- Reading on from `acc` over the bytes of a number appends its last `k` digits to base 256. -/
theorem foldl_beBytes (k v acc : Nat) :
    (beBytes k v).foldl (fun n b => n * 256 + b.toNat) acc = acc * 256 ^ k + v % 256 ^ k := by
  induction k generalizing acc with
  | zero => simp [beBytes, Nat.mod_one]
  | succ k ih =>
    rw [beBytes_succ, List.foldl_cons, ih, BitVec.toNat_ofNat, pow_succ 256 k, Nat.mod_mul]
    ring

/-- A number that fits its bytes is read back from them (R187). -/
theorem beNumber_beBytes {k v : Nat} (h : v < 256 ^ k) : beNumber (beBytes k v) = v := by
  rw [beNumber, foldl_beBytes, Nat.mod_eq_of_lt h, Nat.zero_mul, Nat.zero_add]

/-! ### The frame of SET_TIME -/

/-- The argument bytes of a SET_TIME frame (R188). -/
def setTimeArguments (date : BitVec 16) (ms : BitVec 32) (mode : Byte) : List Byte :=
  beBytes 2 date.toNat ++ beBytes 4 ms.toNat ++ [mode]

section Arguments

variable (date : BitVec 16) (ms : BitVec 32) (mode : Byte)

@[simp] theorem length_setTimeArguments : (setTimeArguments date ms mode).length = 7 := by simp [setTimeArguments]

theorem frameArguments_setTimeFrame :
    frameArguments (setTimeFrame date ms mode) = some (setTimeArguments date ms mode) := by
  have frame : setTimeFrame date ms mode = 7 :: setTimeArguments date ms mode := rfl
  simp [frame, frameArguments]

@[simp] theorem setTimeArguments_date : argField (setTimeArguments date ms mode) 0 2 = date.toNat := by
  have fits : date.toNat < 256 ^ 2 := date.isLt
  simp [argField, setTimeArguments, beNumber_beBytes fits]

@[simp] theorem setTimeArguments_ms : argField (setTimeArguments date ms mode) 2 4 = ms.toNat := by
  have fits : ms.toNat < 256 ^ 4 := ms.isLt
  simp [argField, setTimeArguments, beNumber_beBytes fits]

@[simp] theorem setTimeArguments_mode : argField (setTimeArguments date ms mode) 6 1 = mode.toNat := by
  have mode_last : (setTimeArguments date ms mode).drop 6 = [mode] := List.drop_left' (by simp)
  simp [argField, mode_last, beNumber]

end Arguments

/-! ### The checks of R12 -/

section Checks

variable {p : Port} {date : BitVec 16} {ms : BitVec 32} {mode : Byte} {s : State}

/-- The three modes (R188). -/
theorem setTimeMode_cases (h : ¬ 3 ≤ mode.toNat) : mode = 0 ∨ mode = 1 ∨ mode = 2 := by bv_omega

/-- R12, check 1. -/
theorem serveSetTime_without_right (args : List Byte) (right : (s.port p).rights.time = false) :
    serveSetTime p args s = .refuse .denied 0 := by
  simp [serveSetTime, right]

/-- R12, check 2. -/
theorem serveSetTime_unknown_mode (right : (s.port p).rights.time = true) (unknown : 3 ≤ mode.toNat) :
    serveSetTime p (setTimeArguments date ms mode) s = .refuse .range mode.toNat := by
  simp only [serveSetTime, right, setTimeArguments_mode, if_true]
  split
  · omega
  · omega
  · omega
  · rfl

theorem serveSetTime_immediate (right : (s.port p).rights.time = true) :
    serveSetTime p (setTimeArguments date ms 0) s = setImmediate p date.toNat ms.toNat s := by
  simp [serveSetTime, right]

theorem serveSetTime_atMark (right : (s.port p).rights.time = true) :
    serveSetTime p (setTimeArguments date ms 1) s = stageSet p date.toNat ms.toNat s := by
  simp [serveSetTime, right]

theorem serveSetTime_withdraw (right : (s.port p).rights.time = true) :
    serveSetTime p (setTimeArguments date ms 2) s = withdrawSet s := by
  simp [serveSetTime, right]

/-- R12, check 3. -/
theorem serveSetTime_ms_out_of_range (right : (s.port p).rights.time = true) (setting : mode.toNat ≤ 1)
    (late : dayMs ≤ ms.toNat) : serveSetTime p (setTimeArguments date ms mode) s = .refuse .range 0 := by
  obtain rfl | rfl : mode = 0 ∨ mode = 1 := by bv_omega
  · rw [serveSetTime_immediate right, setImmediate, if_pos late]
  · rw [serveSetTime_atMark right, stageSet, if_pos late]

/-- R12, check 4. -/
theorem serveSetTime_in_burst (right : (s.port p).rights.time = true) (inDay : ¬ dayMs ≤ ms.toNat)
    (burst : s.trip.burst.isSome = true) : serveSetTime p (setTimeArguments date ms 0) s = .refuse .busy 0 := by
  rw [serveSetTime_immediate right, setImmediate, if_neg inDay, if_pos burst]

/-- A SET_TIME that passes the checks of R12 answers with the READ_TIME payload of the state it leaves. -/
theorem serveSetTime_accepts (right : (s.port p).rights.time = true) (known : ¬ 3 ≤ mode.toNat)
    (inDay : ¬ (mode.toNat ≤ 1 ∧ dayMs ≤ ms.toNat)) (noBurst : ¬ (mode = 0 ∧ s.trip.burst.isSome = true)) :
    ∃ t, serveSetTime p (setTimeArguments date ms mode) s = .accept t (timePayload t) := by
  obtain rfl | rfl | rfl := setTimeMode_cases known
  · have inDay : ¬ dayMs ≤ ms.toNat := fun h => inDay ⟨by decide, h⟩
    have noBurst : ¬ s.trip.burst.isSome = true := fun h => noBurst ⟨rfl, h⟩
    rw [serveSetTime_immediate right, setImmediate, if_neg inDay, if_neg noBurst]
    exact ⟨_, rfl⟩
  · have inDay : ¬ dayMs ≤ ms.toNat := fun h => inDay ⟨by decide, h⟩
    rw [serveSetTime_atMark right, stageSet, if_neg inDay]
    exact ⟨_, rfl⟩
  · rw [serveSetTime_withdraw right]
    exact ⟨_, rfl⟩

end Checks

/-! ### A request whose frame passes the checks of the port -/

section Served

variable {p : Port} {code : Byte} {fits : Nat → Bool} {serve : List Byte → State → Answer} {rest args : List Byte} {s : State}

/-- A request that its block refuses (R171). -/
theorem takeRequest_refused {c : RefusalCode} {d : Nat} (run : s.running = true) (shape : frameArguments rest = some args)
    (fit : fits args.length = true) (answer : serve args (s.idleFrame p) = .refuse c d) :
    takeRequest p code fits serve rest s = s.refusedAt p code c d := by
  simpa [run, shape, fit, answer] using takeRequest_cases p code fits serve rest s

/-- A request that its block carries out (R171). -/
theorem takeRequest_accepted {t : State} {payload : List Byte} (run : s.running = true)
    (shape : frameArguments rest = some args) (fit : fits args.length = true)
    (answer : serve args (s.idleFrame p) = .accept t payload) :
    takeRequest p code fits serve rest s = t.respond p (.ok payload) := by
  simpa [run, shape, fit, answer] using takeRequest_cases p code fits serve rest s

end Served

@[simp] theorem State.rights_idleFrame (s : State) (p : Port) : ((s.idleFrame p).port p).rights = (s.port p).rights := by
  simp [State.idleFrame]

@[simp] theorem State.response_respond (s : State) (p : Port) (r : Response) : ((s.respond p r).port p).response = r := by
  simp [State.respond]

/-- The answer at a port is not in the READ_TIME payload. -/
@[simp] theorem timePayload_respond (s : State) (p : Port) (r : Response) : timePayload (s.respond p r) = timePayload s := rfl

section Command

variable {p : Port} {date : BitVec 16} {ms : BitVec 32} {mode : Byte} {s : State}

theorem exec_setTime_refused {c : RefusalCode} {d : Nat} (run : s.running = true)
    (answer : serveSetTime p (setTimeArguments date ms mode) (s.idleFrame p) = .refuse c d) :
    exec (.setTime p (setTimeFrame date ms mode)) s = .next (s.refusedAt p 0x02 c d) :=
  congrArg Host.Outcome.next
    (takeRequest_refused run (frameArguments_setTimeFrame date ms mode) (by simp [exactly]) answer)

theorem exec_setTime_accepted {t : State} (run : s.running = true)
    (answer : serveSetTime p (setTimeArguments date ms mode) (s.idleFrame p) = .accept t (timePayload t)) :
    ∃ u, exec (.setTime p (setTimeFrame date ms mode)) s = .next u ∧ (u.port p).response = .ok (timePayload u) := by
  refine ⟨t.respond p (.ok (timePayload t)), congrArg Host.Outcome.next ?_, by simp⟩
  exact takeRequest_accepted run (frameArguments_setTimeFrame date ms mode) (by simp [exactly]) answer

end Command

/-- Settles O14: the three rows with a mode are the frame with that mode byte by definition, and each branch of R12's order is
the check of that name. -/
theorem setTimeChecksInOrder : Obligations.SetTimeChecksInOrder := by
  intro p date ms mode s run
  refine ⟨by rintro rfl; rfl, by rintro rfl; rfl, by rintro rfl; rfl, ?_⟩
  have rights := s.rights_idleFrame p
  split_ifs with denied unknown late busy
  · exact exec_setTime_refused run (serveSetTime_without_right _ (by rw [rights, denied]))
  all_goals have right : ((s.idleFrame p).port p).rights.time = true := by simpa [rights] using denied
  · exact exec_setTime_refused run (serveSetTime_unknown_mode right unknown)
  · exact exec_setTime_refused run (serveSetTime_ms_out_of_range right late.1 late.2)
  · obtain ⟨rfl, burst⟩ := busy
    exact exec_setTime_refused run (serveSetTime_in_burst right (fun h => late ⟨by decide, h⟩) burst)
  · obtain ⟨t, answer⟩ := serveSetTime_accepts right unknown late busy
    exact exec_setTime_accepted run answer

end Sys2Proof.Machine
end

section
/-!
SUPPORT. The quiet time of a burst (R67): how SET_BURST stores it, how a POINT record uses it, and that the actions of a return, of a
closing and of a warm restart leave it.
-/

namespace Sys2Proof.Machine

/-! ### SET_BURST -/

section SetBurst

variable {p : Port} {a b : Byte} {s : State}

/-- The field of two bytes in a SET_BURST frame (R188). -/
theorem argField_twoBytes (a b : Byte) : argField [a, b] 0 2 = a.toNat * 256 + b.toNat := by
  simp [argField, beNumber]

theorem exec_setBurst_denied (run : s.running = true) (right : (s.port p).rights.config = false) :
    exec (.setBurst p [2, a, b]) s = .next (s.refusedAt p 0x1A .denied 0) := by
  have answer : serveSetBurst p [a, b] (s.idleFrame p) = .refuse .denied 0 := by simp [serveSetBurst, right]
  exact congrArg Host.Outcome.next (takeRequest_refused run rfl rfl answer)

/-- A block that replaces the trip unit and answers leaves what `okAt` says of the port. -/
theorem State.respond_withTrip_idleFrame (s : State) (p : Port) (x : TripUnit) (payload : List Byte) :
    ((s.idleFrame p).withTrip x).respond p (.ok payload) = (s.withTrip x).okAt p payload := by
  have unit : ((s.idleFrame p).withTrip x).port p = { s.port p with frame := none } := s.port_withPort_self p _
  have ports : (s.withTrip x).port p = s.port p := rfl
  simp only [State.respond, State.okAt, unit, ports]
  exact (s.withTrip x).withPort_withPort p _ _

theorem exec_setBurst_stored {quiet : Nat} (run : s.running = true) (right : (s.port p).rights.config = true)
    (clamped : clamp 50 5000 (a.toNat * 256 + b.toNat) = quiet) :
    exec (.setBurst p [2, a, b]) s =
      .next ((s.withTrip { s.trip with quietTime := quiet }).okAt p (beBytes 2 quiet)) := by
  have answer : serveSetBurst p [a, b] (s.idleFrame p) =
      .accept ((s.idleFrame p).withTrip { s.trip with quietTime := quiet }) (beBytes 2 quiet) := by
    simp [serveSetBurst, right, argField_twoBytes, clamped]
  rw [← State.respond_withTrip_idleFrame]
  exact congrArg Host.Outcome.next (takeRequest_accepted run rfl rfl answer)

end SetBurst

/-! ### The quiet wait of a POINT record -/

/-- A POINT record with no burst open opens one: its quiet wait is the stored one, its limit 10 s (R61, R64). -/
theorem TripUnit.onPointRecord_opens {x : TripUnit} (elapsed : Nat) (closed : x.burst = none) :
    (x.onPointRecord elapsed).burst =
      some ⟨nextBurst x.lastBurst, elapsed + msDuration x.quietTime, elapsed + burstLimit⟩ := by
  simp [TripUnit.onPointRecord, closed]

/-- A POINT record in an open burst starts the quiet wait again and leaves the limit (R63, R64). -/
theorem TripUnit.onPointRecord_prolongs {x : TripUnit} {o : Burst} (elapsed : Nat) (opened : x.burst = some o) :
    (x.onPointRecord elapsed).burst = some { o with quietExpiry := elapsed + msDuration x.quietTime } := by
  simp [TripUnit.onPointRecord, opened]

/-! ### Actions that leave the trip unit -/

theorem TallyFrame.trip {s t : State} (h : TallyFrame s t) : t.trip = s.trip := by rw [h.1]

theorem DutyFrame.trip {s t : State} (h : DutyFrame s t) : t.trip = s.trip := by rw [h.1]

@[simp] theorem setNotice_trip (p : Port) (n : Notice) (on : Bool) (s : State) : (setNotice p n on s).trip = s.trip :=
  (setNotice_frame p n on s).tally.trip

@[simp] theorem produce_trip (outage : Bool) (body : RecordBody) (s : State) : (produce outage body s).trip = s.trip :=
  (produce_frame outage body s).tally.trip

@[simp] theorem raiseAtAll_trip (n : Notice) (s : State) : (raiseAtAll n s).trip = s.trip :=
  (raiseAtAll_frame n s).tally.trip

@[simp] theorem handInput_trip (k : Nat) (v : Bool) (s : State) : (handInput k v s).trip = s.trip :=
  (handInput_frame k v s).trip

@[simp] theorem dutyCheck_trip (outage : Bool) (s : State) : (dutyCheck outage s).trip = s.trip :=
  (dutyCheck_frame outage s).trip

@[simp] theorem takeBoundary_trip (s : State) : (takeBoundary s).trip = s.trip :=
  (takeBoundary_frame s).trip

@[simp] theorem tallyClosing_trip (s : State) : (tallyClosing s).trip = s.trip := by
  have closed (i : Fin 12) (t : State) (h : TallyFrame s t) : TallyFrame s (closeTally i t) := by
    unfold closeTally
    split
    · exact h.trans (.withEntry ..)
    · exact h
  have allClosed : TallyFrame s (atAllTallies closeTally s) := atAllTallies_keeps closed (.refl s)
  rw [tallyClosing, State.withTally_trip, allClosed.trip]

theorem restoreTally_frame (i : Fin 12) (s : State) : TallyFrame s (restoreTally i s) :=
  (evaluateTally_frame ..).trans (evaluateDue_frame ..)

@[simp] theorem tallyRestore_trip (s : State) : (tallyRestore s).trip = s.trip := by
  have restored (t : State) : TallyFrame t (atAllTallies restoreTally t) :=
    atAllTallies_keeps (fun i _ h => h.trans (restoreTally_frame i _)) (.refl t)
  have handed (t : State) : TallyFrame t (atAllPorts syncTallyDue t) :=
    atAllPorts_keeps (fun p _ h => h.trans (syncTallyDue_frame p _).tally) (.refl t)
  exact ((TallyFrame.withTally ..).trans ((restored _).trans (handed _))).trip

@[simp] theorem cancelDebounce_trip (n : Fin 32) (s : State) : (cancelDebounce n s).trip = s.trip := rfl

@[simp] theorem pointClosing_trip (s : State) : (pointClosing s).trip = s.trip := by
  unfold pointClosing
  exact atAllPoints_keeps (P := fun t => t.trip = s.trip) (fun n t h => (cancelDebounce_trip n t).trans h) rfl

@[simp] theorem reportRelease_trip (outage : Bool) (n : Fin 32) (s : State) :
    (reportRelease outage n s).trip = s.trip := by
  unfold reportRelease
  split
  · exact produce_trip ..
  · rfl

/-- The restore of a point makes no POINT record (R59): a differing line starts a debounce. -/
@[simp] theorem restorePoint_trip (n : Fin 32) (s : State) : (restorePoint n s).trip = s.trip := by
  unfold restorePoint
  dsimp only
  split
  · rfl
  · split <;> simp [setChatter, startDebounce]

@[simp] theorem pointRestore_trip (s : State) : (pointRestore s).trip = s.trip := by
  unfold pointRestore
  exact atAllPoints_keeps (P := fun t => t.trip = s.trip) (fun n t h => (restorePoint_trip n t).trans h) rfl

@[simp] theorem producePower_trip (cause : PowerCause) (s : State) : (producePower cause s).trip = s.trip :=
  produce_trip ..

/-- The stages of a return leave the trip unit (R183). -/
@[simp] theorem returnStages_trip (cause : PowerCause) (pins : AddressPins) (s : State) :
    (returnStages cause pins s).trip = s.trip := by
  have ports (t : State) : (atAllPorts (returnPort pins) t).trip = t.trip := rfl
  simp [returnStages, ports]

/-! ### Actions that leave the quiet time -/

@[simp] theorem finaliseFirstOut_quietTime (s : State) : (finaliseFirstOut s).trip.quietTime = s.trip.quietTime := by
  unfold finaliseFirstOut
  split <;> simp

@[simp] theorem closeBurst_quietTime (s : State) : (closeBurst s).trip.quietTime = s.trip.quietTime := by
  unfold closeBurst
  split <;> simp

@[simp] theorem closeBurstAndTallies_quietTime (order : ClosingOrder) (s : State) :
    (closeBurstAndTallies order s).trip.quietTime = s.trip.quietTime := by
  cases order <;> simp [closeBurstAndTallies]

/-- The closing actions close the burst and leave its quiet time (R181). -/
@[simp] theorem closingActions_quietTime (order : ClosingOrder) (s : State) :
    (closingActions order s).trip.quietTime = s.trip.quietTime := by
  have ports (t : State) : (atAllPorts closePort t).trip = t.trip := rfl
  simp [closingActions, ports, discardStaged]

@[simp] theorem mainLoss_quietTime (order : ClosingOrder) (low : Bool) (s : State) :
    (mainLoss order low s).trip.quietTime = s.trip.quietTime := by
  unfold mainLoss
  split <;> simp [writeStart]

@[simp] theorem warmRestart_quietTime (cause : PowerCause) (pins : AddressPins) (order : ClosingOrder) (s : State) :
    (warmRestart cause pins order s).trip.quietTime = s.trip.quietTime := by
  simp [warmRestart, noteRestart, writeStart]

@[simp] theorem assertReset_quietTime (pins : AddressPins) (order : ClosingOrder) (s : State) :
    (assertReset pins order s).trip.quietTime = s.trip.quietTime := by
  unfold assertReset
  split <;> simp

/-- A RESTART frame at port A: a warm restart in RUN, not taken in BACKUP (R177). -/
theorem takeRequest_restart_quietTime (pins : AddressPins) (order : ClosingOrder) (s : State) :
    (takeRequest .a 0x4F (exactly 0) (serveRestart .a pins order) [0] s).trip.quietTime = s.trip.quietTime := by
  cases run : s.running with
  | false => simp [takeRequest, run]
  | true =>
    have answer : serveRestart .a pins order [] (s.idleFrame .a) =
      .accept (warmRestart .restartRequest pins order (s.idleFrame .a)) [] := rfl
    rw [takeRequest_accepted run rfl rfl answer]
    simp

/-! ### The return of the supply -/

/-- A return with retention valid, and a qualification that has not expired, leave the trip unit (R183). -/
theorem expireQualification_trip_retained (pins : AddressPins) (high : Bool) {s : State}
    (retained : s.supply.retentionValid = true) : (expireQualification pins high s).trip = s.trip := by
  unfold expireQualification
  split
  · rfl
  · split
    · simp [outageReturn]
    · rfl

/-- A return that finds retention lost gives the trip unit its cold values (R184). -/
theorem expireQualification_trip_lost (pins : AddressPins) (high : Bool) {s : State} {e : Nat} (backup : s.running = false)
    (lost : s.supply.retentionValid = false) (qualifying : s.supply.qualification = some e) (reached : e ≤ s.elapsed) :
    (expireQualification pins high s).trip = .cold := by
  have cold : expireQualification pins high s = coldStart pins high s := by
    simp [expireQualification, qualifying, backup, lost, State.reached, reached]
  rw [cold, coldStart, returnStages_trip]
  rfl

/-- Settles O33: SET_BURST and the POINT record by their equations; retention because neither closing actions nor the stages of a
return touch the quiet time; the cold value because a cold start resets the trip unit. -/
theorem burstQuietTimeIsStored : Obligations.BurstQuietTimeIsStored := by
  intro p a b s run
  refine ⟨exec_setBurst_denied run, fun right => exec_setBurst_stored run right rfl,
    fun elapsed => ⟨TripUnit.onPointRecord_opens elapsed, fun _ => TripUnit.onPointRecord_prolongs elapsed⟩, ?_, ?_, ?_⟩
  · rintro c t (⟨order, low, rfl⟩ | ⟨pins, order, rfl⟩ | ⟨pins, order, rfl⟩) ⟨⟩
    · exact mainLoss_quietTime ..
    · exact assertReset_quietTime ..
    · exact takeRequest_restart_quietTime ..
  · rintro u t pins high retained ⟨⟩
    rw [expireQualification_trip_retained pins high retained]
  · rintro u t pins high e backup lost qualifying reached ⟨⟩
    rw [expireQualification_trip_lost pins high backup lost qualifying reached]
    rfl

end Sys2Proof.Machine
end

section
/-!
SUPPORT. What an action makes of the event queue. A record that is produced acts on the queue as `EventQueue.report` says; every
action of a boundary, a closing, a return or a warm restart leaves the queue as it was after some further records, as `RecordFrame`
says.
-/

namespace Sys2Proof.Machine

/-! ### The queue after a record -/

/-- R90: a discarded record counts 1 at a subscribed port. -/
theorem discardAt_queue (p : Port) (s : State) :
    (discardAt p s).queue =
      { s.queue with
        tailGap := s.queue.tailGap.set p
          (if s.queue.subscribed.get p then addGap (s.queue.tailGap.get p) 1 else s.queue.tailGap.get p) } := by
  unfold discardAt
  split <;> simp

/-- R91: the loss of a removed record is counted at a port that had yet to read it. -/
theorem loseRemoved_queue (h : Held) (p : Port) (s : State) :
    (loseRemoved h p s).queue =
      match h.readers.get p with
      | none => s.queue
      | some g => s.queue.addLoss p (g + 1) := by
  unfold loseRemoved
  cases h.readers.get p with
  | none => rfl
  | some g => simp [loseAt]

theorem removeOldest_queue (s : State) : (removeOldest s).queue = s.queue.withoutOldest := by
  unfold removeOldest EventQueue.withoutOldest
  cases s.queue.held with
  | nil => rfl
  | cons h t =>
    simp only [atAllPorts, loseRemoved_queue]
    rfl

theorem enterRecord_queue (r : Record) (s : State) :
    (enterRecord r s).queue =
      { s.queue with held := s.queue.held ++ [⟨r, s.queue.newReaders⟩], tailGap := s.queue.clearedTails } := by
  simp [enterRecord, atAllPorts]

/-- R90: a record discarded at all ports. -/
theorem atAllPorts_discardAt_queue (s : State) :
    let count := fun (p : Port) =>
      if s.queue.subscribed.get p then addGap (s.queue.tailGap.get p) 1 else s.queue.tailGap.get p
    (atAllPorts discardAt s).queue = { s.queue with tailGap := ⟨count .a, count .b, count .c⟩ } := by
  simp only [atAllPorts, discardAt_queue]
  rfl

theorem storeRecord_queue (r : Record) (s : State) : (storeRecord r s).queue = s.queue.place r := by
  unfold storeRecord EventQueue.place
  cases s.queue.anySubscribed with
  | false => rfl
  | true =>
    by_cases room : s.queue.held.length < queueRoom
    · simpa [room] using enterRecord_queue r s
    · cases full : s.queue.mode with
      | keepOldest => simpa [room, full] using atAllPorts_discardAt_queue s
      | keepNewest => simp [room, enterRecord_queue, removeOldest_queue]

theorem produceAt_queue (i : Instant) (outage : Bool) (body : RecordBody) (s : State) :
    (produceAt i outage body s).queue = s.queue.report i s.time.quality s.burstNumber outage body :=
  storeRecord_queue ..

/-! ### Sequences of records -/

theorem EventQueue.Reports.refl (q : EventQueue) : q.Reports q := ⟨[], rfl⟩

theorem EventQueue.Reports.trans {q r t : EventQueue} (h : q.Reports r) (k : r.Reports t) : q.Reports t := by
  obtain ⟨first, rfl⟩ := h
  obtain ⟨more, rfl⟩ := k
  exact ⟨first ++ more, List.foldl_append.symm⟩

/-- Whatever else differs, the queue is as it was after some further records. -/
structure RecordFrame (s t : State) : Prop where
  reports : s.queue.Reports t.queue

theorem RecordFrame.of_queue_eq {s t : State} (h : t.queue = s.queue) : RecordFrame s t := ⟨h ▸ .refl _⟩

theorem RecordFrame.refl (s : State) : RecordFrame s s := .of_queue_eq rfl

theorem RecordFrame.trans {s t u : State} (h : RecordFrame s t) (k : RecordFrame t u) : RecordFrame s u :=
  ⟨h.reports.trans k.reports⟩

theorem RecordFrame.withTime (s : State) (x : TimeBase) : RecordFrame s (s.withTime x) := .of_queue_eq rfl

theorem RecordFrame.withTrip (s : State) (x : TripUnit) : RecordFrame s (s.withTrip x) := .of_queue_eq rfl

theorem RecordFrame.withTally (s : State) (x : TallyUnit) : RecordFrame s (s.withTally x) := .of_queue_eq rfl

theorem RecordFrame.withDuty (s : State) (x : DutyUnit) : RecordFrame s (s.withDuty x) := .of_queue_eq rfl

theorem RecordFrame.withHandover (s : State) (x : HandoverFields) : RecordFrame s (s.withHandover x) := .of_queue_eq rfl

theorem RecordFrame.withSupply (s : State) (x : SupplyMonitor) : RecordFrame s (s.withSupply x) := .of_queue_eq rfl

theorem RecordFrame.withPort (s : State) (p : Port) (x : PortUnit) : RecordFrame s (s.withPort p x) := .of_queue_eq rfl

theorem RecordFrame.withPoint (s : State) (n : Fin 32) (x : Point) : RecordFrame s (s.withPoint n x) := .of_queue_eq rfl

theorem RecordFrame.withEntry (s : State) (i : Fin 12) (x : Tally) : RecordFrame s (s.withEntry i x) := .of_queue_eq rfl

theorem setNotice_records (p : Port) (n : Notice) (on : Bool) (s : State) : RecordFrame s (setNotice p n on s) :=
  .of_queue_eq (setNotice_queue ..)

theorem raiseAtAll_records (n : Notice) (s : State) : RecordFrame s (raiseAtAll n s) :=
  .of_queue_eq (raiseAtAll_queue ..)

theorem produceAt_records (i : Instant) (outage : Bool) (body : RecordBody) (s : State) :
    RecordFrame s (produceAt i outage body s) :=
  ⟨[⟨i, s.time.quality, s.burstNumber, outage, body⟩], produceAt_queue i outage body s⟩

theorem produce_records (outage : Bool) (body : RecordBody) (s : State) : RecordFrame s (produce outage body s) :=
  produceAt_records ..

theorem produceIf_records (c outage : Bool) (body : RecordBody) (s : State) :
    RecordFrame s (if c then produce outage body s else s) := by
  cases c
  · exact .refl s
  · exact produce_records ..

theorem atAllPorts_records {f : Port → State → State} (h : ∀ p s, RecordFrame s (f p s)) (s : State) :
    RecordFrame s (atAllPorts f s) :=
  atAllPorts_keeps (fun p _ k => k.trans (h p _)) (.refl s)

theorem atAllPoints_records {f : Fin 32 → State → State} (h : ∀ n s, RecordFrame s (f n s)) (s : State) :
    RecordFrame s (atAllPoints f s) :=
  atAllPoints_keeps (fun n _ k => k.trans (h n _)) (.refl s)

theorem atAllTallies_records {f : Fin 12 → State → State} (h : ∀ i s, RecordFrame s (f i s)) (s : State) :
    RecordFrame s (atAllTallies f s) :=
  atAllTallies_keeps (fun i _ k => k.trans (h i _)) (.refl s)

/-! ### The tally unit -/

theorem syncTallyDue_records (p : Port) (s : State) : RecordFrame s (syncTallyDue p s) := setNotice_records ..

theorem evaluateDue_records (outage : Bool) (i : Fin 12) (s : State) : RecordFrame s (evaluateDue outage i s) := by
  unfold evaluateDue
  dsimp only
  split
  · exact .refl s
  · exact (RecordFrame.withEntry ..).trans
      ((produceIf_records ..).trans (atAllPorts_records syncTallyDue_records _))

theorem applyPreset_records (outage : Bool) (i : Fin 12) (x : StagedPreset) (s : State) :
    RecordFrame s (applyPreset outage i x s) :=
  (RecordFrame.withEntry ..).trans
    ((produce_records ..).trans ((evaluateDue_records ..).trans (RecordFrame.withEntry ..)))

theorem completeQualification_records (outage : Bool) (i : Fin 12) (s : State) :
    RecordFrame s (completeQualification outage i s) :=
  (RecordFrame.withEntry ..).trans ((produceIf_records ..).trans (evaluateDue_records ..))

theorem enterQualifying_records (outage : Bool) (i : Fin 12) (s : State) :
    RecordFrame s (enterQualifying outage i s) := by
  unfold enterQualifying
  dsimp only
  split
  · exact (RecordFrame.withEntry ..).trans (completeQualification_records ..)
  · exact .withEntry ..

theorem abandonQualifying_records (i : Fin 12) (s : State) : RecordFrame s (abandonQualifying i s) := .withEntry ..

theorem applyStagedPreset_records (outage : Bool) (i : Fin 12) (s : State) :
    RecordFrame s (applyStagedPreset outage i s) := by
  unfold applyStagedPreset
  split
  · exact .refl s
  · exact applyPreset_records ..

theorem endRun_records (outage : Bool) (i : Fin 12) (s : State) : RecordFrame s (endRun outage i s) :=
  (produceIf_records ..).trans ((applyStagedPreset_records ..).trans (RecordFrame.withEntry ..))

theorem evaluateTally_records (outage : Bool) (i : Fin 12) (s : State) :
    RecordFrame s (evaluateTally outage i s) := by
  unfold evaluateTally
  split
  · exact enterQualifying_records ..
  · exact abandonQualifying_records ..
  · exact endRun_records ..
  · exact .refl s

theorem handInput_records (k : Nat) (v : Bool) (s : State) : RecordFrame s (handInput k v s) := by
  unfold handInput
  split
  · exact .refl s
  · exact (RecordFrame.withTally ..).trans (atAllTallies_records (evaluateTally_records false) _)

theorem completeIfQualified_records (i : Fin 12) (s : State) : RecordFrame s (completeIfQualified i s) := by
  unfold completeIfQualified
  split
  · exact completeQualification_records ..
  · exact .refl s

theorem countBoundary_records (i : Fin 12) (s : State) : RecordFrame s (countBoundary i s) := by
  unfold countBoundary
  dsimp only
  split
  · exact .refl s
  · exact (RecordFrame.withEntry ..).trans (completeIfQualified_records ..)
  · exact (RecordFrame.withEntry ..).trans (evaluateDue_records ..)

theorem tallyBoundary_records (s : State) : RecordFrame s (tallyBoundary s) := by
  unfold tallyBoundary
  split
  · exact .refl s
  · exact atAllTallies_records countBoundary_records s

theorem closeTally_records (i : Fin 12) (s : State) : RecordFrame s (closeTally i s) := by
  unfold closeTally
  split
  · exact abandonQualifying_records ..
  · exact .refl s

theorem tallyClosing_records (s : State) : RecordFrame s (tallyClosing s) :=
  (atAllTallies_records closeTally_records s).trans (RecordFrame.withTally ..)

theorem restoreTally_records (i : Fin 12) (s : State) : RecordFrame s (restoreTally i s) :=
  (evaluateTally_records ..).trans (evaluateDue_records ..)

theorem tallyRestore_records (s : State) : RecordFrame s (tallyRestore s) :=
  (RecordFrame.withTally ..).trans
    ((atAllTallies_records restoreTally_records _).trans (atAllPorts_records syncTallyDue_records _))

/-! ### The trip unit and the point unit -/

theorem finaliseFirstOut_records (s : State) : RecordFrame s (finaliseFirstOut s) := by
  unfold finaliseFirstOut
  split
  · exact (RecordFrame.withTrip ..).trans ((produce_records ..).trans (raiseAtAll_records ..))
  · exact .refl s

theorem closeBurst_records (s : State) : RecordFrame s (closeBurst s) := by
  unfold closeBurst
  split
  · exact .refl s
  · exact (finaliseFirstOut_records s).trans ((RecordFrame.withTrip ..).trans (handInput_records ..))

theorem cancelDebounce_records (n : Fin 32) (s : State) : RecordFrame s (cancelDebounce n s) := .withPoint ..

theorem pointClosing_records (s : State) : RecordFrame s (pointClosing s) :=
  atAllPoints_records cancelDebounce_records s

theorem reportRelease_records (outage : Bool) (n : Fin 32) (s : State) :
    RecordFrame s (reportRelease outage n s) := by
  unfold reportRelease
  split
  · exact produce_records ..
  · exact .refl s

/-- The restore of a point makes no POINT record (R59): a differing line starts a debounce. -/
theorem restorePoint_records (n : Fin 32) (s : State) : RecordFrame s (restorePoint n s) := by
  have released : RecordFrame s (setChatter n .clear (reportRelease true n s)) :=
    (reportRelease_records ..).trans (RecordFrame.withPoint ..)
  unfold restorePoint
  dsimp only
  split
  · exact .refl s
  · split
    · exact released
    · exact released.trans (RecordFrame.withPoint ..)

theorem pointRestore_records (s : State) : RecordFrame s (pointRestore s) :=
  atAllPoints_records restorePoint_records s

/-! ### The duty unit -/

theorem produceHandover_records (outage : Bool) (phase : HandoverPhase) (x y : Nat) (k : Option Nat) (r z : Nat)
    (s : State) : RecordFrame s (produceHandover outage phase x y k r z s) :=
  (produce_records ..).trans (raiseAtAll_records ..)

theorem reportHandover_records (outage : Bool) (phase : HandoverPhase) (k : Nat) (s : State) :
    RecordFrame s (reportHandover outage phase k s) :=
  produceHandover_records ..

theorem handDutyHeld_records (s : State) : RecordFrame s (handDutyHeld s) := handInput_records ..

theorem applyRota_records (outage : Bool) (s : State) : RecordFrame s (applyRota outage s) := by
  unfold applyRota
  split
  · exact .refl s
  · exact (RecordFrame.withDuty ..).trans (produce_records ..)

theorem expireRelease_records (outage : Bool) (s : State) : RecordFrame s (expireRelease outage s) := by
  unfold expireRelease
  split
  · split
    · exact (RecordFrame.withHandover ..).trans (reportHandover_records ..)
    · exact .refl s
  · exact .refl s

theorem reoffer_records (outage : Bool) (s : State) : RecordFrame s (reoffer outage s) :=
  (RecordFrame.withHandover ..).trans (reportHandover_records ..)

theorem lapse_records (outage : Bool) (s : State) : RecordFrame s (lapse outage s) := by
  unfold lapse
  dsimp only
  split
  · exact (produceHandover_records ..).trans (RecordFrame.withDuty ..)
  · split
    · exact (produceHandover_records ..).trans
        ((RecordFrame.withDuty ..).trans ((applyRota_records ..).trans (handDutyHeld_records _)))
    · exact (produceHandover_records ..).trans (RecordFrame.withDuty ..)

theorem expireAccept_records (outage : Bool) (s : State) : RecordFrame s (expireAccept outage s) := by
  unfold expireAccept
  split
  · split
    · split
      · exact reoffer_records ..
      · exact lapse_records ..
    · exact .refl s
  · exact .refl s

theorem slotFalls_records (outage : Bool) (due : Instant) (k : Nat) (x : Slot) (n : Nat) (s : State) :
    RecordFrame s (slotFalls outage due k x n s) := by
  unfold slotFalls
  dsimp only
  split
  · exact .withDuty ..
  · split
    · exact (RecordFrame.withDuty ..).trans ((RecordFrame.withDuty ..).trans (reportHandover_records ..))
    · exact (RecordFrame.withDuty ..).trans
        ((RecordFrame.withDuty ..).trans ((reportHandover_records ..).trans (reportHandover_records ..)))
  · exact (RecordFrame.withDuty ..).trans ((RecordFrame.withHandover ..).trans (reportHandover_records ..))
  · exact (RecordFrame.withDuty ..).trans ((RecordFrame.withHandover ..).trans (reportHandover_records ..))

theorem checkSlots_records (outage : Bool) (s : State) : RecordFrame s (checkSlots outage s) := by
  unfold checkSlots
  split
  · exact .refl s
  · split
    · exact .withDuty ..
    · split
      · exact slotFalls_records ..
      · exact .refl s

theorem dutyCheck_records (outage : Bool) (s : State) : RecordFrame s (dutyCheck outage s) := by
  have deadlines : RecordFrame s (expireAccept outage (expireRelease outage s)) :=
    (expireRelease_records ..).trans (expireAccept_records ..)
  unfold dutyCheck
  dsimp only
  split
  · split
    · exact deadlines
    · exact deadlines.trans ((checkSlots_records ..).trans (expireRelease_records ..))
  · exact .refl s

/-! ### The boundary, the closing actions and the return -/

theorem evaluateAlarm_records (p : Port) (s : State) : RecordFrame s (evaluateAlarm p s) := setNotice_records ..

theorem handInstant_records (s : State) : RecordFrame s (handInstant s) :=
  (dutyCheck_records ..).trans (atAllPorts_records evaluateAlarm_records _)

theorem takeBoundary_records (s : State) : RecordFrame s (takeBoundary s) := by
  have taken : RecordFrame s { s with boundaryWaits := false } := .of_queue_eq rfl
  unfold takeBoundary
  split
  · exact taken.trans ((tallyBoundary_records _).trans (handInstant_records _))
  · exact .refl s

theorem writeStart_records (s : State) : RecordFrame s (writeStart s) := .withSupply ..

theorem noteRestart_records (s : State) : RecordFrame s (noteRestart s) := .withSupply ..

theorem closeBurstAndTallies_records (order : ClosingOrder) (s : State) :
    RecordFrame s (closeBurstAndTallies order s) := by
  cases order with
  | tripFirst => exact (closeBurst_records s).trans (tallyClosing_records _)
  | tallyFirst => exact (tallyClosing_records s).trans (closeBurst_records _)

theorem closePort_records (p : Port) (s : State) : RecordFrame s (closePort p s) := .withPort ..

theorem closingActions_records (order : ClosingOrder) (s : State) : RecordFrame s (closingActions order s) :=
  (pointClosing_records s).trans
    ((closeBurstAndTallies_records order _).trans
      ((RecordFrame.withTime ..).trans (atAllPorts_records closePort_records _)))

theorem mainLoss_records (order : ClosingOrder) (low : Bool) (s : State) : RecordFrame s (mainLoss order low s) := by
  unfold mainLoss
  split
  · exact (writeStart_records s).trans ((closingActions_records order _).trans (RecordFrame.withSupply ..))
  · exact .refl s

theorem producePower_records (cause : PowerCause) (s : State) : RecordFrame s (producePower cause s) :=
  produce_records ..

theorem returnPort_records (pins : AddressPins) (p : Port) (s : State) : RecordFrame s (returnPort pins p s) :=
  .withPort ..

theorem returnStages_records (cause : PowerCause) (pins : AddressPins) (s : State) :
    RecordFrame s (returnStages cause pins s) := by
  have blocks (t : State) : RecordFrame t (dutyCheck true (pointRestore (tallyRestore t))) :=
    (tallyRestore_records t).trans ((pointRestore_records _).trans (dutyCheck_records ..))
  unfold returnStages
  exact (RecordFrame.withSupply ..).trans
    ((atAllPorts_records (returnPort_records pins) _).trans ((producePower_records ..).trans (blocks _)))

theorem warmRestart_records (cause : PowerCause) (pins : AddressPins) (order : ClosingOrder) (s : State) :
    RecordFrame s (warmRestart cause pins order s) :=
  (takeBoundary_records s).trans
    ((writeStart_records _).trans
      ((noteRestart_records _).trans ((closingActions_records order _).trans (returnStages_records ..))))

theorem assertReset_records (pins : AddressPins) (order : ClosingOrder) (s : State) :
    RecordFrame s (assertReset pins order s) := by
  unfold assertReset
  split
  · exact (RecordFrame.withSupply ..).trans (warmRestart_records ..)
  · exact .refl s

/-- A RESTART frame at port A: a warm restart in RUN, not taken in BACKUP (R177). -/
theorem takeRequest_restart_records (pins : AddressPins) (order : ClosingOrder) (s : State) :
    RecordFrame s (takeRequest .a 0x4F (exactly 0) (serveRestart .a pins order) [0] s) := by
  cases run : s.running with
  | false =>
    have untaken : takeRequest .a 0x4F (exactly 0) (serveRestart .a pins order) [0] s = s := by simp [takeRequest, run]
    rw [untaken]
    exact .refl s
  | true =>
    have answer : serveRestart .a pins order [] (s.idleFrame .a) =
      .accept (warmRestart .restartRequest pins order (s.idleFrame .a)) [] := rfl
    rw [takeRequest_accepted run rfl rfl answer]
    exact (RecordFrame.withPort ..).trans ((warmRestart_records ..).trans (RecordFrame.withPort ..))

theorem outageReturn_records (pins : AddressPins) (high : Bool) (s : State) :
    RecordFrame s (outageReturn pins high s) :=
  (RecordFrame.withSupply ..).trans (returnStages_records ..)

/-- A return with retention valid, and a qualification that has not expired (R183). -/
theorem expireQualification_records_retained (pins : AddressPins) (high : Bool) {s : State}
    (retained : s.supply.retentionValid = true) : RecordFrame s (expireQualification pins high s) := by
  unfold expireQualification
  rw [if_pos retained]
  split
  · exact .refl s
  · split
    · exact outageReturn_records ..
    · exact .refl s

/-- A return that finds retention lost starts from the cold queue (R184). -/
theorem expireQualification_reports_lost (pins : AddressPins) (high : Bool) {s : State} {e : Nat}
    (backup : s.running = false) (lost : s.supply.retentionValid = false) (qualifying : s.supply.qualification = some e)
    (reached : e ≤ s.elapsed) : EventQueue.cold.Reports (expireQualification pins high s).queue := by
  have cold : expireQualification pins high s = coldStart pins high s := by
    simp [expireQualification, qualifying, backup, lost, State.reached, reached]
  rw [cold]
  exact (returnStages_records .cold pins (State.cold s.lines pins high s.freeIndex s.pending)).reports

end Sys2Proof.Machine
end

section
/-!
SUPPORT. The overflow mode (R92): how SET_QUEUE_MODE stores it, and that no record that the queue takes changes it.
-/

namespace Sys2Proof.Machine

/-! ### Records keep the mode -/

@[simp] theorem EventQueue.addLoss_mode (q : EventQueue) (p : Port) (loss : Nat) : (q.addLoss p loss).mode = q.mode := by
  unfold EventQueue.addLoss
  split <;> rfl

@[simp] theorem EventQueue.withoutOldest_mode (q : EventQueue) : q.withoutOldest.mode = q.mode := by
  unfold EventQueue.withoutOldest
  split
  · rfl
  · next h t _ =>
    have lose (p : Port) (r : EventQueue) :
        (match h.readers.get p with | none => r | some g => r.addLoss p (g + 1)).mode = r.mode := by
      split <;> simp
    exact (lose .c _).trans ((lose .b _).trans (lose .a _))

@[simp] theorem EventQueue.place_mode (q : EventQueue) (r : Record) : (q.place r).mode = q.mode := by
  unfold EventQueue.place
  dsimp only
  split
  · rfl
  · split
    · rfl
    · split
      · rfl
      · exact q.withoutOldest_mode

@[simp] theorem EventQueue.report_mode (q : EventQueue) (i : Instant) (quality : Quality) (burst : Nat) (outage : Bool)
    (body : RecordBody) : (q.report i quality burst outage body).mode = q.mode :=
  EventQueue.place_mode ..

theorem EventQueue.Reports.mode {q r : EventQueue} (h : q.Reports r) : r.mode = q.mode := by
  obtain ⟨l, rfl⟩ := h
  induction l generalizing q with
  | nil => rfl
  | cons x l ih => exact ih.trans (q.report_mode ..)

/-! ### SET_QUEUE_MODE -/

section SetQueueMode

variable {p : Port} {v : Byte} {s : State}

theorem argField_oneByte (v : Byte) : argField [v] 0 1 = v.toNat := by simp [argField, beNumber]

theorem overflowModeOf_code (mode : OverflowMode) : overflowModeOf mode.code.toNat = some mode := by
  cases mode <;> rfl

theorem overflowModeOf_eq_none {n : Nat} (h : 1 < n) : overflowModeOf n = none := by
  unfold overflowModeOf
  split
  · omega
  · omega
  · rfl

/-- The answer at a port whose frame has just become idle is what `okAt` says. -/
theorem State.respond_idleFrame (s : State) (p : Port) (payload : List Byte) :
    (s.idleFrame p).respond p (.ok payload) = s.okAt p payload := by
  simp only [State.respond, State.idleFrame, State.okAt, State.port_withPort_self, State.withPort_withPort]

theorem exec_setQueueMode_denied (run : s.running = true) (right : (s.port p).rights.config = false) :
    exec (.setQueueMode p [1, v]) s = .next (s.refusedAt p 0x22 .denied 0) := by
  have answer : serveSetQueueMode p [v] (s.idleFrame p) = .refuse .denied 0 := by simp [serveSetQueueMode, right]
  exact congrArg Host.Outcome.next (takeRequest_refused run rfl rfl answer)

theorem exec_setQueueMode_unknown (run : s.running = true) (right : (s.port p).rights.config = true)
    (unknown : 1 < v.toNat) : exec (.setQueueMode p [1, v]) s = .next (s.refusedAt p 0x22 .range v.toNat) := by
  have answer : serveSetQueueMode p [v] (s.idleFrame p) = .refuse .range v.toNat := by
    simp [serveSetQueueMode, right, argField_oneByte, overflowModeOf_eq_none unknown]
  exact congrArg Host.Outcome.next (takeRequest_refused run rfl rfl answer)

theorem exec_setQueueMode_stored (mode : OverflowMode) (run : s.running = true)
    (right : (s.port p).rights.config = true) :
    exec (.setQueueMode p [1, mode.code]) s =
      .next ((s.withQueue { s.queue with mode := mode }).okAt p [mode.code]) := by
  have answer : serveSetQueueMode p [mode.code] (s.idleFrame p) =
      .accept ((s.withQueue { s.queue with mode := mode }).idleFrame p) [mode.code] := by
    simp only [serveSetQueueMode, State.rights_idleFrame, right, argField_oneByte, overflowModeOf_code]
    rfl
  rw [← State.respond_idleFrame]
  exact congrArg Host.Outcome.next (takeRequest_accepted run rfl rfl answer)

end SetQueueMode

/-- Settles O37: SET_QUEUE_MODE by its equations, the next record by what a production makes of the queue; retention because a
closing, a return and a warm restart only report records to the queue, and a record leaves the mode; the cold value because a
cold start reports to the cold queue. -/
theorem queueModeIsStored : Obligations.QueueModeIsStored := by
  intro p v s run
  refine ⟨exec_setQueueMode_denied run, exec_setQueueMode_unknown run, ?_, ?_, ?_, ?_⟩
  · intro mode right value
    obtain rfl : v = mode.code := value
    exact ⟨exec_setQueueMode_stored mode run right, fun i outage body => produceAt_queue i outage body _⟩
  · rintro c t (⟨order, low, rfl⟩ | ⟨pins, order, rfl⟩ | ⟨pins, order, rfl⟩) ⟨⟩
    · exact (mainLoss_records ..).reports.mode
    · exact (assertReset_records ..).reports.mode
    · exact (takeRequest_restart_records ..).reports.mode
  · rintro u t pins high retained ⟨⟩
    exact (expireQualification_records_retained pins high retained).reports.mode
  · rintro u t pins high e backup lost qualifying reached ⟨⟩
    exact (expireQualification_reports_lost pins high backup lost qualifying reached).mode

end Sys2Proof.Machine
end

section
/-!
SUPPORT. What an operation at one point leaves of the others: every other point and its annunciation entry (`OnlyPoint`), and the
supply state.
-/

namespace Sys2Proof.Machine

theorem PointFrame.supply {s t : State} (h : PointFrame s t) : t.supply = s.supply := by rw [h.1]

theorem PointFrame.running {s t : State} (h : PointFrame s t) : t.running = s.running := by rw [State.running, h.supply]; rfl

theorem TallyFrame.points {s t : State} (h : TallyFrame s t) : t.points = s.points := by rw [h.1]

@[simp] theorem TripUnit.entry_withEntry_self (t : TripUnit) (n : Fin 32) (a : Annunciation) : (t.withEntry n a).entry n = a := by
  simp [TripUnit.entry, TripUnit.withEntry]

theorem TripUnit.entry_withEntry_other (t : TripUnit) {n m : Fin 32} (a : Annunciation) (h : m ≠ n) :
    (t.withEntry n a).entry m = t.entry m := by
  have : n.val ≠ m.val := fun e => h (Fin.ext e.symm)
  simp [TripUnit.entry, TripUnit.withEntry, this]

/-- Every point but `n` keeps its entry, its running state and its annunciation entry. -/
structure OnlyPoint (n : Fin 32) (s t : State) : Prop where
  point : ∀ m, m ≠ n → t.point m = s.point m
  entry : ∀ m, m ≠ n → t.trip.entry m = s.trip.entry m

section OnlyPoint

variable {n : Fin 32}

theorem OnlyPoint.refl (s : State) : OnlyPoint n s s := ⟨fun _ _ => rfl, fun _ _ => rfl⟩

theorem OnlyPoint.trans {s t u : State} (h : OnlyPoint n s t) (k : OnlyPoint n t u) : OnlyPoint n s u :=
  ⟨fun m hm => (k.point m hm).trans (h.point m hm), fun m hm => (k.entry m hm).trans (h.entry m hm)⟩

theorem TallyFrame.onlyPoint {s t : State} (h : TallyFrame s t) : OnlyPoint n s t :=
  ⟨fun m _ => by simp only [State.point, h.points], fun m _ => by rw [h.trip]⟩

theorem OnlyPoint.withPoint (s : State) (x : Point) : OnlyPoint n s (s.withPoint n x) :=
  ⟨fun _ hm => s.point_withPoint_other x hm, fun _ _ => rfl⟩

theorem OnlyPoint.withTrip (s : State) (x : TripUnit) (h : ∀ m, m ≠ n → x.entry m = s.trip.entry m) :
    OnlyPoint n s (s.withTrip x) :=
  ⟨fun _ _ => rfl, h⟩

theorem OnlyPoint.withTrip_same (s : State) (x : TripUnit) (h : x.annunciation = s.trip.annunciation) :
    OnlyPoint n s (s.withTrip x) :=
  .withTrip s x fun m _ => by simp only [TripUnit.entry, h]

theorem TripUnit.annunciation_onPointRecord (t : TripUnit) (elapsed : Nat) :
    (t.onPointRecord elapsed).annunciation = t.annunciation := by
  unfold TripUnit.onPointRecord
  dsimp only
  split <;> rfl

theorem producePoint_onlyPoint (a : Bool) (c : ChangeCause) (i : Instant) (o : Bool) (s : State) :
    OnlyPoint n s (producePoint n a c i o s) := by
  exact (OnlyPoint.withTrip_same s _ (TripUnit.annunciation_onPointRecord ..)).trans (produceAt_frame ..).tally.onlyPoint

theorem latchActivation_onlyPoint (k : Nat) (i : Instant) (s : State) : OnlyPoint n s (latchActivation k i s) := by
  unfold latchActivation
  split
  · exact (OnlyPoint.withTrip_same s _ (by rfl)).trans
      ((raiseAtAll_frame ..).tally.trans (handInput_frame ..)).onlyPoint
  · have ranked : OnlyPoint n s (s.withTrip (s.trip.rank k i)) := .withTrip_same s _ (by rfl)
    dsimp only
    split <;> split
    · exact ranked.trans (raiseAtAll_frame ..).tally.onlyPoint
    · exact ranked
    · exact ranked.trans (raiseAtAll_frame ..).tally.onlyPoint
    · exact ranked
  · exact .refl s

theorem takeTripChange_onlyPoint (a : Bool) (i : Instant) (s : State) : OnlyPoint n s (takeTripChange n a i s) := by
  have moved (x : TripUnit) (h : x.annunciation = (s.trip.withEntry n ((s.trip.entry n).moved a)).annunciation) :
      OnlyPoint n s (s.withTrip x) := by
    refine .withTrip s _ fun m hm => ?_
    rw [← TripUnit.entry_withEntry_other s.trip ((s.trip.entry n).moved a) hm]
    simp only [TripUnit.entry, h]
  unfold takeTripChange
  dsimp only
  split
  · exact (moved _ (by rfl)).trans (latchActivation_onlyPoint ..)
  · exact moved _ (by rfl)

theorem confirmChange_onlyPoint (a : Bool) (c : ChangeCause) (i : Instant) (o : Bool) (s : State) :
    OnlyPoint n s (confirmChange n a c i o s) := by
  have active : OnlyPoint n s (setActive n a s) := .withPoint ..
  unfold confirmChange
  dsimp only
  split
  · exact active.trans (handInput_frame ..).onlyPoint
  · exact active.trans (handInput_frame ..).onlyPoint
  · exact active.trans
      ((producePoint_onlyPoint ..).trans ((handInput_frame ..).trans (handInput_frame ..)).onlyPoint)
  · exact active.trans
      ((producePoint_onlyPoint ..).trans
        (((handInput_frame ..).trans (handInput_frame ..)).onlyPoint.trans (takeTripChange_onlyPoint ..)))

theorem setChatter_onlyPoint (c : Chatter) (s : State) : OnlyPoint n s (setChatter n c s) := .withPoint ..

theorem cancelDebounce_onlyPoint (s : State) : OnlyPoint n s (cancelDebounce n s) := .withPoint ..

theorem takeEdge_onlyPoint (s : State) : OnlyPoint n s (takeEdge n s) := by
  unfold takeEdge
  dsimp only
  split
  · exact setChatter_onlyPoint ..
  · exact cancelDebounce_onlyPoint ..
  · split
    · exact .refl s
    · exact .withPoint ..

theorem suppressPoint_onlyPoint (k : Nat) (s : State) : OnlyPoint n s (suppressPoint n k s) :=
  (produce_frame ..).tally.onlyPoint.trans (setChatter_onlyPoint ..)

theorem countChange_onlyPoint (a : Bool) (c : ChangeCause) (i : Instant) (o : Bool) (s : State) :
    OnlyPoint n s (countChange n a c i o s) := by
  unfold countChange
  dsimp only
  split
  · exact confirmChange_onlyPoint ..
  · split
    · exact (setChatter_onlyPoint ..).trans (confirmChange_onlyPoint ..)
    · split
      · exact (setChatter_onlyPoint ..).trans (confirmChange_onlyPoint ..)
      · exact suppressPoint_onlyPoint ..
    · exact .refl s

theorem releasePoint_onlyPoint (k : Nat) (s : State) : OnlyPoint n s (releasePoint n k s) := by
  have released : OnlyPoint n s (setChatter n .clear (produce false (.chatter n.val .released k) s)) :=
    (produce_frame ..).tally.onlyPoint.trans (setChatter_onlyPoint ..)
  unfold releasePoint
  dsimp only
  split
  · exact released
  · exact released.trans (confirmChange_onlyPoint ..)

theorem reportRelease_onlyPoint (o : Bool) (s : State) : OnlyPoint n s (reportRelease o n s) := by
  unfold reportRelease
  split
  · exact (produce_frame ..).tally.onlyPoint
  · exact .refl s

theorem takeFresh_onlyPoint (e : PointEntry) (s : State) : OnlyPoint n s (takeFresh n e s) :=
  (reportRelease_onlyPoint ..).trans ((OnlyPoint.withPoint ..).trans (handInput_frame ..).onlyPoint)

theorem invertLine_onlyPoint (s : State) : OnlyPoint n s (invertLine n s) := by
  unfold invertLine
  split
  · exact .refl s
  · exact (cancelDebounce_onlyPoint s).trans (takeEdge_onlyPoint _)

theorem stopChatter_onlyPoint (s : State) : OnlyPoint n s (stopChatter n s) := by
  unfold stopChatter
  split
  · exact .refl s
  · exact setChatter_onlyPoint ..
  · exact releasePoint_onlyPoint ..

theorem applySettings_onlyPoint (e : PointEntry) (s : State) : OnlyPoint n s (applySettings n e s) := by
  have inverted (t : State) (c : Prop) [Decidable c] : OnlyPoint n t (if c then t else invertLine n t) := by
    split
    · exact .refl t
    · exact invertLine_onlyPoint t
  have written : OnlyPoint n s (s.withPoint n { s.point n with entry := e }) := .withPoint ..
  unfold applySettings
  dsimp only
  split
  · exact (written.trans (inverted _ _)).trans (stopChatter_onlyPoint _)
  · exact written.trans (inverted _ _)

/-- An entry written to a point leaves every other point and its annunciation entry (R52, R53). -/
theorem writeEntry_onlyPoint (e : PointEntry) (s : State) : OnlyPoint n s (writeEntry n e s) := by
  unfold writeEntry
  split
  · exact applySettings_onlyPoint ..
  · exact takeFresh_onlyPoint ..

end OnlyPoint

/-- Whether another point holds a trip is not touched by an operation at one point. -/
theorem OnlyPoint.holdsTrip {n m : Fin 32} {s t : State} (h : OnlyPoint n s t) (hm : m ≠ n) (mode : PointMode) :
    t.holdsTrip m mode = s.holdsTrip m mode := by
  simp only [State.holdsTrip, h.point m hm, h.entry m hm]

end Sys2Proof.Machine
end

section
/-!
SUPPORT. What a command is made of. A relation between states that holds across each operation of the part (`CommandRules`) holds
across every command (`CommandRules.exec`): the 63 arms of `exec` are walked once here, and each claim about every step is then
a set of claims about operations.
-/

namespace Sys2Proof.Machine

/-! ### Bounds of operands -/

theorem beNumber_foldl_lt (bs : List Byte) (acc : Nat) :
    bs.foldl (fun n b => n * 256 + b.toNat) acc < (acc + 1) * 256 ^ bs.length := by
  induction bs generalizing acc with
  | nil => simp
  | cons b bs ih =>
    have byte : b.toNat < 256 := b.isLt
    calc _ < (acc * 256 + b.toNat + 1) * 256 ^ bs.length := ih _
      _ ≤ ((acc + 1) * 256) * 256 ^ bs.length := Nat.mul_le_mul_right _ (by omega)
      _ = (acc + 1) * 256 ^ (b :: bs).length := by rw [List.length_cons, pow_succ]; ring

/-- A field of `len` bytes is below 256 to the `len`. -/
theorem argField_lt (args : List Byte) (off len : Nat) : argField args off len < 256 ^ len := by
  have short : ((args.drop off).take len).length ≤ len := List.length_take_le ..
  have fits := beNumber_foldl_lt ((args.drop off).take len) 0
  exact fits.trans_le (by simpa using Nat.pow_le_pow_right (by decide) short)

theorem clamp_le {lo hi n : Nat} (h : lo ≤ hi) : clamp lo hi n ≤ hi := by
  unfold clamp
  omega

theorem le_clamp (lo hi n : Nat) : lo ≤ clamp lo hi n := Nat.le_max_left ..

/-! ### The rules -/

/-- A rota that SET_ROTA has found in order (R125). -/
def RotaAccepted (rota : List Slot) : Prop := rota.length ≤ 6 ∧ badSlot rota = none

/-- The trims of a discipline unit stay as they were or are within their limits (R29, R30). -/
def TrimsKept (d e : Discipline) : Prop :=
  (e.freqTrim = d.freqTrim ∨ e.freqTrim.natAbs ≤ 200000) ∧ (e.slewTrim = d.slewTrim ∨ e.slewTrim.natAbs ≤ 500000)

/-- A relation that is reflexive and transitive and holds across each operation of a block, under the conditions in which a
command takes the operation. -/
structure OperationRules (R : State → State → Prop) : Prop where
  refl : ∀ s, R s s
  trans : ∀ {s t u}, R s t → R t u → R s u
  -- ports
  answer : ∀ s p u, u = { s.port p with frame := u.frame, response := u.response, refusal := u.refusal } →
    R s (s.withPort p u)
  notice : ∀ p n on s, n ≠ .events → n ≠ .tallyDue → R s (setNotice p n on s)
  clear : ∀ p mask s, s.running = true → R s (s.withPort p ((s.port p).clearNotices s.elapsed mask))
  enables : ∀ p set style s, s.running = true → R s (s.withPort p ((s.port p).setEnables s.elapsed set style))
  alarm : ∀ p a s, R s (s.withPort p { s.port p with alarm := a })
  gap : ∀ p s, R s (endPulseGap p s)
  rights : ∀ q r m s, s.running = true → q ≠ .a → ¬ (s.duty.port = some q ∧ r.duty = false) → R s (storeRights q r m s)
  freeIndex : ∀ s n, R s { s with freeIndex := n }
  -- event queue
  record : ∀ i o b s, R s (produceAt i o b s)
  mode : ∀ m s, R s (s.withQueue { s.queue with mode := m })
  deliver : ∀ p k s, s.running = true →
    R s (syncEvents p (s.withQueue { s.queue with held := deliver p k s.queue.held }))
  join : ∀ p s, R s (joinSubscription p s)
  unsubscribe : ∀ p s, s.running = true → R s (unsubscribe p s)
  -- tally unit
  configure : ∀ i c s, s.running = true → R s (configureTally i c s)
  due : ∀ i v s, v ≤ lifetimeMax → R s (evaluateDue false i (s.withEntry i { s.entry i with dueValue := v }))
  stagePreset : ∀ i x s, (s.entry i).run = .running → x.lifetime ≤ lifetimeMax → x.starts ≤ startsMax →
    R s (s.withEntry i { s.entry i with staged := some x })
  preset : ∀ i x s, (s.entry i).run ≠ .running → x.lifetime ≤ lifetimeMax → x.starts ≤ startsMax →
    R s (applyPreset false i x s)
  complete : ∀ i s, R s (completeIfQualified i s)
  count : ∀ s, R s (tallyBoundary s)
  -- trip unit
  quiet : ∀ q s, R s (s.withTrip { s.trip with quietTime := q })
  closeBurst : ∀ s, R s (closeBurst s)
  resetFirstOut : ∀ crew s, s.running = true → s.trip.burst = none → s.trip.latch = .final →
    R s (handInput inputFirstOut false (produce false (.firstOutReset crew)
      (s.withTrip { s.trip with latch := .armed, latchingBurst := 0, ranked := [], overflow := 0 })))
  acknowledge : ∀ (l : List (Fin 32)) s, R s (s.withTrip (l.foldl TripUnit.acknowledge s.trip))
  -- point unit
  write : ∀ n e s, s.running = true → s.holdsTrip n e.mode = false → R s (writeEntry n e s)
  sample : ∀ n high s, R s (sampleLine n high s)
  debounce : ∀ n s, R s (expireDebounce n s)
  window : ∀ n s, R s (expireWindow n s)
  stability : ∀ n s, R s (expireStability n s)
  -- duty unit
  keepRota : ∀ r s, RotaAccepted r → R s (s.withDuty { s.duty with pendingRota := some r })
  applyRota : ∀ o s, R s (applyRota o s)
  take : ∀ p crew s, s.running = true → s.duty.state = .vacant → (s.port p).rights.duty = true → 1 ≤ crew → crew ≤ 15 →
    R s (takeDuty p crew s)
  accept : ∀ p crew s, s.running = true → s.duty.state = .released → (s.port p).rights.duty = true → 1 ≤ crew → crew ≤ 15 →
    R s (acceptHandover p crew s)
  openHandover : ∀ d s, s.duty.state = .onDuty →
    R s (s.withDuty { s.duty with state := .due, handover := ⟨none, 0, some d, none, false, 0⟩ })
  release : ∀ d s, s.duty.state = .due →
    R s (s.withDuty { s.duty with state := .released, handover := { s.duty.handover with acceptDeadline := some d } })
  reclaim : ∀ s, s.duty.state = .released →
    R s (s.withDuty { s.duty with state := .due, handover := { s.duty.handover with acceptDeadline := none } })
  handoverSettings : ∀ h s, h.reofferLimit ≤ 7 → h.standingCrew ≤ 15 → R s (s.withDuty { s.duty with settings := h })
  served : ∀ i s, R s (s.withDuty { s.duty with lastServed := i })
  releaseDeadline : ∀ o s, R s (expireRelease o s)
  acceptDeadline : ∀ o s, R s (expireAccept o s)
  slots : ∀ o s, R s (checkSlots o s)
  -- time base and discipline unit
  quality : ∀ q s, R s (moveQuality q s)
  unstage : ∀ s, R s (discardStaged s)
  stage : ∀ date ms p s, date < 65536 → ms < dayMs →
    R s (s.withTime { s.time with staged := some ⟨date, ms / 1000 * 1000, p⟩ })
  rewrite : ∀ date ms s, date < 65536 → ms < dayMs → R s (rewriteTime date ms s)
  stagedSet : ∀ x s, s.time.staged = some x → R s (rewriteTime x.date x.ms (discardStaged s))
  discipline : ∀ d s, TrimsKept s.discipline d → R s (s.withDiscipline d)
  advance : ∀ s, R s (advanceClock s)
  elapse : ∀ s e, R s { s with elapsed := e }
  boundary : ∀ s, R s { s with boundaryWaits := false }
  -- supply monitor
  supply : ∀ m s, m.state = s.supply.state → R s (s.withSupply m)

/-- The same across the operations that turn the supply off or on, which no relation need hold within. -/
structure CommandRules (R : State → State → Prop) : Prop extends OperationRules R where
  mainLoss : ∀ o low s, R s (mainLoss o low s)
  restart : ∀ cause pins o s, s.running = true → R s (returnStages cause pins (closingActions o s))
  outage : ∀ pins high s, s.running = false → R s (outageReturn pins high s)
  cold : ∀ pins high s, R s (coldStart pins high s)

/-! ### The ranges of a rewritten instant -/

theorem Instant.ofUs_date_lt (n : Nat) : (Instant.ofUs n).date < 65536 := by
  have circle : n % circleUs < circleUs := Nat.mod_lt _ (by decide)
  exact Nat.div_lt_of_lt_mul (circle.trans_eq (by decide))

theorem Instant.ofUs_ms_lt (n : Nat) : (Instant.ofUs n).ms < dayMs := Nat.mod_lt _ (by decide)

theorem clampInt_natAbs_le {limit : Nat} (n : Int) : (clampInt (-limit) limit n).natAbs ≤ limit := by
  unfold clampInt
  omega

theorem learn_kept (d : DisciplineSettings) (consecutive : Bool) (f e : Int) :
    learn d consecutive f e = f ∨ (learn d consecutive f e).natAbs ≤ 200000 := by
  unfold learn
  split
  · exact .inr (clampInt_natAbs_le (limit := 200000) _)
  · exact .inl rfl

theorem slewOf_natAbs_le (e : Int) : (slewOf e).natAbs ≤ 500000 := clampInt_natAbs_le (limit := 500000) _

/-- A field that leaves the mode takes no point out of TRIP. -/
theorem FieldWrite.holdsTrip_into {w : FieldWrite} {n : Fin 32} {s : State}
    (h : ∀ m, w = .mode m → s.holdsTrip n m = false) :
    s.holdsTrip n (w.into (s.point n).entry).mode = false := by
  cases w with
  | mode m => exact h m rfl
  | polarity _ | debounce _ | chatterLimit _ | chatterWindow _ =>
    unfold State.holdsTrip
    cases h : (s.point n).entry.mode <;> simp [FieldWrite.into, h]

theorem firstHeldTrip_none {w : FieldWrite} {mask : BitVec 32} {s : State} (h : firstHeldTrip w mask s = none)
    (n : Fin 32) (m : PointMode) (hw : w = .mode m) (hn : mask.getLsbD n.val = true) : s.holdsTrip n m = false := by
  subst hw
  simpa [hn] using List.find?_eq_none.1 h n (List.mem_finRange n)

/-- The check of R135 and R136 passes in the wanted state alone. -/
theorem holderCheck_state {p : Port} {crew : Nat} {wanted : DutyState} {s : State} (h : holderCheck p crew wanted s = none) :
    s.duty.state = wanted := by
  by_contra other
  unfold holderCheck at h
  split_ifs at h

theorem reclaimCheck_state {p : Port} {crew : Nat} {s : State} (h : reclaimCheck p crew s = none) :
    s.duty.state = .released := by
  unfold reclaimCheck at h
  split at h
  · cases h
  · exact holderCheck_state h

/-! ### The shared operations -/

namespace OperationRules

variable {R : State → State → Prop} (rules : OperationRules R)
include rules

theorem allPorts {f : Port → State → State} (h : ∀ p s, R s (f p s)) (s : State) : R s (atAllPorts f s) :=
  atAllPorts_keeps (fun p _ k => rules.trans k (h p _)) (rules.refl s)

theorem allPoints {f : Fin 32 → State → State} (h : ∀ n s, R s (f n s)) (s : State) : R s (atAllPoints f s) :=
  atAllPoints_keeps (fun n _ k => rules.trans k (h n _)) (rules.refl s)

theorem raise (n : Notice) (s : State) (events : n ≠ .events) (due : n ≠ .tallyDue) : R s (raiseAtAll n s) :=
  rules.allPorts (fun p s => rules.notice p n true s events due) s

theorem produce (o : Bool) (b : RecordBody) (s : State) : R s (produce o b s) := rules.record ..

theorem evaluateAlarm (p : Port) (s : State) : R s (evaluateAlarm p s) := rules.notice _ _ _ _ (by decide) (by decide)

theorem produceHandover (o : Bool) (phase : HandoverPhase) (x y : Nat) (k : Option Nat) (r z : Nat) (s : State) :
    R s (produceHandover o phase x y k r z s) :=
  rules.trans (rules.produce ..) (rules.raise _ _ (by decide) (by decide))

theorem dutyCheck (o : Bool) (s : State) : R s (dutyCheck o s) := by
  have deadlines : R s (expireAccept o (expireRelease o s)) :=
    rules.trans (rules.releaseDeadline ..) (rules.acceptDeadline ..)
  unfold Sys2Proof.Machine.dutyCheck
  dsimp only
  split
  · split
    · exact deadlines
    · exact rules.trans deadlines (rules.trans (rules.slots ..) (rules.releaseDeadline ..))
  · exact rules.refl s

theorem handInstant (s : State) : R s (handInstant s) :=
  rules.trans (rules.dutyCheck ..) (rules.allPorts rules.evaluateAlarm _)

theorem takeBoundary (s : State) : R s (takeBoundary s) := by
  unfold Sys2Proof.Machine.takeBoundary
  split
  · exact rules.trans (rules.boundary s) (rules.trans (rules.count _) (rules.handInstant _))
  · exact rules.refl s

theorem moveQualityBySet (q : Quality) (s : State) : R s (moveQualityBySet q s) := by
  unfold Sys2Proof.Machine.moveQualityBySet
  split
  · exact rules.trans (rules.quality ..) (rules.served ..)
  · exact rules.quality ..

/-- What follows the rewrite of a time set (R7, R11, R13). -/
theorem timeSet (old : Instant) (p : Port) (mode : TimeSetMode) (q : Quality) (s : State) :
    R s (Sys2Proof.Machine.handInstant
      (Sys2Proof.Machine.moveQualityBySet q (Sys2Proof.Machine.produce false (.timeSet old p mode) s))) :=
  rules.trans (rules.produce ..) (rules.trans (rules.moveQualityBySet ..) (rules.handInstant _))

theorem setTimeTo {date ms : Nat} (hdate : date < 65536) (hms : ms < dayMs) (p : Port) (mode : TimeSetMode) (q : Quality)
    (s : State) : R s (setTimeTo date ms p mode q s) :=
  rules.trans (rules.rewrite date ms s hdate hms) (rules.timeSet ..)

/-! ### Marks and timers -/

theorem setLastMark (s : State) : R s (setLastMark s) := rules.discipline _ s ⟨.inl rfl, .inl rfl⟩

theorem discipline_slewStopped (s : State) (d : Discipline) (freq : d.freqTrim = s.discipline.freqTrim)
    (slew : d.slewTrim = 0) : R s (s.withDiscipline d) :=
  rules.discipline d s ⟨.inl freq, .inr (by simp [slew])⟩

theorem applyStagedSet (x : StagedSet) (s : State) (staged : s.time.staged = some x) : R s (applyStagedSet x s) := by
  unfold Sys2Proof.Machine.applyStagedSet Sys2Proof.Machine.setTimeTo
  dsimp only
  refine rules.trans (rules.discipline_slewStopped s _ ?_ ?_)
    (rules.trans (rules.stagedSet x _ ?_) (rules.trans (rules.timeSet ..) (rules.setLastMark _)))
  · rfl
  · rfl
  · exact staged

theorem stepMark (e : Int) (s : State) : R s (stepMark e s) := by
  unfold Sys2Proof.Machine.stepMark
  dsimp only
  refine rules.trans (rules.discipline_slewStopped s _ ?_ ?_)
    (rules.trans (rules.rewrite _ _ _ (Instant.ofUs_date_lt _) (Instant.ofUs_ms_lt _))
      (rules.trans (rules.produce ..)
        (rules.trans (rules.quality ..) (rules.trans (rules.handInstant _) (rules.setLastMark _)))))
  · rfl
  · rfl

theorem slewMark (deferred consecutive : Bool) (e : Int) (s : State) : R s (slewMark deferred consecutive e s) :=
  rules.trans (rules.discipline _ s ⟨learn_kept .., .inr (slewOf_natAbs_le e)⟩)
    (rules.trans (rules.quality ..) (rules.setLastMark _))

theorem measureMark (consecutive : Bool) (s : State) : R s (measureMark consecutive s) := by
  have offset (e : Int) : R s (s.withDiscipline { s.discipline with lastOffset := e }) :=
    rules.discipline _ s ⟨.inl rfl, .inl rfl⟩
  unfold Sys2Proof.Machine.measureMark
  dsimp only
  split
  · split
    · exact rules.trans (offset _) (rules.slewMark ..)
    · exact rules.trans (offset _) (rules.stepMark ..)
  · exact rules.trans (offset _) (rules.slewMark ..)

theorem acceptMark (s : State) : R s (acceptMark s) := by
  have timers : R s (restartMarkTimers s) := rules.discipline _ s ⟨.inl rfl, .inl rfl⟩
  unfold Sys2Proof.Machine.acceptMark
  dsimp only
  split
  · exact rules.trans timers (rules.applyStagedSet _ _ ‹_›)
  · split
    · exact rules.trans timers (rules.setLastMark _)
    · exact rules.trans timers (rules.measureMark ..)

theorem takeMark (s : State) : R s (takeMark s) := by
  unfold Sys2Proof.Machine.takeMark
  split
  · split
    · exact rules.acceptMark s
    · exact rules.discipline _ s ⟨.inl rfl, .inl rfl⟩
  · exact rules.refl s

theorem missMark (s : State) : R s (missMark s) := by
  have stopped : R s (s.withDiscipline { s.discipline with missingMark := none, slewTrim := 0 }) :=
    rules.discipline_slewStopped s _ rfl rfl
  unfold Sys2Proof.Machine.missMark
  dsimp only
  split
  · refine rules.trans stopped (rules.trans (rules.discipline _ _ ⟨.inl ?_, .inl ?_⟩) (rules.quality ..)) <;> rfl
  · refine rules.trans stopped (rules.trans (rules.discipline _ _ ⟨.inl ?_, .inl ?_⟩) (rules.quality ..)) <;> rfl
  · exact stopped

theorem expireMissingMark (s : State) : R s (expireMissingMark s) := by
  unfold Sys2Proof.Machine.expireMissingMark
  split
  · exact rules.refl s
  · split
    · exact rules.missMark s
    · exact rules.refl s

theorem endHoldover (s : State) : R s (endHoldover s) := by
  unfold Sys2Proof.Machine.endHoldover
  split
  · exact rules.quality ..
  · exact rules.refl s

end OperationRules

namespace CommandRules

variable {R : State → State → Prop} (rules : CommandRules R)
include rules

/-! ### Supplies and ticks -/

theorem warmRestart (cause : PowerCause) (pins : AddressPins) (o : ClosingOrder) (s : State) (run : s.running = true) :
    R s (warmRestart cause pins o s) := by
  have start (t : State) : R t (noteRestart (writeStart t)) :=
    rules.trans (rules.supply _ t rfl) (rules.supply _ _ rfl)
  have running : (noteRestart (writeStart (Sys2Proof.Machine.takeBoundary s))).running = true := by
    have same : (Sys2Proof.Machine.takeBoundary s).supply = s.supply := by rw [(takeBoundary_frame s).1]
    simpa [State.running, noteRestart, writeStart, same] using run
  exact rules.trans (rules.takeBoundary s) (rules.trans (start _) (rules.restart cause pins o _ running))

theorem assertReset (pins : AddressPins) (o : ClosingOrder) (s : State) : R s (assertReset pins o s) := by
  unfold Sys2Proof.Machine.assertReset
  split
  · next h =>
    have run : s.running = true := (Bool.and_eq_true_iff.1 h).1
    refine rules.trans (rules.supply _ s ?_) (rules.warmRestart _ _ _ _ ?_)
    · rfl
    · exact run
  · exact rules.refl s

theorem expireQualification (pins : AddressPins) (high : Bool) (s : State) : R s (expireQualification pins high s) := by
  unfold Sys2Proof.Machine.expireQualification
  split
  · exact rules.refl s
  · split
    · next h =>
      have backup : s.running = false := by simpa using (Bool.and_eq_true_iff.1 h).1
      split
      · exact rules.outage pins high s backup
      · exact rules.cold pins high s
    · exact rules.refl s

theorem expireQuietWait (s : State) : R s (expireQuietWait s) := by
  unfold Sys2Proof.Machine.expireQuietWait
  split
  · exact rules.refl s
  · split
    · exact rules.closeBurst s
    · exact rules.refl s

theorem expireBurstLimit (s : State) : R s (expireBurstLimit s) := by
  unfold Sys2Proof.Machine.expireBurstLimit
  split
  · exact rules.refl s
  · split
    · exact rules.closeBurst s
    · exact rules.refl s

theorem settlePoint (n : Fin 32) (s : State) : R s (settlePoint n s) :=
  rules.trans (rules.debounce n s) (rules.trans (rules.window n _) (rules.stability n _))

theorem timers (s : State) : R s (Sys2Proof.Machine.endHoldover (Sys2Proof.Machine.expireMissingMark s)) :=
  rules.trans (rules.expireMissingMark s) (rules.endHoldover _)

theorem settleRun (s : State) : R s (settleRun s) :=
  rules.trans (rules.timers s)
    (rules.trans (rules.allPoints rules.settlePoint _)
      (rules.trans (rules.expireQuietWait _) (rules.trans (rules.expireBurstLimit _) (rules.allPorts rules.gap _))))

theorem settleBackup (s : State) : R s (settleBackup s) :=
  rules.trans (rules.timers s) (rules.expireQualification ..)

theorem settle (s : State) : R s (settle s) := by
  have backup (t : State) : R t (if t.running then t else Sys2Proof.Machine.settleBackup t) := by
    split
    · exact rules.refl t
    · exact rules.settleBackup t
  have run (t : State) : R t (if t.running then Sys2Proof.Machine.settleRun t else t) := by
    split
    · exact rules.settleRun t
    · exact rules.refl t
  exact rules.trans (rules.takeBoundary s) (rules.trans (backup _) (run _))

theorem tick (s : State) : R s (tick s) := by
  have untrimmed (t : State) : R t (countUntrimmed t) := by
    unfold countUntrimmed
    split
    · exact rules.elapse ..
    · exact rules.refl t
  unfold Sys2Proof.Machine.tick
  dsimp only
  split
  · exact rules.trans (rules.settle s) (rules.advance _)
  · exact rules.trans (rules.settle s) (untrimmed _)

/-! ### Requests -/

/-- A request keeps what its block keeps in RUN. -/
theorem request {p : Port} {code : Byte} {fits : Nat → Bool} {serve : List Byte → State → Answer} (rest : List Byte)
    (s : State) (served : ∀ args s t payload, s.running = true → serve args s = .accept t payload → R s t) :
    R s (takeRequest p code fits serve rest s) := by
  have refused (c : RefusalCode) (d : Nat) : R s (s.refusedAt p code c d) := rules.answer s p _ rfl
  rcases takeRequest_cases p code fits serve rest s with
    ⟨-, h⟩ | ⟨-, -, h⟩ | ⟨args, run, -, ⟨-, h⟩ | ⟨-, ⟨c, d, -, h⟩ | ⟨t, payload, answer, h⟩⟩⟩ <;> rw [h]
  · exact rules.refl s
  · exact refused ..
  · exact refused ..
  · exact refused ..
  · have taken : R (s.idleFrame p) t := served args (s.idleFrame p) t payload run answer
    exact rules.trans (rules.answer s p _ rfl) (rules.trans taken (rules.answer t p _ rfl))

variable {p : Port} {args : List Byte} {s t : State} {payload : List Byte}

theorem serveReadTime (h : serveReadTime args s = .accept t payload) : R s t := by
  cases h
  exact rules.refl s

theorem serveReadDiscipline (h : serveReadDiscipline args s = .accept t payload) : R s t := by
  cases h
  exact rules.refl s

theorem serveReadFirstOut (h : serveReadFirstOut args s = .accept t payload) : R s t := by
  cases h
  exact rules.refl s

theorem serveReadAnnunciation (h : serveReadAnnunciation args s = .accept t payload) : R s t := by
  cases h
  exact rules.refl s

theorem serveReadDuty (h : serveReadDuty args s = .accept t payload) : R s t := by
  cases h
  exact rules.refl s

theorem serveReadNotices (h : serveReadNotices p args s = .accept t payload) : R s t := by
  cases h
  exact rules.refl s

theorem serveReadPoints (h : serveReadPoints args s = .accept t payload) : R s t := by
  unfold Sys2Proof.Machine.serveReadPoints at h
  dsimp only at h
  split at h <;> cases h
  exact rules.refl s

theorem serveReadTally (h : serveReadTally p args s = .accept t payload) : R s t := by
  unfold Sys2Proof.Machine.serveReadTally at h
  split at h
  · cases h
  · split at h <;> cases h
    exact rules.freeIndex s _

theorem serveReadPort (h : serveReadPort args s = .accept t payload) : R s t := by
  unfold Sys2Proof.Machine.serveReadPort at h
  split at h <;> cases h
  exact rules.freeIndex s _

theorem serveReadShiftBook (h : Sys2Proof.Machine.serveReadShiftBook p args s = .accept t payload) : R s t := by
  unfold Sys2Proof.Machine.serveReadShiftBook at h
  dsimp only at h
  split at h
  · cases h
  · split at h <;> cases h
    all_goals exact rules.refl s

theorem serveSetTime (h : serveSetTime p args s = .accept t payload) : R s t := by
  have date : argField args 0 2 < 65536 := argField_lt args 0 2
  unfold Sys2Proof.Machine.serveSetTime setImmediate stageSet withdrawSet at h
  split at h
  · split at h
    · split at h
      · cases h
      · next inDay =>
        split at h
        · cases h
        · rw [← (Answer.accept.inj h).1]
          exact rules.setTimeTo date (Nat.lt_of_not_le inDay) ..
    · split at h
      · cases h
      · next inDay =>
        rw [← (Answer.accept.inj h).1]
        exact rules.stage _ _ _ _ date (Nat.lt_of_not_le inDay)
    · cases h
      exact rules.unstage s
    · cases h
  · cases h

theorem serveSetDiscipline (h : serveSetDiscipline p args s = .accept t payload) : R s t := by
  unfold Sys2Proof.Machine.serveSetDiscipline at h
  split at h <;> cases h
  refine rules.trans (rules.discipline _ s ⟨.inl ?_, .inl ?_⟩) (rules.endHoldover _) <;> rfl

theorem serveSetPoint (run : s.running = true) (h : serveSetPoint p args s = .accept t payload) : R s t := by
  unfold Sys2Proof.Machine.serveSetPoint at h
  split at h
  · split at h
    · cases h
    · split at h
      · cases h
      · cases h
      · split at h
        · cases h
        · split at h <;> cases h
          next free => exact rules.write _ _ s run (by simpa using free)
  · cases h

theorem writeFields_list {w : FieldWrite} {mask : BitVec 32} {l : List (Fin 32)} (distinct : l.Nodup) {s : State}
    (run : s.running = true)
    (free : ∀ n m, w = .mode m → n ∈ l → mask.getLsbD n.val = true → s.holdsTrip n m = false) :
    R s (l.foldl (fun s n => writeField w mask n s) s) := by
  induction l generalizing s with
  | nil => exact rules.refl s
  | cons n l ih =>
    obtain ⟨fresh, distinct⟩ := List.nodup_cons.1 distinct
    simp only [List.foldl_cons]
    by_cases marked : mask.getLsbD n.val = true
    · have held : s.holdsTrip n (w.into (s.point n).entry).mode = false :=
        FieldWrite.holdsTrip_into fun m hw => free n m hw (by simp) marked
      have written : writeField w mask n s = writeEntry n (w.into (s.point n).entry) s := by
        rw [writeField, if_pos marked]
      rw [written]
      refine rules.trans (rules.write n _ s run held) (ih distinct ?_ fun k m hw hk hmask => ?_)
      · rw [(writeEntry_frame ..).running, run]
      · have other : k ≠ n := fun e => fresh (e ▸ hk)
        rw [(writeEntry_onlyPoint ..).holdsTrip other]
        exact free k m hw (by simp [hk]) hmask
    · have same : writeField w mask n s = s := by rw [writeField, if_neg marked]
      rw [same]
      exact ih distinct run fun k m hw hk => free k m hw (by simp [hk])

/-- SET_POINTS takes the points in turn (R53): what a write to one point leaves of the others lets each pass its check. -/
theorem writeFields {w : FieldWrite} {mask : BitVec 32} (run : s.running = true) (h : firstHeldTrip w mask s = none) :
    R s (atAllPoints (writeField w mask) s) :=
  rules.writeFields_list (List.nodup_finRange 32) run fun n m hw _ hn => firstHeldTrip_none h n m hw hn

theorem serveSetPoints (run : s.running = true) (h : serveSetPoints p args s = .accept t payload) : R s t := by
  unfold Sys2Proof.Machine.serveSetPoints at h
  dsimp only at h
  split at h
  · split at h
    · cases h
    · split at h
      · cases h
      · split at h
        · cases h
        · split at h
          · cases h
          · next w _ _ none_held =>
            rw [← (Answer.accept.inj h).1]
            exact rules.writeFields run none_held
  · cases h

theorem serveSetBurst (h : serveSetBurst p args s = .accept t payload) : R s t := by
  unfold Sys2Proof.Machine.serveSetBurst at h
  split at h <;> cases h
  exact rules.quiet _ s

theorem serveResetFirstOut (run : s.running = true) (h : serveResetFirstOut p args s = .accept t payload) : R s t := by
  unfold Sys2Proof.Machine.serveResetFirstOut at h
  split at h
  · cases h
  · split at h
    · cases h
    · next burst =>
      split at h <;> cases h
      · next final => exact rules.resetFirstOut _ s run (by simpa using burst) final
      · exact rules.refl s

theorem serveAckTrips (h : serveAckTrips p args s = .accept t payload) : R s t := by
  unfold Sys2Proof.Machine.serveAckTrips at h
  split at h
  · cases h
  · dsimp only at h
    rw [← (Answer.accept.inj h).1]
    split
    · exact rules.acknowledge _ s
    · exact rules.trans (rules.acknowledge _ s) (rules.produce ..)

theorem serveReadEvents (run : s.running = true) (h : serveReadEvents p args s = .accept t payload) : R s t := by
  unfold Sys2Proof.Machine.serveReadEvents at h
  split at h <;> cases h
  exact rules.deliver _ _ _ run

theorem serveSubscribe (run : s.running = true) (h : serveSubscribe p args s = .accept t payload) : R s t := by
  unfold Sys2Proof.Machine.serveSubscribe at h
  split at h
  · split at h <;> cases h
    · exact rules.join ..
    · exact rules.unsubscribe _ _ run
  · cases h

theorem serveSetQueueMode (h : serveSetQueueMode p args s = .accept t payload) : R s t := by
  unfold Sys2Proof.Machine.serveSetQueueMode at h
  split at h
  · split at h <;> cases h
    exact rules.mode ..
  · cases h

theorem serveSetTally (run : s.running = true) (h : serveSetTally p args s = .accept t payload) : R s t := by
  unfold Sys2Proof.Machine.serveSetTally at h
  split at h
  · split at h <;> cases h
    exact rules.configure _ _ _ run
  · cases h

theorem serveSetDue (h : serveSetDue p args s = .accept t payload) : R s t := by
  unfold Sys2Proof.Machine.serveSetDue at h
  split at h
  · split at h <;> cases h
    exact rules.due _ _ _ (clamp_le (by decide))
  · cases h

theorem servePresetTally (h : servePresetTally p args s = .accept t payload) : R s t := by
  have life : clamp 0 lifetimeMax (argField args 2 6) ≤ lifetimeMax := clamp_le (by decide)
  have starts : clamp 0 startsMax (argField args 8 4) ≤ startsMax := clamp_le (by decide)
  unfold Sys2Proof.Machine.servePresetTally at h
  split at h
  · cases h
  · split at h
    · cases h
    · rw [← (Answer.accept.inj h).1]
      split
      · next running => exact rules.stagePreset _ _ _ (by simpa using running) life starts
      · next running => exact rules.preset _ _ _ (by simpa using running) life starts

theorem serveSetRota (h : serveSetRota p args s = .accept t payload) : R s t := by
  unfold Sys2Proof.Machine.serveSetRota at h
  split at h
  · cases h
  · dsimp only at h
    split at h
    · cases h
    · next count =>
      split at h
      · cases h
      · split at h
        · cases h
        · next ordered =>
          have accepted : RotaAccepted (slotsOf args (argField args 1 1)) :=
            ⟨by simpa [slotsOf] using Nat.le_of_not_lt count, ordered⟩
          split at h <;> cases h
          · exact rules.trans (rules.keepRota _ s accepted) (rules.applyRota ..)
          · exact rules.keepRota _ s accepted

theorem serveAcceptDuty (run : s.running = true) (h : serveAcceptDuty p args s = .accept t payload) : R s t := by
  unfold Sys2Proof.Machine.serveAcceptDuty at h
  dsimp only at h
  split at h
  · cases h
  · next right =>
    split at h
    · cases h
    · next crew =>
      have right : (s.port p).rights.duty = true := by simpa using right
      obtain ⟨low, high⟩ : 1 ≤ argField args 0 1 ∧ argField args 0 1 ≤ 15 := by
        simpa [isCrew, Nat.one_le_iff_ne_zero] using crew
      split at h
      · cases h
        exact rules.take _ _ s run ‹_› right low high
      · split at h <;> cases h
        exact rules.accept _ _ s run ‹_› right low high
      · cases h

theorem serveOpenHandover (h : serveOpenHandover p args s = .accept t payload) : R s t := by
  unfold Sys2Proof.Machine.serveOpenHandover at h
  split at h
  · cases h
  · split at h
    · next held =>
      rw [← (Answer.accept.inj h).1]
      exact rules.trans (rules.openHandover _ s held) (rules.produceHandover ..)
    · cases h

theorem serveReleaseDuty (h : serveReleaseDuty p args s = .accept t payload) : R s t := by
  unfold Sys2Proof.Machine.serveReleaseDuty at h
  split at h
  · cases h
  · next passed =>
    rw [← (Answer.accept.inj h).1]
    exact rules.trans (rules.release _ s (holderCheck_state passed)) (rules.produceHandover ..)

theorem serveReclaimDuty (h : serveReclaimDuty p args s = .accept t payload) : R s t := by
  unfold Sys2Proof.Machine.serveReclaimDuty at h
  split at h
  · cases h
  · next passed =>
    rw [← (Answer.accept.inj h).1]
    exact rules.trans (rules.reclaim s (reclaimCheck_state passed)) (rules.produceHandover ..)

theorem serveSetHandover (h : serveSetHandover p args s = .accept t payload) : R s t := by
  unfold Sys2Proof.Machine.serveSetHandover at h
  split at h
  · split at h
    · cases h
    · split at h
      · cases h
      · next crew =>
        cases h
        exact rules.handoverSettings _ s (clamp_le (by decide)) (Nat.le_of_not_lt crew)
  · cases h

theorem serveSetNotices (run : s.running = true) (h : serveSetNotices p args s = .accept t payload) : R s t := by
  unfold Sys2Proof.Machine.serveSetNotices at h
  split at h <;> cases h
  exact rules.enables _ _ _ s run

theorem serveClearNotices (run : s.running = true) (h : serveClearNotices p args s = .accept t payload) : R s t := by
  cases h
  exact rules.clear _ _ s run

theorem serveSetAlarm (h : serveSetAlarm p args s = .accept t payload) : R s t := by
  have set (a : Option Instant) : R s (setAlarmTo p a s) := rules.trans (rules.alarm p a s) (rules.evaluateAlarm ..)
  unfold Sys2Proof.Machine.serveSetAlarm at h
  split at h
  · split at h
    · cases h
    · rw [← (Answer.accept.inj h).1]
      exact set _
  · rw [← (Answer.accept.inj h).1]
    exact set _

theorem serveSetRights (run : s.running = true) (h : serveSetRights p args s = .accept t payload) : R s t := by
  unfold Sys2Proof.Machine.serveSetRights at h
  split at h
  · split at h
    · cases h
    · next q granted =>
      dsimp only at h
      split at h
      · cases h
      · next kept =>
        rw [← (Answer.accept.inj h).1]
        refine rules.rights q _ _ s run ?_ kept
        rintro rfl
        unfold grantedPort at granted
        split at granted <;> cases granted
  · cases h

theorem serveRestart {pins : AddressPins} {o : ClosingOrder} (run : s.running = true)
    (h : serveRestart p pins o args s = .accept t payload) : R s t := by
  unfold Sys2Proof.Machine.serveRestart at h
  split at h
  · rw [← (Answer.accept.inj h).1]
    exact rules.warmRestart _ _ _ s run
  · cases h

/-- Every request of the table keeps what its block keeps. -/
theorem tableRow {r : RequestRow} (h : r ∈ requestTable) (p : Port) (pins : AddressPins) (args : List Byte) (s t : State)
    (payload : List Byte) (run : s.running = true) (answer : r.serve p pins args s = .accept t payload) : R s t := by
  simp only [requestTable, List.cons_append, List.nil_append, List.mem_cons, List.not_mem_nil, or_false] at h
  rcases h with rfl | rfl | rfl | rfl | rfl | rfl | rfl | rfl | rfl | rfl | rfl | rfl | rfl | rfl | rfl | rfl | rfl | 
    rfl | rfl | rfl | rfl | rfl | rfl | rfl | rfl | rfl | rfl | rfl | rfl | rfl | rfl | rfl | rfl | rfl
  · exact rules.serveReadTime (args := args) answer
  · exact rules.serveSetTime answer
  · exact rules.serveReadDiscipline (args := args) answer
  · exact rules.serveSetDiscipline answer
  · exact rules.serveReadPoints answer
  · exact rules.serveSetPoint run answer
  · exact rules.serveSetPoints run answer
  · exact rules.serveReadFirstOut (args := args) answer
  · exact rules.serveReadAnnunciation (args := args) answer
  · exact rules.serveSetBurst answer
  · exact rules.serveResetFirstOut run answer
  · exact rules.serveAckTrips answer
  · exact rules.serveReadEvents run answer
  · exact rules.serveSubscribe run answer
  · exact rules.serveSetQueueMode answer
  · exact rules.serveReadTally answer
  · exact rules.serveSetTally run answer
  · exact rules.serveSetDue answer
  · exact rules.servePresetTally answer
  · exact rules.serveReadDuty (args := args) answer
  · exact rules.serveSetRota answer
  · exact rules.serveAcceptDuty run answer
  · exact rules.serveOpenHandover answer
  · exact rules.serveReleaseDuty answer
  · exact rules.serveReclaimDuty answer
  · exact rules.serveSetHandover answer
  · exact rules.serveReadShiftBook answer
  · exact rules.serveReadNotices (args := args) answer
  · exact rules.serveSetNotices run answer
  · exact rules.serveClearNotices run answer
  · exact rules.serveSetAlarm answer
  · exact rules.serveReadPort answer
  · exact rules.serveSetRights run answer
  · exact rules.serveRestart (args := args) run answer

/-- Across every command the relation holds. -/
theorem exec (c : Instr) {s t : State} (h : exec c s = .next t) : R s t := by
  cases c with
  | readTime _ _ =>
    cases h
    exact rules.request _ s fun args _ _ _ _ answer => rules.serveReadTime (args := args) answer
  | setTimeImmediate _ _ _ =>
    cases h
    exact rules.request _ s fun _ _ _ _ _ answer => rules.serveSetTime answer
  | setTimeAtMark _ _ _ =>
    cases h
    exact rules.request _ s fun _ _ _ _ _ answer => rules.serveSetTime answer
  | setTimeWithdraw _ _ _ =>
    cases h
    exact rules.request _ s fun _ _ _ _ _ answer => rules.serveSetTime answer
  | readDiscipline _ _ =>
    cases h
    exact rules.request _ s fun args _ _ _ _ answer => rules.serveReadDiscipline (args := args) answer
  | setDiscipline _ _ =>
    cases h
    exact rules.request _ s fun _ _ _ _ _ answer => rules.serveSetDiscipline answer
  | setPoint _ _ =>
    cases h
    exact rules.request _ s fun _ _ _ _ run answer => rules.serveSetPoint run answer
  | setPoints _ _ =>
    cases h
    exact rules.request _ s fun _ _ _ _ run answer => rules.serveSetPoints run answer
  | readPoints _ _ =>
    cases h
    exact rules.request _ s fun _ _ _ _ _ answer => rules.serveReadPoints answer
  | setBurst _ _ =>
    cases h
    exact rules.request _ s fun _ _ _ _ _ answer => rules.serveSetBurst answer
  | resetFirstOut _ _ =>
    cases h
    exact rules.request _ s fun _ _ _ _ run answer => rules.serveResetFirstOut run answer
  | ackTrips _ _ =>
    cases h
    exact rules.request _ s fun _ _ _ _ _ answer => rules.serveAckTrips answer
  | readFirstOut _ _ =>
    cases h
    exact rules.request _ s fun args _ _ _ _ answer => rules.serveReadFirstOut (args := args) answer
  | readAnnunciation _ _ =>
    cases h
    exact rules.request _ s fun args _ _ _ _ answer => rules.serveReadAnnunciation (args := args) answer
  | setQueueMode _ _ =>
    cases h
    exact rules.request _ s fun _ _ _ _ _ answer => rules.serveSetQueueMode answer
  | readEvents _ _ =>
    cases h
    exact rules.request _ s fun _ _ _ _ run answer => rules.serveReadEvents run answer
  | subscribe _ _ =>
    cases h
    exact rules.request _ s fun _ _ _ _ run answer => rules.serveSubscribe run answer
  | setTally _ _ =>
    cases h
    exact rules.request _ s fun _ _ _ _ run answer => rules.serveSetTally run answer
  | setDue _ _ =>
    cases h
    exact rules.request _ s fun _ _ _ _ _ answer => rules.serveSetDue answer
  | presetTally _ _ =>
    cases h
    exact rules.request _ s fun _ _ _ _ _ answer => rules.servePresetTally answer
  | readTally _ _ =>
    cases h
    exact rules.request _ s fun _ _ _ _ _ answer => rules.serveReadTally answer
  | setRota _ _ =>
    cases h
    exact rules.request _ s fun _ _ _ _ _ answer => rules.serveSetRota answer
  | acceptDuty _ _ =>
    cases h
    exact rules.request _ s fun _ _ _ _ run answer => rules.serveAcceptDuty run answer
  | openHandover _ _ =>
    cases h
    exact rules.request _ s fun _ _ _ _ _ answer => rules.serveOpenHandover answer
  | releaseDuty _ _ =>
    cases h
    exact rules.request _ s fun _ _ _ _ _ answer => rules.serveReleaseDuty answer
  | reclaimDuty _ _ =>
    cases h
    exact rules.request _ s fun _ _ _ _ _ answer => rules.serveReclaimDuty answer
  | setHandover _ _ =>
    cases h
    exact rules.request _ s fun _ _ _ _ _ answer => rules.serveSetHandover answer
  | readDuty _ _ =>
    cases h
    exact rules.request _ s fun args _ _ _ _ answer => rules.serveReadDuty (args := args) answer
  | readShiftBook _ _ =>
    cases h
    exact rules.request _ s fun _ _ _ _ _ answer => rules.serveReadShiftBook answer
  | setAlarm _ _ =>
    cases h
    exact rules.request _ s fun _ _ _ _ _ answer => rules.serveSetAlarm answer
  | setNotices _ _ =>
    cases h
    exact rules.request _ s fun _ _ _ _ run answer => rules.serveSetNotices run answer
  | clearNotices _ _ =>
    cases h
    exact rules.request _ s fun _ _ _ _ run answer => rules.serveClearNotices run answer
  | readNotices _ _ =>
    cases h
    exact rules.request _ s fun args _ _ _ _ answer => rules.serveReadNotices (args := args) answer
  | setRights _ _ =>
    cases h
    exact rules.request _ s fun _ _ _ _ run answer => rules.serveSetRights run answer
  | readPort _ _ =>
    cases h
    exact rules.request _ s fun _ _ _ _ _ answer => rules.serveReadPort answer
  | restart _ _ _ _ =>
    cases h
    exact rules.request _ s fun args _ _ _ run answer => rules.serveRestart (args := args) run answer
  | unknown _ _ _ =>
    unfold Machine.exec execUnknown at h
    dsimp only at h
    split at h <;> cases h
    · exact rules.request _ s fun _ _ _ _ _ refused => nomatch refused
    · next row found =>
      exact rules.request _ s fun _ _ _ _ run answer =>
        rules.tableRow (List.mem_of_find?_eq_some found) _ _ _ _ _ _ run answer
  | repeatedStartDiscard _ _ =>
    cases h
    exact rules.answer _ _ _ rfl
  | mark =>
    cases h
    exact rules.takeMark s
  | missingMarkTimeout =>
    cases h
    exact rules.expireMissingMark s
  | holdoverLimitExpiry =>
    cases h
    exact rules.endHoldover s
  | millisecondBoundary =>
    cases h
    refine rules.trans ?_ (rules.takeBoundary _)
    split
    · exact rules.refl s
    · exact rules.tick s
  | pointEdge _ _ =>
    cases h
    exact rules.sample ..
  | debounceExpiry _ =>
    cases h
    exact rules.debounce ..
  | chatterWindowExpiry _ =>
    cases h
    exact rules.window ..
  | stabilityWaitExpiry _ =>
    cases h
    exact rules.stability ..
  | quietWaitExpiry =>
    cases h
    exact rules.expireQuietWait s
  | burstLimitExpiry =>
    cases h
    exact rules.expireBurstLimit s
  | qualificationComplete _ =>
    cases h
    exact rules.complete ..
  | slotDue =>
    cases h
    split
    · exact rules.dutyCheck ..
    · exact rules.refl s
  | releaseDeadlineExpiry =>
    cases h
    split
    · exact rules.releaseDeadline ..
    · exact rules.refl s
  | acceptDeadlineExpiry =>
    cases h
    split
    · exact rules.acceptDeadline ..
    · exact rules.refl s
  | alarmReached _ =>
    cases h
    split
    · exact rules.evaluateAlarm ..
    · exact rules.refl s
  | pulseGapEnd _ =>
    cases h
    exact rules.gap ..
  | mainLossWarning _ _ =>
    cases h
    exact rules.mainLoss ..
  | retentionLost =>
    cases h
    unfold loseRetention
    split
    · exact rules.refl s
    · exact rules.supply _ s rfl
  | returnQualificationStart =>
    cases h
    unfold startQualification
    split
    · exact rules.refl s
    · exact rules.supply _ s rfl
  | returnQualificationStop =>
    cases h
    unfold stopQualification
    split
    · exact rules.refl s
    · exact rules.supply _ s rfl
  | returnOfSupply _ _ =>
    cases h
    exact rules.expireQualification ..
  | resetAssertion _ _ =>
    cases h
    exact rules.assertReset ..
  | resetRearm =>
    cases h
    unfold rearmReset
    split
    · exact rules.supply _ s rfl
    · exact rules.refl s
  | oscillatorTick =>
    cases h
    exact rules.tick s
  | setTime _ _ =>
    cases h
    exact rules.request _ s fun _ _ _ _ _ answer => rules.serveSetTime answer

end CommandRules

/-- A property that every operation keeps, and that does not look at the commands that wait, is kept by every step. -/
theorem CommandRules.step {P : State → Prop} (rules : CommandRules fun s t => P s → P t)
    (pending : ∀ s l, P s → P { s with pending := l }) {s t : State} (hs : P s) (h : step s = .next t) : P t := by
  unfold Machine.step at h
  split at h
  · cases h
    exact hs
  · exact rules.exec _ h (pending s _ hs)

end Sys2Proof.Machine
end

section
/-!
SUPPORT. The trip unit through the operations of the part: what a confirmed change and the close of a burst make of it, and that its
latch, its ranked list and its burst stay in agreement (R61, R68 to R73).
-/

namespace Sys2Proof.Machine

/-! ### What the operations make of the trip unit -/

theorem raiseFirstOutIf_trip (c : Bool) (s : State) : (if c then raiseAtAll .firstOut s else s).trip = s.trip := by
  cases c <;> simp

theorem producePoint_trip (n : Fin 32) (a : Bool) (c : ChangeCause) (i : Instant) (o : Bool) (s : State) :
    (producePoint n a c i o s).trip = s.trip.onPointRecord s.elapsed :=
  (produceAt_frame ..).tally.trip

theorem latchActivation_trip (k : Nat) (i : Instant) (s : State) :
    (latchActivation k i s).trip = s.trip.latched k i := by
  unfold latchActivation TripUnit.latched
  cases s.trip.latch with
  | armed =>
    simp only [handInput_trip, raiseAtAll_trip]
    rfl
  | provisional => exact raiseFirstOutIf_trip _ _
  | final => rfl

theorem takeTripChange_trip (n : Fin 32) (a : Bool) (i : Instant) (s : State) :
    (takeTripChange n a i s).trip =
      let u := s.trip.withEntry n ((s.trip.entry n).moved a)
      if a then { u with tripCount := bumpTo count16Max u.tripCount }.latched n.val i else u := by
  unfold takeTripChange
  cases a
  · rfl
  · exact latchActivation_trip ..

theorem confirmChange_trip (n : Fin 32) (a : Bool) (c : ChangeCause) (i : Instant) (o : Bool) (s : State) :
    (confirmChange n a c i o s).trip = s.trip.afterChange s.elapsed (s.point n).entry.mode n a i := by
  have mode : ((setActive n a s).point n).entry.mode = (s.point n).entry.mode := by simp [setActive]
  unfold confirmChange TripUnit.afterChange
  dsimp only
  rw [mode]
  cases (s.point n).entry.mode with
  | off | status =>
    simp only [handInput_trip]
    rfl
  | record =>
    simp only [handInput_trip, producePoint_trip]
    rfl
  | trip =>
    simp only [takeTripChange_trip, handInput_trip, producePoint_trip]
    rfl

/-- The trip unit at the close of its burst (R65). -/
def TripUnit.closed (t : TripUnit) : TripUnit :=
  { t with
    burst := none
    latch := if t.burst.isSome ∧ t.latch = .provisional then .final else t.latch }

theorem closeBurst_trip (s : State) : (closeBurst s).trip = s.trip.closed := by
  unfold closeBurst TripUnit.closed
  cases h : s.trip.burst with
  | none =>
    have unchanged : s.trip = { s.trip with burst := none } := by rw [← h]
    simpa using unchanged
  | some b =>
    simp only [handInput_trip, finaliseFirstOut]
    split <;> simp [*]

/-! ### The ranked list -/

theorem Instant.le_iff (a b : Instant) :
    a.le b = true ↔ a.date < b.date ∨ a.date = b.date ∧ (a.ms < b.ms ∨ a.ms = b.ms ∧ a.us ≤ b.us) := by
  simp [Instant.le]

theorem Instant.le_trans {a b c : Instant} (h : a.le b = true) (k : b.le c = true) : a.le c = true := by
  rw [Instant.le_iff] at *
  omega

theorem Instant.le_of_not_le {a b : Instant} (h : a.le b = false) : b.le a = true := by
  rw [← Bool.not_eq_true, Instant.le_iff] at h
  rw [Instant.le_iff]
  omega

/-- An entry goes between those that are not later and those that are (R69). -/
theorem rankInto_between (e : Ranked) {l : List Ranked} (sorted : Ranking l) :
    ∃ before later, l = before ++ later ∧ (∀ x ∈ before, x.instant.le e.instant = true) ∧
      (∀ x ∈ later, x.instant.le e.instant = false) ∧ rankInto e l = before ++ e :: later := by
  induction l with
  | nil => exact ⟨[], [], rfl, by simp, by simp, rfl⟩
  | cons h t ih =>
    obtain ⟨first, rest⟩ := List.pairwise_cons.1 sorted
    cases place : h.instant.le e.instant with
    | true =>
      obtain ⟨before, later, rfl, hbefore, hlater, hinto⟩ := ih rest
      refine ⟨h :: before, later, rfl, by simpa [place] using hbefore, hlater, ?_⟩
      simp [rankInto, place, hinto]
    | false =>
      refine ⟨[], h :: t, rfl, by simp, ?_, by simp [rankInto, place]⟩
      intro x hx
      rcases List.mem_cons.1 hx with rfl | hx
      · exact place
      · by_contra hle
        have : h.instant.le e.instant = true := Instant.le_trans (first x hx) (by simpa using hle)
        simp [this] at place

theorem Ranking.rankInto {l : List Ranked} (sorted : Ranking l) (e : Ranked) : Ranking (rankInto e l) := by
  obtain ⟨before, later, rfl, hbefore, hlater, hinto⟩ := rankInto_between e sorted
  rw [hinto]
  obtain ⟨front, back, across⟩ := List.pairwise_append.1 sorted
  refine List.pairwise_append.2 ⟨front, List.pairwise_cons.2 ⟨fun x hx => Instant.le_of_not_le (hlater x hx), back⟩, ?_⟩
  intro x hx y hy
  rcases List.mem_cons.1 hy with rfl | hy
  · exact hbefore x hx
  · exact across x hx y hy

theorem Ranking.rank {t : TripUnit} (sorted : Ranking t.ranked) (n : Nat) (i : Instant) : Ranking (t.rank n i).ranked :=
  (Ranking.rankInto sorted _).sublist (List.take_sublist ..)

theorem bumpTo_le {limit n : Nat} : bumpTo limit n ≤ limit := by
  unfold bumpTo
  split <;> omega

/-! ### The trip unit stays coherent -/

/-- What `LatchCoherent` says of the trip unit. -/
def TripUnit.Coherent (t : TripUnit) : Prop :=
  (t.latch = .armed → t.ranked = [] ∧ t.overflow = 0 ∧ t.latchingBurst = 0) ∧
    (t.latch = .provisional → ∃ b, t.burst = some b ∧ t.latchingBurst = b.number) ∧
    (t.latch ≠ .armed → t.ranked ≠ []) ∧
    Ranking t.ranked ∧ t.ranked.length ≤ 16 ∧ t.overflow ≤ 255 ∧ t.lastBurst ≤ 65535 ∧
    ∀ b, t.burst = some b → b.number = t.lastBurst ∧ 1 ≤ b.number

theorem latchCoherent_iff (s : State) : LatchCoherent s ↔ s.trip.Coherent := Iff.rfl

namespace TripUnit.Coherent

variable {t : TripUnit}

/-- Only the latch, its list, its counts, the burst and the last burst number matter. -/
theorem of_same {u : TripUnit} (h : t.Coherent) (latch : u.latch = t.latch) (ranked : u.ranked = t.ranked)
    (overflow : u.overflow = t.overflow) (latching : u.latchingBurst = t.latchingBurst) (burst : u.burst = t.burst)
    (last : u.lastBurst = t.lastBurst) : u.Coherent := by
  unfold TripUnit.Coherent
  rw [latch, ranked, overflow, latching, burst, last]
  exact h

theorem onPointRecord (h : t.Coherent) (elapsed : Nat) : (t.onPointRecord elapsed).Coherent := by
  obtain ⟨harmed, hprovisional, hranked, hsorted, hlength, hoverflow, hlast, hburst⟩ := h
  unfold TripUnit.onPointRecord
  dsimp only
  cases open_ : t.burst with
  | none =>
    have next : 1 ≤ nextBurst t.lastBurst ∧ nextBurst t.lastBurst ≤ 65535 := by
      unfold nextBurst count16Max
      split <;> omega
    have notProvisional : t.latch ≠ .provisional := fun e => by
      obtain ⟨b, hb, -⟩ := hprovisional e
      simp [open_] at hb
    exact ⟨harmed, fun e => absurd e notProvisional, hranked, hsorted, hlength, hoverflow, next.2,
      fun b hb => by cases hb; exact ⟨rfl, next.1⟩⟩
  | some o =>
    refine ⟨harmed, fun e => ?_, hranked, hsorted, hlength, hoverflow, hlast, fun b hb => ?_⟩
    · obtain ⟨b, hb, hnumber⟩ := hprovisional e
      cases open_.symm.trans hb
      exact ⟨_, rfl, hnumber⟩
    · cases hb
      exact hburst o open_

theorem rank (h : t.Coherent) (provisional : t.latch = .provisional) (n : Nat) (i : Instant) : (t.rank n i).Coherent := by
  obtain ⟨-, hprovisional, -, hsorted, -, hoverflow, hlast, hburst⟩ := h
  refine ⟨fun e => ?_, hprovisional, fun _ => ?_, Ranking.rank hsorted n i, ?_, ?_, hlast, hburst⟩
  · have armed : t.latch = .armed := e
    simp [provisional] at armed
  · obtain ⟨before, later, -, -, -, hinto⟩ :=
      rankInto_between ⟨n, i, t.ranked.length + t.overflow⟩ hsorted
    simp [TripUnit.rank, hinto, rankRoom]
  · exact List.length_take_le ..
  · unfold TripUnit.rank
    dsimp only
    split
    · exact hoverflow
    · exact bumpTo_le

theorem latched (h : t.Coherent) (burst : t.burst.isSome = true) (n : Nat) (i : Instant) : (t.latched n i).Coherent := by
  unfold TripUnit.latched
  split
  · obtain ⟨b, hb⟩ := Option.isSome_iff_exists.1 burst
    obtain ⟨-, -, -, -, -, -, hlast, hburst⟩ := h
    refine ⟨by simp, fun _ => ⟨b, hb, by simp [hb]⟩, by simp, List.pairwise_singleton .., by simp, by simp, hlast, hburst⟩
  · exact h.rank ‹_› n i
  · exact h

theorem burst_onPointRecord (t : TripUnit) (elapsed : Nat) : (t.onPointRecord elapsed).burst.isSome = true := by
  unfold TripUnit.onPointRecord
  dsimp only
  split <;> rfl

theorem afterChange (h : t.Coherent) (elapsed : Nat) (mode : PointMode) (n : Fin 32) (a : Bool) (i : Instant) :
    (t.afterChange elapsed mode n a i).Coherent := by
  have reported := h.onPointRecord elapsed
  cases mode with
  | off | status => exact h
  | record => exact reported
  | trip =>
    unfold TripUnit.afterChange
    dsimp only
    split
    · refine latched ?_ ?_ n.val i
      · exact reported.of_same rfl rfl rfl rfl rfl rfl
      · exact burst_onPointRecord t elapsed
    · exact reported.of_same rfl rfl rfl rfl rfl rfl

theorem closed (h : t.Coherent) : t.closed.Coherent := by
  obtain ⟨harmed, hprovisional, hranked, hsorted, hlength, hoverflow, hlast, -⟩ := h
  have close (e : t.latch = .provisional) : t.closed.latch = .final := by
    obtain ⟨b, hb, -⟩ := hprovisional e
    simp [TripUnit.closed, hb, e]
  have keep (e : t.latch ≠ .provisional) : t.closed.latch = t.latch := by simp [TripUnit.closed, e]
  refine ⟨fun e => harmed ?_, fun e => ?_, fun e => hranked fun k => e ?_, hsorted, hlength, hoverflow, hlast, nofun⟩
  · by_cases p : t.latch = .provisional
    · rw [close p] at e
      cases e
    · rw [← keep p, e]
  · by_cases p : t.latch = .provisional
    · rw [close p] at e
      cases e
    · exact absurd ((keep p).symm.trans e) p
  · rw [keep (by simp [k]), k]

theorem acknowledge (h : t.Coherent) (l : List (Fin 32)) : (l.foldl TripUnit.acknowledge t).Coherent := by
  induction l generalizing t with
  | nil => exact h
  | cons n l ih => exact ih (h.of_same rfl rfl rfl rfl rfl rfl)

end TripUnit.Coherent

end Sys2Proof.Machine
end

section
/-!
SUPPORT. The points and the annunciation table through the operations of the part: a standing entry is that of a TRIP point in the
state it shows, and a point in OFF is at rest (R41, R54, R55, R74).
-/

namespace Sys2Proof.Machine

theorem TallyFrame.point_eq {s t : State} (h : TallyFrame s t) (n : Fin 32) : t.point n = s.point n := by
  simp only [State.point, h.points]

/-! ### What a confirmed change makes of its point -/

@[simp] theorem handInput_points (k : Nat) (v : Bool) (s : State) : (handInput k v s).points = s.points :=
  (handInput_frame ..).points

@[simp] theorem raiseAtAll_points (n : Notice) (s : State) : (raiseAtAll n s).points = s.points :=
  (raiseAtAll_frame ..).tally.points

@[simp] theorem produceAt_points (i : Instant) (o : Bool) (b : RecordBody) (s : State) :
    (produceAt i o b s).points = s.points :=
  (produceAt_frame ..).tally.points

@[simp] theorem produce_points (o : Bool) (b : RecordBody) (s : State) : (produce o b s).points = s.points :=
  produceAt_points ..

theorem raiseFirstOutIf_points (c : Bool) (s : State) : (if c then raiseAtAll .firstOut s else s).points = s.points := by
  cases c <;> simp

@[simp] theorem latchActivation_points (k : Nat) (i : Instant) (s : State) :
    (latchActivation k i s).points = s.points := by
  unfold latchActivation
  split
  · simp
  · exact raiseFirstOutIf_points _ _
  · rfl

@[simp] theorem takeTripChange_points (n : Fin 32) (a : Bool) (i : Instant) (s : State) :
    (takeTripChange n a i s).points = s.points := by
  unfold takeTripChange
  cases a <;> simp

@[simp] theorem producePoint_points (n : Fin 32) (a : Bool) (c : ChangeCause) (i : Instant) (o : Bool) (s : State) :
    (producePoint n a c i o s).points = s.points := by
  simp [producePoint]

/-- A confirmed change moves the debounced state of its point and nothing else of the points (R50). -/
theorem confirmChange_points (n : Fin 32) (a : Bool) (c : ChangeCause) (i : Instant) (o : Bool) (s : State) :
    (confirmChange n a c i o s).points = (setActive n a s).points := by
  unfold confirmChange
  dsimp only
  split <;> simp

theorem confirmChange_point (n : Fin 32) (a : Bool) (c : ChangeCause) (i : Instant) (o : Bool) (s : State) :
    (confirmChange n a c i o s).point n = { s.point n with active := a } := by
  have moved : (confirmChange n a c i o s).point n = (setActive n a s).point n := by
    simp only [State.point, confirmChange_points]
  rw [moved]
  simp [setActive]

/-- What a TRIP change leaves in the table for its point (R74); another mode leaves the entry. -/
theorem entry_afterChange (t : TripUnit) (elapsed : Nat) (mode : PointMode) (n : Fin 32) (a : Bool) (i : Instant) :
    (t.afterChange elapsed mode n a i).entry n = if mode = .trip then (t.entry n).moved a else t.entry n := by
  have latched (u : TripUnit) : (u.latched n.val i).entry n = u.entry n := by
    unfold TripUnit.latched
    split <;> rfl
  have reported : (t.onPointRecord elapsed).entry n = t.entry n := by
    simp only [TripUnit.entry, TripUnit.annunciation_onPointRecord]
  cases mode with
  | off | status => rfl
  | record => exact reported
  | trip =>
    unfold TripUnit.afterChange
    dsimp only
    rw [if_pos rfl, reported]
    split
    · rw [latched]
      exact TripUnit.entry_withEntry_self ..
    · exact TripUnit.entry_withEntry_self ..

/-! ### One point and its annunciation entry -/

/-- What `AnnunciationCoherent` says of one point and its annunciation entry. -/
def Point.Shows (x : Point) (a : Annunciation) : Prop :=
  (a ≠ .normal → x.entry.mode = .trip) ∧ (a = .activeUnack ∨ a = .activeAck → x.active = true) ∧
    (a = .returnedUnack → x.active = false) ∧
    (x.entry.mode = .off → x.active = false ∧ x.debouncing = none ∧ x.chatter = .clear)

theorem annunciationCoherent_iff (s : State) :
    AnnunciationCoherent s ↔ ∀ n, (s.point n).Shows (s.trip.entry n) := Iff.rfl

/-- A debounce or a chatter state of a watched point is no matter of the table. -/
theorem Point.Shows.watched {x y : Point} {a : Annunciation} (h : x.Shows a) (watched : x.entry.mode ≠ .off)
    (mode : y.entry.mode = x.entry.mode) (active : y.active = x.active) : y.Shows a := by
  obtain ⟨htrip, hactive, hreturned, -⟩ := h
  unfold Point.Shows
  rw [mode, active]
  exact ⟨htrip, hactive, hreturned, fun off => absurd off watched⟩

/-- A point out of TRIP has no standing entry. -/
theorem Point.Shows.normal {x : Point} {a : Annunciation} (h : x.Shows a) (mode : x.entry.mode ≠ .trip) : a = .normal := by
  by_contra standing
  exact mode (h.1 standing)

theorem Point.shows_normal {x : Point} (rest : x.entry.mode = .off → x.active = false ∧ x.debouncing = none ∧ x.chatter = .clear) :
    x.Shows .normal :=
  ⟨fun h => absurd rfl h, by simp, by simp, rest⟩

/-- A confirmed change of a watched point keeps its entry true (R74). -/
theorem Point.Shows.changed {x : Point} {a : Annunciation} (h : x.Shows a) (watched : x.entry.mode ≠ .off) (active : Bool) :
    ({ x with active := active } : Point).Shows (if x.entry.mode = .trip then a.moved active else a) := by
  by_cases trip : x.entry.mode = .trip
  · rw [if_pos trip]
    cases active <;> cases a <;> simp [Point.Shows, Annunciation.moved, trip]
  · rw [if_neg trip, h.normal trip]
    exact shows_normal fun off => absurd off watched

theorem Point.Shows.acknowledged {x : Point} {a : Annunciation} (h : x.Shows a) : x.Shows a.acknowledged := by
  obtain ⟨htrip, hactive, hreturned, hrest⟩ := h
  cases a with
  | normal | activeAck => exact ⟨htrip, hactive, hreturned, hrest⟩
  | activeUnack => exact ⟨fun _ => htrip (by simp), fun _ => hactive (.inl rfl), by simp [Annunciation.acknowledged], hrest⟩
  | returnedUnack => exact shows_normal hrest

/-! ### The operations at one point -/

namespace AnnunciationCoherent

variable {s t : State} {n : Fin 32}

/-- What touches one point and its entry has that point to look after. -/
theorem only (h : AnnunciationCoherent s) (k : OnlyPoint n s t) (self : (t.point n).Shows (t.trip.entry n)) :
    AnnunciationCoherent t := by
  rw [annunciationCoherent_iff]
  intro m
  by_cases hm : m = n
  · exact hm ▸ self
  · rw [k.point m hm, k.entry m hm]
    exact h m

theorem of_eq (h : AnnunciationCoherent s) (points : t.points = s.points) (trip : t.trip = s.trip) :
    AnnunciationCoherent t := by
  intro m
  have same : t.point m = s.point m := by simp only [State.point, points]
  rw [same, trip]
  exact h m

theorem of_tally (h : AnnunciationCoherent s) (k : TallyFrame s t) : AnnunciationCoherent t := h.of_eq k.points k.trip

/-- A watched point may take any debounce and chatter state, and any entry of its mode. -/
theorem withPoint (h : AnnunciationCoherent s) (watched : (s.point n).entry.mode ≠ .off) {x : Point}
    (mode : x.entry.mode = (s.point n).entry.mode) (active : x.active = (s.point n).active) :
    AnnunciationCoherent (s.withPoint n x) := by
  refine h.only (.withPoint s x) ?_
  rw [State.point_withPoint_self]
  exact Point.Shows.watched (h n) watched mode active

theorem confirmChange (h : AnnunciationCoherent s) (watched : (s.point n).entry.mode ≠ .off) (a : Bool) (c : ChangeCause)
    (i : Instant) (o : Bool) : AnnunciationCoherent (confirmChange n a c i o s) := by
  refine h.only (confirmChange_onlyPoint ..) ?_
  rw [confirmChange_point, confirmChange_trip, entry_afterChange]
  exact Point.Shows.changed (h n) watched a

theorem setChatter (h : AnnunciationCoherent s) (watched : (s.point n).entry.mode ≠ .off) (c : Chatter) :
    AnnunciationCoherent (setChatter n c s) :=
  h.withPoint watched rfl rfl

theorem cancelDebounce (h : AnnunciationCoherent s) (n : Fin 32) : AnnunciationCoherent (cancelDebounce n s) := by
  refine h.only (cancelDebounce_onlyPoint s) ?_
  obtain ⟨htrip, hactive, hreturned, hrest⟩ := h n
  unfold Machine.cancelDebounce
  rw [State.point_withPoint_self]
  exact ⟨htrip, hactive, hreturned, fun off => ⟨(hrest off).1, rfl, (hrest off).2.2⟩⟩

theorem takeEdge (h : AnnunciationCoherent s) (watched : (s.point n).entry.mode ≠ .off) :
    AnnunciationCoherent (takeEdge n s) := by
  unfold Machine.takeEdge
  dsimp only
  split
  · exact h.setChatter watched _
  · exact h.cancelDebounce n
  · split
    · exact h
    · exact h.withPoint watched rfl rfl

@[simp] theorem mode_setChatter (c : Chatter) (s : State) :
    ((Machine.setChatter n c s).point n).entry = (s.point n).entry := by
  simp [Machine.setChatter]

@[simp] theorem mode_cancelDebounce (s : State) :
    ((Machine.cancelDebounce n s).point n).entry = (s.point n).entry := by
  simp [Machine.cancelDebounce]

theorem countChange (h : AnnunciationCoherent s) (watched : (s.point n).entry.mode ≠ .off) (a : Bool) (c : ChangeCause)
    (i : Instant) (o : Bool) : AnnunciationCoherent (countChange n a c i o s) := by
  have counted (k : Chatter) : AnnunciationCoherent (Machine.confirmChange n a c i o (Machine.setChatter n k s)) :=
    (h.setChatter watched k).confirmChange (by simpa using watched) a c i o
  unfold Machine.countChange
  dsimp only
  split
  · exact h.confirmChange watched a c i o
  · split
    · exact counted _
    · split
      · exact counted _
      · have reported (b : RecordBody) := h.of_tally (produce_frame false b s).tally
        refine (reported _).setChatter ?_ _
        rw [(produce_frame ..).tally.point_eq]
        exact watched
    · exact h

theorem expireDebounce (h : AnnunciationCoherent s) (n : Fin 32) : AnnunciationCoherent (expireDebounce n s) := by
  unfold Machine.expireDebounce
  split
  · exact h
  · next d debouncing =>
    split
    · have watched : (s.point n).entry.mode ≠ .off := fun off => by
        simp [((h n).2.2.2 off).2.1] at debouncing
      exact (h.cancelDebounce n).countChange (n := n) (by simpa using watched) _ _ _ _
    · exact h

theorem expireWindow (h : AnnunciationCoherent s) (n : Fin 32) : AnnunciationCoherent (expireWindow n s) := by
  unfold Machine.expireWindow
  split
  · next k e counting =>
    split
    · have watched : (s.point n).entry.mode ≠ .off := fun off => by
        simp [((h n).2.2.2 off).2.2] at counting
      exact h.setChatter watched _
    · exact h
  · exact h

theorem releasePoint (h : AnnunciationCoherent s) (watched : (s.point n).entry.mode ≠ .off) (k : Nat) :
    AnnunciationCoherent (releasePoint n k s) := by
  have entry (b : RecordBody) : ((produce false b s).point n).entry = (s.point n).entry := by
    rw [(produce_frame ..).tally.point_eq]
  have released (b : RecordBody) : AnnunciationCoherent (Machine.setChatter n .clear (produce false b s)) :=
    (h.of_tally (produce_frame ..).tally).setChatter (by rwa [entry]) _
  unfold Machine.releasePoint
  dsimp only
  split
  · exact released _
  · refine (released _).confirmChange ?_ _ _ _ _
    rwa [mode_setChatter, entry]

theorem expireStability (h : AnnunciationCoherent s) (n : Fin 32) : AnnunciationCoherent (expireStability n s) := by
  unfold Machine.expireStability
  split
  · next k e suppressed =>
    split
    · have watched : (s.point n).entry.mode ≠ .off := fun off => by
        simp [((h n).2.2.2 off).2.2] at suppressed
      exact h.releasePoint watched _
    · exact h
  · exact h

theorem reportRelease (h : AnnunciationCoherent s) (o : Bool) (n : Fin 32) : AnnunciationCoherent (reportRelease o n s) := by
  unfold Machine.reportRelease
  split
  · exact h.of_tally (produce_frame ..).tally
  · exact h

theorem takeFresh (h : AnnunciationCoherent s) (n : Fin 32) (e : PointEntry) (normal : s.trip.entry n = .normal) :
    AnnunciationCoherent (takeFresh n e s) := by
  unfold Machine.takeFresh
  dsimp only
  refine of_tally ?_ (handInput_frame ..)
  refine (h.reportRelease false n).only (.withPoint ..) ?_
  rw [State.point_withPoint_self, State.withPoint_trip, reportRelease_trip, normal]
  exact Point.shows_normal fun off => ⟨by simp [show e.mode = .off from off], rfl, rfl⟩

theorem invertLine (h : AnnunciationCoherent s) (n : Fin 32) : AnnunciationCoherent (invertLine n s) := by
  unfold Machine.invertLine
  split
  · exact h
  · next watched => exact (h.cancelDebounce n).takeEdge (by simpa using watched)

theorem stopChatter (h : AnnunciationCoherent s) (n : Fin 32) : AnnunciationCoherent (stopChatter n s) := by
  have watched (k : (s.point n).chatter ≠ .clear) : (s.point n).entry.mode ≠ .off :=
    fun off => k ((h n).2.2.2 off).2.2
  unfold Machine.stopChatter
  split
  · exact h
  · exact h.setChatter (watched (by simp [*])) _
  · exact h.releasePoint (watched (by simp [*])) _

theorem applySettings (h : AnnunciationCoherent s) (n : Fin 32) {e : PointEntry} (mode : e.mode = (s.point n).entry.mode) :
    AnnunciationCoherent (applySettings n e s) := by
  have stored : AnnunciationCoherent (s.withPoint n { s.point n with entry := e }) := by
    refine h.only (.withPoint ..) ?_
    rw [State.point_withPoint_self]
    obtain ⟨htrip, hactive, hreturned, hrest⟩ := h n
    exact ⟨fun k => mode.trans (htrip k), hactive, hreturned, fun off => hrest (mode.symm.trans off)⟩
  have inverted (c : Prop) [Decidable c] {u : State} (hu : AnnunciationCoherent u) :
      AnnunciationCoherent (if c then u else Machine.invertLine n u) := by
    split
    · exact hu
    · exact hu.invertLine n
  unfold Machine.applySettings
  dsimp only
  split
  · exact (inverted _ stored).stopChatter n
  · exact inverted _ stored

/-- An entry written to a point that it takes out of no standing trip (R52, R53). -/
theorem writeEntry (h : AnnunciationCoherent s) (n : Fin 32) {e : PointEntry} (free : s.holdsTrip n e.mode = false) :
    AnnunciationCoherent (writeEntry n e s) := by
  unfold Machine.writeEntry
  split
  · exact h.applySettings n ‹_›
  · next mode =>
    refine h.takeFresh n e ?_
    by_contra standing
    have trip := (h n).1 standing
    simp [State.holdsTrip, trip, standing] at free
    exact mode (free.trans trip.symm)

theorem restorePoint (h : AnnunciationCoherent s) (n : Fin 32) : AnnunciationCoherent (restorePoint n s) := by
  have same : (Machine.reportRelease true n s).point n = s.point n := by
    unfold Machine.reportRelease
    split
    · exact (produce_frame ..).tally.point_eq n
    · rfl
  unfold Machine.restorePoint
  split
  · exact h
  · next watched =>
    have cleared : AnnunciationCoherent (Machine.setChatter n .clear (Machine.reportRelease true n s)) :=
      (h.reportRelease true n).setChatter (by rwa [same]) _
    dsimp only
    split
    · exact cleared
    · exact cleared.withPoint (by simpa [same] using watched) rfl rfl

theorem moveDebounce (h : AnnunciationCoherent s) (amount : Int) (n : Fin 32) :
    AnnunciationCoherent (moveDebounce amount n s) := by
  unfold Machine.moveDebounce
  split
  · exact h
  · next d debouncing =>
    have watched : (s.point n).entry.mode ≠ .off := fun off => by
      simp [((h n).2.2.2 off).2.1] at debouncing
    exact h.withPoint watched rfl rfl

theorem sampleLine (h : AnnunciationCoherent s) (n : Fin 32) (high : Bool) : AnnunciationCoherent (sampleLine n high s) := by
  unfold Machine.sampleLine
  split
  · exact h
  · dsimp only
    split
    · next watched =>
      refine takeEdge (s := { s with lines := putBit s.lines n.val high }) h ?_
      simpa using (Bool.and_eq_true_iff.1 watched).2
    · exact h

theorem acknowledge (h : AnnunciationCoherent s) (l : List (Fin 32)) :
    AnnunciationCoherent (s.withTrip (l.foldl TripUnit.acknowledge s.trip)) := by
  suffices ∀ u : TripUnit, (∀ n, (s.point n).Shows (u.entry n)) →
      ∀ n, (s.point n).Shows ((l.foldl TripUnit.acknowledge u).entry n) from this s.trip h
  induction l with
  | nil => exact fun u hu => hu
  | cons m l ih =>
    intro u hu
    refine ih _ fun n => ?_
    unfold TripUnit.acknowledge
    by_cases hn : n = m
    · subst hn
      rw [TripUnit.entry_withEntry_self]
      exact (hu n).acknowledged
    · rw [TripUnit.entry_withEntry_other _ _ hn]
      exact hu n

end AnnunciationCoherent

end Sys2Proof.Machine
end

section
/-!
SUPPORT. The duty record and the shift book through the operations of the part (R123 to R126, R132 to R139, R148 to R150).
-/

namespace Sys2Proof.Machine

/-! ### What a slot search finds -/

theorem mem_numbered {rota : List Slot} {k : Nat} {x : Slot} : (k, x) ∈ numbered rota ↔ rota[k]? = some x := by
  unfold numbered
  rw [List.mem_iff_getElem?]
  constructor
  · rintro ⟨i, hi⟩
    obtain ⟨hk, hx⟩ := List.getElem?_zip_eq_some.1 hi
    obtain rfl : i = k := by simpa using (List.getElem?_eq_some_iff.1 hk).2
    exact hx
  · intro h
    obtain ⟨hk, -⟩ := List.getElem?_eq_some_iff.1 h
    exact ⟨k, List.getElem?_zip_eq_some.2 ⟨by simp [hk], h⟩⟩

/-- The most recent slot is a slot of the rota (R124). -/
theorem mostRecentSlot_mem {rota : List Slot} {i due : Instant} {k : Nat} {x : Slot}
    (h : mostRecentSlot rota i = some (due, k, x)) : rota[k]? = some x := by
  unfold mostRecentSlot at h
  split at h
  · next y last =>
    cases h
    exact mem_numbered.1 (List.mem_of_mem_filter (List.mem_of_getLast? last))
  · obtain ⟨y, last, found⟩ := Option.map_eq_some_iff.1 h
    obtain rfl : y = (k, x) := (Prod.mk.inj found).2
    exact mem_numbered.1 (List.mem_of_getLast? last)

/-! ### A rota that SET_ROTA accepts -/

theorem Slot.fits_iff (x : Slot) : x.fits ↔ x.outOfRange = false := by
  simp [Slot.fits, Slot.outOfRange]

theorem ascending_of_zip_tail {l : List Slot}
    (h : (l.zip l.tail).findIdx? (fun x => decide (x.2.minute ≤ x.1.minute)) = none) :
    l.Pairwise fun a b => a.minute < b.minute := by
  have : l.IsChain fun a b => a.minute < b.minute := by
    induction l with
    | nil => exact .nil
    | cons x l ih =>
      cases l with
      | nil => exact .singleton _
      | cons y l =>
        simp only [List.tail_cons, List.zip_cons_cons, List.findIdx?_cons] at h
        split at h
        · cases h
        · next later =>
          refine .cons_cons (by simpa using later) (ih ?_)
          simpa using h
  exact List.isChain_iff_pairwise.1 this

theorem RotaAccepted.fits {rota : List Slot} (h : RotaAccepted rota) : RotaFits rota := by
  obtain ⟨short, ordered⟩ := h
  unfold badSlot at ordered
  split at ordered
  · cases ordered
  · next inRange =>
    refine ⟨short, fun x hx => x.fits_iff.2 ?_, ascending_of_zip_tail (by simpa using ordered)⟩
    simpa using List.findIdx?_eq_none_iff.1 inRange x hx

/-! ### The duty record -/

/-- What `DutyCoherent` says of the duty unit, beside the ports that hold DUTY. -/
def DutyUnit.Coherent (d : DutyUnit) (holder : Port → Prop) : Prop :=
  (d.state = .vacant → d.crew = 0 ∧ d.port = none) ∧
    (d.state ≠ .vacant → 1 ≤ d.crew ∧ d.crew ≤ 15 ∧ ∃ p, d.port = some p ∧ holder p) ∧
    (d.state = .vacant ∨ d.state = .onDuty → d.handover = .clear) ∧
    (d.state = .due → d.handover.acceptDeadline = none) ∧
    (d.state = .released → d.handover.acceptDeadline.isSome = true) ∧
    d.handover.expected ≤ 15 ∧ d.handover.reoffers ≤ 7 ∧ (∀ k, d.handover.slot = some k → k < 6) ∧
    RotaFits d.rota ∧ (∀ r, d.pendingRota = some r → RotaFits r) ∧ d.settings.reofferLimit ≤ 7 ∧ d.settings.standingCrew ≤ 15

/-- The ports that hold DUTY. -/
def State.mayHold (s : State) (p : Port) : Prop := (s.port p).rights.duty = true

/-- Port A holds every right and the full mask (R173). -/
def State.FullA (s : State) : Prop := (s.port .a).rights = ⟨true, true, true, true⟩ ∧ (s.port .a).readMask = 0xFFF

theorem dutyCoherent_iff (s : State) : DutyCoherent s ↔ s.duty.Coherent s.mayHold ∧ s.FullA := by
  unfold DutyCoherent DutyUnit.Coherent State.FullA
  tauto

/-- Rights and read masks are as they were. -/
def RightsKept (s t : State) : Prop := ∀ p, (t.port p).rights = (s.port p).rights ∧ (t.port p).readMask = (s.port p).readMask

theorem PortsKeep.rights {s t : State} (h : PortsKeep s t) : RightsKept s t := fun p => by
  rw [h p]
  exact ⟨rfl, rfl⟩

theorem RightsKept.withPort {s : State} {p : Port} {u : PortUnit} (rights : u.rights = (s.port p).rights)
    (mask : u.readMask = (s.port p).readMask) : RightsKept s (s.withPort p u) := by
  intro q
  by_cases hq : q = p
  · subst hq
    rw [State.port_withPort_self]
    exact ⟨rights, mask⟩
  · rw [State.port_withPort_other _ _ hq]
    exact ⟨rfl, rfl⟩

namespace DutyCoherent

variable {s t : State}

/-- The duty unit may change in any way that is coherent, as long as no right does. -/
theorem of_duty (h : DutyCoherent s) (ports : RightsKept s t) (duty : s.duty.Coherent s.mayHold → t.duty.Coherent s.mayHold) :
    DutyCoherent t := by
  obtain ⟨hduty, rights, mask⟩ := (dutyCoherent_iff s).1 h
  have holders : t.mayHold = s.mayHold := by
    funext p
    simp only [State.mayHold, (ports p).1]
  rw [dutyCoherent_iff, holders]
  exact ⟨duty hduty, (ports .a).1.trans rights, (ports .a).2.trans mask⟩

theorem of_same (h : DutyCoherent s) (ports : RightsKept s t) (duty : t.duty = s.duty) : DutyCoherent t :=
  h.of_duty ports fun k => duty ▸ k

theorem of_tally (h : DutyCoherent s) (k : TallyFrame s t) : DutyCoherent t :=
  h.of_same k.2.rights (by rw [k.1])

theorem withDuty (h : DutyCoherent s) {d : DutyUnit} (duty : s.duty.Coherent s.mayHold → d.Coherent s.mayHold) :
    DutyCoherent (s.withDuty d) :=
  h.of_duty (fun _ => ⟨rfl, rfl⟩) duty

/-- The served slot is no matter of the duty record's coherence. -/
theorem serve (h : DutyCoherent s) (i : Option Instant) : DutyCoherent (s.withDuty { s.duty with lastServed := i }) :=
  h.withDuty id

theorem keepRota (h : DutyCoherent s) {r : List Slot} (fits : RotaFits r) :
    DutyCoherent (s.withDuty { s.duty with pendingRota := some r }) := by
  refine h.withDuty fun ⟨vacant, held, clear, due, released, crew, offers, slot, rota, _, limit, standing⟩ => ?_
  exact ⟨vacant, held, clear, due, released, crew, offers, slot, rota, fun _ k => Option.some.inj k ▸ fits, limit, standing⟩

theorem settings (h : DutyCoherent s) {x : HandoverSettings} (hlimit : x.reofferLimit ≤ 7) (hstanding : x.standingCrew ≤ 15) :
    DutyCoherent (s.withDuty { s.duty with settings := x }) := by
  refine h.withDuty fun ⟨vacant, held, clear, due, released, crew, offers, slot, rota, pending, _, _⟩ => ?_
  exact ⟨vacant, held, clear, due, released, crew, offers, slot, rota, pending, hlimit, hstanding⟩

/-- A handover in progress, in DUE or RELEASED, with fields in range. -/
theorem handover (h : DutyCoherent s) (held : s.duty.state ≠ .vacant) {state : DutyState} {x : HandoverFields}
    (handing : state = .due ∨ state = .released) (due : state = .due → x.acceptDeadline = none)
    (released : state = .released → x.acceptDeadline.isSome = true)
    (fields : s.duty.Coherent s.mayHold → x.expected ≤ 15 ∧ x.reoffers ≤ 7 ∧ ∀ k, x.slot = some k → k < 6) :
    DutyCoherent (s.withDuty { s.duty with state := state, handover := x }) := by
  refine h.withDuty fun coherent => ?_
  obtain ⟨crew, offers, slot⟩ := fields coherent
  obtain ⟨_, holder, _, _, _, _, _, _, rota, pending, limit, standing⟩ := coherent
  have notVacant : state ≠ .vacant := by rcases handing with rfl | rfl <;> simp
  have notOn : state ≠ .onDuty := by rcases handing with rfl | rfl <;> simp
  exact ⟨fun e => absurd e notVacant, fun _ => holder held, fun e => absurd e (by simp [notVacant, notOn]), due, released,
    crew, offers, slot, rota, pending, limit, standing⟩

theorem fields_of_coherent {d : DutyUnit} {holder : Port → Prop} (h : d.Coherent holder) :
    d.handover.expected ≤ 15 ∧ d.handover.reoffers ≤ 7 ∧ ∀ k, d.handover.slot = some k → k < 6 := by
  obtain ⟨_, _, _, _, _, crew, offers, slot, _⟩ := h
  exact ⟨crew, offers, slot⟩

theorem openHandover (h : DutyCoherent s) (held : s.duty.state = .onDuty) (d : Instant) :
    DutyCoherent (s.withDuty { s.duty with state := .due, handover := ⟨none, 0, some d, none, false, 0⟩ }) :=
  h.handover (by simp [held]) (.inl rfl) (fun _ => rfl) nofun fun _ => by simp

theorem release (h : DutyCoherent s) (held : s.duty.state = .due) (d : Instant) :
    DutyCoherent
      (s.withDuty { s.duty with state := .released, handover := { s.duty.handover with acceptDeadline := some d } }) :=
  h.handover (by simp [held]) (.inr rfl) nofun (fun _ => rfl) fields_of_coherent

theorem reclaim (h : DutyCoherent s) (held : s.duty.state = .released) :
    DutyCoherent (s.withDuty { s.duty with state := .due, handover := { s.duty.handover with acceptDeadline := none } }) :=
  h.handover (by simp [held]) (.inl rfl) (fun _ => rfl) nofun fields_of_coherent

/-- A crew on duty at a port that holds DUTY, with no handover. -/
theorem onDuty (h : DutyCoherent s) {d : DutyUnit} (state : d.state = .onDuty) (handover : d.handover = .clear)
    (rota : d.rota = s.duty.rota) (pending : d.pendingRota = s.duty.pendingRota) (settings : d.settings = s.duty.settings)
    (holder : s.duty.Coherent s.mayHold → 1 ≤ d.crew ∧ d.crew ≤ 15 ∧ ∃ p, d.port = some p ∧ s.mayHold p) :
    DutyCoherent (s.withDuty d) := by
  refine h.withDuty fun coherent => ?_
  have hheld := holder coherent
  obtain ⟨_, _, _, _, _, _, _, _, hrota, hpending, limit, standing⟩ := coherent
  unfold DutyUnit.Coherent
  rw [state, handover, rota, pending, settings]
  exact ⟨nofun, fun _ => hheld, fun _ => rfl, nofun, nofun, by simp [HandoverFields.clear], by simp [HandoverFields.clear],
    nofun, hrota, hpending, limit, standing⟩

theorem applyRota (h : DutyCoherent s) (o : Bool) : DutyCoherent (applyRota o s) := by
  unfold Machine.applyRota
  split
  · exact h
  · next r waiting =>
    refine of_tally ?_ (produce_frame ..).tally
    refine h.withDuty fun ⟨vacant, held, clear, due, released, crew, offers, slot, _, pending, limit, standing⟩ => ?_
    exact ⟨vacant, held, clear, due, released, crew, offers, slot, pending r waiting, nofun, limit, standing⟩

theorem produceHandover (h : DutyCoherent s) (o : Bool) (phase : HandoverPhase) (x y : Nat) (k : Option Nat) (r z : Nat) :
    DutyCoherent (produceHandover o phase x y k r z s) :=
  h.of_tally (produceHandover_frame ..).tally

theorem reportHandover (h : DutyCoherent s) (o : Bool) (phase : HandoverPhase) (k : Nat) :
    DutyCoherent (reportHandover o phase k s) :=
  h.produceHandover ..

theorem expireRelease (h : DutyCoherent s) (o : Bool) : DutyCoherent (expireRelease o s) := by
  unfold Machine.expireRelease
  split
  · next due _ =>
    split
    · refine reportHandover ?_ ..
      refine h.withDuty fun ⟨vacant, held, _, noAccept, released, crew, offers, slot, rest⟩ => ?_
      exact ⟨vacant, held, fun e => by simp [due] at e, noAccept, released, crew, offers, slot, rest⟩
    · exact h
  · exact h

theorem reoffer (h : DutyCoherent s) (held : s.duty.state = .released)
    (below : s.duty.handover.reoffers < s.duty.settings.reofferLimit) (o : Bool) : DutyCoherent (reoffer o s) := by
  refine reportHandover ?_ ..
  refine h.withDuty fun ⟨vacant, holder, _, _, _, crew, _, slot, rota, pending, limit, standing⟩ => ?_
  exact ⟨vacant, holder, fun e => by simp [held] at e, fun e => by simp [held] at e, fun _ => rfl, crew, by dsimp only; omega,
    slot, rota, pending, limit, standing⟩

theorem lapse (h : DutyCoherent s) (held : s.duty.state = .released) (o : Bool) : DutyCoherent (lapse o s) := by
  have same (phase : HandoverPhase) (x y : Nat) (k : Option Nat) (r z : Nat) :
      (Machine.produceHandover o phase x y k r z s).duty = s.duty := by
    rw [(produceHandover_frame ..).1]
  unfold Machine.lapse
  dsimp only
  split
  · refine (h.produceHandover ..).onDuty rfl rfl rfl rfl rfl fun coherent => coherent.2.1 ?_
    simp [same, held]
  · split
    · refine of_tally (applyRota ?_ o) (handDutyHeld_frame _)
      refine (h.produceHandover ..).withDuty fun ⟨_, _, _, _, _, _, _, _, rota, pending, limit, standing⟩ => ?_
      exact ⟨fun _ => ⟨rfl, rfl⟩, fun e => absurd rfl e, fun _ => rfl, nofun, nofun, by simp [HandoverFields.clear],
        by simp [HandoverFields.clear], nofun, rota, pending, limit, standing⟩
    · next some_crew =>
      refine (h.produceHandover ..).onDuty rfl rfl rfl rfl rfl fun coherent => ?_
      obtain ⟨_, _, _, _, _, _, _, _, _, _, _, standing⟩ := coherent
      refine ⟨Nat.one_le_iff_ne_zero.2 some_crew, by simpa [same] using standing, .a, rfl, ?_⟩
      have full := ((dutyCoherent_iff _).1 (h.produceHandover o .lapsedStanding s.duty.crew s.duty.settings.standingCrew
        s.duty.handover.slot s.duty.handover.reoffers 0)).2.1
      simp [State.mayHold, full]

theorem expireAccept (h : DutyCoherent s) (o : Bool) : DutyCoherent (expireAccept o s) := by
  unfold Machine.expireAccept
  split
  · next held _ =>
    split
    · split
      · exact h.reoffer held ‹_› o
      · exact h.lapse held o
    · exact h
  · exact h

/-- A slot falls due (R128 to R130): its number and its crew are those of a rota in range. -/
theorem slotFalls (h : DutyCoherent s) (o : Bool) (due : Instant) {k : Nat} {x : Slot} (skipped : Nat) (hk : k < 6)
    (hx : x.crew ≤ 15) : DutyCoherent (slotFalls o due k x skipped s) := by
  have served := h.serve (some due)
  unfold Machine.slotFalls
  dsimp only
  split
  · exact served
  · next on =>
    have opened (d : Instant) : DutyCoherent ((s.withDuty { s.duty with lastServed := some due }).withDuty
        { s.duty with lastServed := some due, state := .due, handover := ⟨some k, x.crew, some d, none, false, 0⟩ }) := by
      refine served.handover (by simpa using by simp [show s.duty.state = .onDuty from on]) (.inl rfl) (fun _ => rfl) nofun
        fun _ => ⟨hx, Nat.zero_le _, fun j hj => Option.some.inj hj ▸ hk⟩
    split
    · exact (opened _).reportHandover ..
    · exact ((opened _).reportHandover ..).reportHandover ..
  · next held =>
    refine reportHandover ?_ ..
    refine served.withDuty fun ⟨vacant, holder, _, noAccept, released, _, offers, _, rest⟩ => ?_
    exact ⟨vacant, holder, fun e => by simp [show s.duty.state = .due from held] at e, noAccept, released, hx, offers,
      fun j hj => Option.some.inj hj ▸ hk, rest⟩
  · next held =>
    refine reportHandover ?_ ..
    refine served.withDuty fun ⟨vacant, holder, _, noAccept, released, _, offers, _, rest⟩ => ?_
    exact ⟨vacant, holder, fun e => by simp [show s.duty.state = .released from held] at e, noAccept, released, hx, offers,
      fun j hj => Option.some.inj hj ▸ hk, rest⟩

theorem checkSlots (h : DutyCoherent s) (o : Bool) : DutyCoherent (checkSlots o s) := by
  unfold Machine.checkSlots
  split
  · exact h
  · next due k x found =>
    obtain ⟨short, inRange, -⟩ : RotaFits s.duty.rota := by
      obtain ⟨_, _, _, _, _, _, _, _, rota, _⟩ := h
      exact rota
    obtain ⟨inside, rfl⟩ := List.getElem?_eq_some_iff.1 (mostRecentSlot_mem found)
    split
    · exact h.serve _
    · split
      · exact h.slotFalls o due _ (Nat.lt_of_lt_of_le inside short) (inRange _ (List.getElem_mem inside)).2
      · exact h

end DutyCoherent

/-! ### The shift values -/

theorem resetShift_frame (i : Fin 12) (s : State) : TallyFrame s (resetShift i s) := .withEntry ..

theorem resetShifts_frame (s : State) : TallyFrame s (atAllTallies resetShift s) :=
  atAllTallies_keeps (fun i _ h => h.trans (resetShift_frame i _)) (.refl s)

/-! ### The shift book -/

theorem BookJoined.take {l : List BookRecord} (h : BookJoined l) (k : Nat) : BookJoined (l.take k) := by
  induction l generalizing k with
  | nil => simp [BookJoined]
  | cons new l ih =>
    cases k with
    | zero => trivial
    | succ k =>
      cases l with
      | nil => simp [BookJoined]
      | cons old l =>
        obtain ⟨start, number, rest⟩ := h
        cases k with
        | zero => trivial
        | succ k => exact ⟨start, number, ih rest (k + 1)⟩

theorem bookInOrder_of_same {s t : State} (h : BookInOrder s) (book : t.book = s.book) : BookInOrder t := by
  unfold BookInOrder
  rw [book]
  exact h

/-- A record that starts at the current shift start with the next number joins the chain (R148 to R150). -/
theorem BookInOrder.write {s t : State} (h : BookInOrder s) {r : BookRecord} (number : r.number = s.book.nextNumber)
    (start : r.shiftStart = s.book.shiftStart) (book : t.book = s.book.write r) : BookInOrder t := by
  obtain ⟨-, joined, current⟩ := h
  have chain : BookJoined (r :: s.book.records) := by
    cases records : s.book.records with
    | nil => trivial
    | cons old l =>
      obtain ⟨hstart, hnumber⟩ := current old (by simp [records])
      exact ⟨start.trans hstart, number.trans hnumber, records ▸ joined⟩
  unfold BookInOrder
  rw [book]
  refine ⟨List.length_take_le .., chain.take 8, fun x hx => ?_⟩
  obtain rfl : r = x := by simpa [ShiftBook.write] using hx
  exact ⟨rfl, by rw [number]; rfl⟩

theorem DutyFrame.book {s t : State} (h : DutyFrame s t) : t.book = s.book := by rw [h.1]

theorem TallyFrame.book {s t : State} (h : TallyFrame s t) : t.book = s.book := by rw [h.1]

theorem PointFrame.book {s t : State} (h : PointFrame s t) : t.book = s.book := by rw [h.1]

end Sys2Proof.Machine
end

section
/-!
SUPPORT. The five invariants that a change of the tallies, the queue, the pending notices and the lines leaves alone, and the
commands that wait, across each operation (`BlocksKept`): the clock, the latch, the annunciation table, the duty record and the
shift book.
-/

namespace Sys2Proof.Machine

/-! ### The time base -/

theorem QualityFrame.discipline {s t : State} (h : QualityFrame s t) : t.discipline = s.discipline := by rw [h.1]

@[simp] theorem handInput_time (k : Nat) (v : Bool) (s : State) : (handInput k v s).time = s.time := by
  rw [(handInput_frame k v s).1]

@[simp] theorem produce_time (o : Bool) (b : RecordBody) (s : State) : (produce o b s).time = s.time := by
  rw [(produce_frame o b s).1]

@[simp] theorem raiseAtAll_time (n : Notice) (s : State) : (raiseAtAll n s).time = s.time := by
  rw [(raiseAtAll_frame n s).1]

/-- A move of the quality moves nothing else of the time base (R9). -/
theorem moveQuality_time (q : Quality) (s : State) : (moveQuality q s).time = { s.time with quality := q } := by
  unfold moveQuality
  dsimp only
  split
  · next same => rw [same]
  · split <;> simp

namespace ClockInRange

variable {s t : State}

theorem of_same (h : ClockInRange s) (time : t.time = s.time) (discipline : t.discipline = s.discipline) :
    ClockInRange t := by
  unfold ClockInRange
  rw [time, discipline]
  exact h

theorem moveQuality (h : ClockInRange s) (q : Quality) : ClockInRange (moveQuality q s) := by
  unfold ClockInRange
  rw [moveQuality_time, (moveQuality_frame q s).discipline]
  exact h

theorem discardStaged (h : ClockInRange s) : ClockInRange (discardStaged s) := by
  obtain ⟨date, ms, q, freq, slew, -⟩ := h
  exact ⟨date, ms, q, freq, slew, nofun⟩

theorem stage (h : ClockInRange s) {date ms : Nat} (p : Port) (hdate : date < 65536) (hms : ms < dayMs) :
    ClockInRange (s.withTime { s.time with staged := some ⟨date, ms / 1000 * 1000, p⟩ }) := by
  obtain ⟨date', ms', q, freq, slew, -⟩ := h
  refine ⟨date', ms', q, freq, slew, ?_⟩
  rintro x ⟨⟩
  exact ⟨hdate, (Nat.div_mul_le_self ms 1000).trans_lt hms, Nat.mul_mod_left ..⟩

theorem replaceTime (h : ClockInRange s) {date ms : Nat} (hdate : date < 65536) (hms : ms < dayMs) :
    ClockInRange (replaceTime date ms s) := by
  obtain ⟨-, -, -, freq, slew, staged⟩ := h
  exact ⟨hdate, hms, (by decide : 0 < millisecondUnits), freq, slew, staged⟩

theorem withDiscipline (h : ClockInRange s) {d : Discipline} (kept : TrimsKept s.discipline d) :
    ClockInRange (s.withDiscipline d) := by
  obtain ⟨date, ms, q, freq, slew, staged⟩ := h
  obtain ⟨hfreq, hslew⟩ := kept
  exact ⟨date, ms, q, hfreq.elim (fun e => e ▸ freq) id, hslew.elim (fun e => e ▸ slew) id, staged⟩

theorem increment_le (h : ClockInRange s) : s.increment ≤ tickUnits + 700000 := by
  obtain ⟨-, -, -, freq, slew, -⟩ := h
  unfold State.increment State.trim
  omega

/-- The clock carries into its ranges (R2, R3). -/
theorem advanceClock (h : ClockInRange s) : ClockInRange (advanceClock s) := by
  have small : s.increment < millisecondUnits := h.increment_le.trans_lt (by decide)
  obtain ⟨date, ms, q, freq, slew, staged⟩ := h
  unfold Machine.advanceClock
  dsimp only
  split
  · next below => exact ⟨date, ms, below, freq, slew, staged⟩
  · have rest : s.time.q + s.increment - millisecondUnits < millisecondUnits := by omega
    unfold TimeBase.nextMs
    split
    · refine ⟨?_, (by decide : 0 < dayMs), rest, freq, slew, staged⟩
      show dateAfter s.time.date < 65536
      unfold dateAfter
      split <;> omega
    · next inDay => exact ⟨date, Nat.lt_of_le_of_ne ms inDay, rest, freq, slew, staged⟩

end ClockInRange

/-- The clock's advance moves nothing but the time base and the readings of elapsed time (R2, R3). -/
theorem advanceClock_frame (s : State) :
    advanceClock s =
      { s with
        time := (advanceClock s).time, elapsed := (advanceClock s).elapsed, boundaryAt := (advanceClock s).boundaryAt
        boundaryWaits := (advanceClock s).boundaryWaits } := by
  unfold advanceClock
  dsimp only
  split <;> rfl

/-! ### The relation -/

/-- The commands that wait are the same, and each of the five invariants that held holds. -/
structure BlocksKept (s t : State) : Prop where
  pending : t.pending = s.pending
  clock : ClockInRange s → ClockInRange t
  latch : LatchCoherent s → LatchCoherent t
  annunciation : AnnunciationCoherent s → AnnunciationCoherent t
  duty : DutyCoherent s → DutyCoherent t
  book : BookInOrder s → BookInOrder t

theorem LatchCoherent.of_trip {s t : State} (h : LatchCoherent s) (trip : t.trip = s.trip) : LatchCoherent t := by
  rw [latchCoherent_iff, trip]
  exact h

namespace BlocksKept

variable {s t : State}

theorem refl (s : State) : BlocksKept s s := ⟨rfl, id, id, id, id, id⟩

theorem trans {s t u : State} (h : BlocksKept s t) (k : BlocksKept t u) : BlocksKept s u :=
  ⟨k.pending.trans h.pending, k.clock ∘ h.clock, k.latch ∘ h.latch, k.annunciation ∘ h.annunciation, k.duty ∘ h.duty,
    k.book ∘ h.book⟩

theorem of_duty (h : DutyFrame s t) (duty : DutyCoherent s → DutyCoherent t) : BlocksKept s t where
  pending := by rw [h.1]
  clock k := k.of_same (by rw [h.1]) (by rw [h.1])
  latch k := k.of_trip h.trip
  annunciation k := k.of_eq (by rw [h.1]) h.trip
  duty := duty
  book k := bookInOrder_of_same k h.book

theorem of_tally (h : TallyFrame s t) : BlocksKept s t := of_duty h.duty fun k => k.of_tally h

theorem of_notice (h : NoticeFrame s t) : BlocksKept s t := of_tally h.tally

theorem of_point (h : PointFrame s t) (latch : s.trip.Coherent → t.trip.Coherent)
    (annunciation : AnnunciationCoherent s → AnnunciationCoherent t) : BlocksKept s t where
  pending := by rw [h.1]
  clock k := k.of_same (by rw [h.1]) (by rw [h.1])
  latch := latch
  annunciation := annunciation
  duty k := k.of_same h.2.rights (by rw [h.1])
  book k := bookInOrder_of_same k h.book

theorem withPort {p : Port} {u : PortUnit} (rights : u.rights = (s.port p).rights) (mask : u.readMask = (s.port p).readMask) :
    BlocksKept s (s.withPort p u) :=
  ⟨rfl, id, id, id, fun k => k.of_same (.withPort rights mask) rfl, id⟩

theorem withSupply (s : State) (m : SupplyMonitor) : BlocksKept s (s.withSupply m) := ⟨rfl, id, id, id, id, id⟩

theorem withQueue (s : State) (q : EventQueue) : BlocksKept s (s.withQueue q) := of_notice (.withQueue s q)

/-! ### The trip unit and the points -/

theorem withTrip (x : TripUnit) (latch : s.trip.Coherent → x.Coherent) (annunciation : x.annunciation = s.trip.annunciation) :
    BlocksKept s (s.withTrip x) := by
  refine of_point (.withTrip s x) latch fun k n => ?_
  have entry : (s.withTrip x).trip.entry n = s.trip.entry n := by simp only [TripUnit.entry, State.withTrip_trip, annunciation]
  rw [entry]
  exact k n

theorem confirm_latch (n : Fin 32) (a : Bool) (c : ChangeCause) (i : Instant) (o : Bool) (k : s.trip.Coherent) :
    (confirmChange n a c i o s).trip.Coherent := by
  rw [confirmChange_trip]
  exact k.afterChange ..

theorem cancelDebounce (n : Fin 32) (s : State) : BlocksKept s (cancelDebounce n s) :=
  of_point (.withPoint ..) id fun k => k.cancelDebounce n

theorem takeEdge_latch (n : Fin 32) (k : s.trip.Coherent) : (takeEdge n s).trip.Coherent := by
  unfold takeEdge
  dsimp only
  split
  · exact k
  · exact k
  · split <;> exact k

theorem countChange_latch (n : Fin 32) (a : Bool) (c : ChangeCause) (i : Instant) (o : Bool) (k : s.trip.Coherent) :
    (countChange n a c i o s).trip.Coherent := by
  unfold countChange
  dsimp only
  split
  · exact confirm_latch n a c i o k
  · split
    · exact confirm_latch n a c i o (s := setChatter n _ s) k
    · split
      · exact confirm_latch n a c i o (s := setChatter n _ s) k
      · exact (produce_trip false _ s).symm ▸ k
    · exact k

theorem expireDebounce (n : Fin 32) (s : State) : BlocksKept s (expireDebounce n s) := by
  refine of_point (expireDebounce_frame n s) (fun k => ?_) fun k => k.expireDebounce n
  unfold Machine.expireDebounce
  split
  · exact k
  · split
    · exact countChange_latch n _ _ _ _ (s := Machine.cancelDebounce n s) k
    · exact k

theorem expireWindow (n : Fin 32) (s : State) : BlocksKept s (expireWindow n s) := by
  refine of_point (expireWindow_frame n s) (fun k => ?_) fun k => k.expireWindow n
  unfold Machine.expireWindow
  split
  · split <;> exact k
  · exact k

theorem releasePoint_latch (n : Fin 32) (edges : Nat) (k : s.trip.Coherent) : (releasePoint n edges s).trip.Coherent := by
  have released (b : RecordBody) : (setChatter n .clear (produce false b s)).trip.Coherent :=
    (produce_trip false b s).symm ▸ k
  unfold releasePoint
  dsimp only
  split
  · exact released _
  · exact confirm_latch n _ _ _ _ (released _)

theorem expireStability (n : Fin 32) (s : State) : BlocksKept s (expireStability n s) := by
  refine of_point (expireStability_frame n s) (fun k => ?_) fun k => k.expireStability n
  unfold Machine.expireStability
  split
  · split
    · exact releasePoint_latch n _ k
    · exact k
  · exact k

theorem writeEntry (n : Fin 32) (e : PointEntry) (s : State) (free : s.holdsTrip n e.mode = false) :
    BlocksKept s (writeEntry n e s) := by
  refine of_point (writeEntry_frame n e s) (fun k => ?_) fun k => k.writeEntry n free
  have inverted (c : Prop) [Decidable c] {u : State} (hu : u.trip.Coherent) :
      (if c then u else invertLine n u).trip.Coherent := by
    unfold invertLine
    split
    · exact hu
    · split
      · exact hu
      · exact takeEdge_latch n (s := Machine.cancelDebounce n u) hu
  have stopped {u : State} (hu : u.trip.Coherent) : (stopChatter n u).trip.Coherent := by
    unfold stopChatter
    split
    · exact hu
    · exact hu
    · exact releasePoint_latch n _ hu
  unfold Machine.writeEntry applySettings takeFresh
  dsimp only
  split
  · split
    · exact stopped (inverted _ k)
    · exact inverted _ k
  · rw [handInput_trip]
    exact (reportRelease_trip false n s).symm ▸ k

theorem sampleLine (n : Fin 32) (high : Bool) (s : State) : BlocksKept s (sampleLine n high s) := by
  have lines (l : BitVec 32) : BlocksKept s { s with lines := l } := ⟨rfl, id, id, id, id, id⟩
  unfold Machine.sampleLine
  split
  · exact refl s
  · dsimp only
    split
    · next watched =>
      refine (lines _).trans (of_point (takeEdge_frame n _) (takeEdge_latch n) fun k => k.takeEdge ?_)
      simpa using (Bool.and_eq_true_iff.1 watched).2
    · exact lines _

theorem closeBurst (s : State) : BlocksKept s (closeBurst s) := by
  have points : (Machine.closeBurst s).points = s.points := by
    unfold Machine.closeBurst finaliseFirstOut
    split
    · rfl
    · dsimp only
      split <;> simp
  refine of_point (closeBurst_frame s) (fun k => closeBurst_trip s ▸ k.closed) fun k n => ?_
  have point : (Machine.closeBurst s).point n = s.point n := by simp only [State.point, points]
  rw [point, closeBurst_trip]
  exact k n

theorem restorePoint (n : Fin 32) (s : State) : BlocksKept s (restorePoint n s) := by
  refine of_point ?_ (fun k => (restorePoint_trip n s).symm ▸ k) fun k => k.restorePoint n
  have cleared : PointFrame s (setChatter n .clear (reportRelease true n s)) :=
    (reportRelease_frame ..).trans (setChatter_frame ..)
  unfold Machine.restorePoint
  split
  · exact .refl s
  · dsimp only
    split
    · exact cleared
    · exact cleared.trans (.withPoint ..)

theorem atAllPoints {f : Fin 32 → State → State} (h : ∀ n s, BlocksKept s (f n s)) (s : State) :
    BlocksKept s (atAllPoints f s) :=
  atAllPoints_keeps (fun n _ k => k.trans (h n _)) (refl s)

theorem atAllPorts {f : Port → State → State} (h : ∀ p s, BlocksKept s (f p s)) (s : State) :
    BlocksKept s (atAllPorts f s) :=
  atAllPorts_keeps (fun p _ k => k.trans (h p _)) (refl s)

/-! ### The time base and the discipline unit -/

theorem withTime (x : TimeBase) (clock : ClockInRange s → ClockInRange (s.withTime x)) : BlocksKept s (s.withTime x) :=
  ⟨rfl, clock, id, id, id, id⟩

theorem moveQuality (q : Quality) (s : State) : BlocksKept s (moveQuality q s) where
  pending := by rw [(moveQuality_frame q s).1]
  clock k := k.moveQuality q
  latch k := k.of_trip (by rw [(moveQuality_frame q s).1])
  annunciation k := k.of_eq (by rw [(moveQuality_frame q s).1]) (by rw [(moveQuality_frame q s).1])
  duty k := k.of_same (moveQuality_frame q s).2.rights (by rw [(moveQuality_frame q s).1])
  book k := bookInOrder_of_same k (by rw [(moveQuality_frame q s).1])

theorem moveDebounces (amount : Int) (s : State) : BlocksKept s (Machine.atAllPoints (moveDebounce amount) s) := by
  refine atAllPoints (fun n u => of_point ?_ (fun k => ?_) fun k => k.moveDebounce amount n) s
  all_goals
    unfold moveDebounce
    split
  · exact .refl u
  · exact .withPoint ..
  · exact k
  · exact k

theorem rewriteTime {date ms : Nat} (s : State) (range : ClockInRange s → date < 65536 ∧ ms < dayMs) :
    BlocksKept s (rewriteTime date ms s) :=
  (withTime (s := s) _ fun k => k.replaceTime (range k).1 (range k).2).trans (moveDebounces ..)

theorem advanceClock (s : State) : BlocksKept s (advanceClock s) := by
  refine ⟨?_, fun k => k.advanceClock, fun k => k.of_trip ?_, fun k => k.of_eq ?_ ?_, fun k => k.of_same ?_ ?_,
    fun k => bookInOrder_of_same k ?_⟩
  all_goals rw [advanceClock_frame s]
  exact fun _ => ⟨rfl, rfl⟩

end BlocksKept

end Sys2Proof.Machine
end

section
/-!
SUPPORT. `BlocksKept` across every operation, and what follows: every command completes and leaves the queue of the commands that
wait, and every step keeps the clock, the latch, the annunciation table, the duty record and the shift book.
-/

namespace Sys2Proof.Machine

namespace BlocksKept

variable {s : State}

/-! ### Rights, trips and the queue -/

/-- SET_RIGHTS leaves port A, and the duty port its DUTY right (R174). -/
theorem storeRights {q : Port} {r : Rights} (m : BitVec 12) (s : State) (other : q ≠ .a)
    (holder : ¬ (s.duty.port = some q ∧ r.duty = false)) : BlocksKept s (storeRights q r m s) := by
  have stored : BlocksKept s (s.withPort q { s.port q with rights := r, readMask := m }) := by
    refine ⟨rfl, id, id, id, fun k => ?_, id⟩
    have portA : (s.withPort q { s.port q with rights := r, readMask := m }).port .a = s.port .a :=
      s.port_withPort_other _ other.symm
    obtain ⟨⟨vacant, held, rest⟩, full, mask⟩ := (dutyCoherent_iff s).1 k
    refine (dutyCoherent_iff _).2 ⟨⟨vacant, fun e => ?_, rest⟩, ?_, ?_⟩
    · obtain ⟨low, high, p, hport, hright⟩ := held e
      refine ⟨low, high, p, hport, ?_⟩
      by_cases hp : p = q
      · subst hp
        simpa [State.mayHold] using fun e => holder ⟨hport, e⟩
      · rw [State.mayHold, State.port_withPort_other _ _ hp]
        exact hright
    · rw [portA]
      exact full
    · rw [portA]
      exact mask
  have leave (c : Bool) (u : State) : BlocksKept u (if c then unsubscribe q u else u) := by
    cases c
    · exact refl u
    · unfold unsubscribe
      rw [if_pos rfl]
      split
      · exact (withQueue u _).trans (of_notice (syncEvents_frame ..))
      · exact refl u
  unfold Machine.storeRights
  dsimp only
  split
  · exact stored.trans (leave _ _)
  · exact (stored.trans (leave _ _)).trans (of_notice (syncTallyDue_frame ..))

theorem resetFirstOut (crew : Nat) (s : State) :
    BlocksKept s (handInput inputFirstOut false (produce false (.firstOutReset crew)
      (s.withTrip { s.trip with latch := .armed, latchingBurst := 0, ranked := [], overflow := 0 }))) := by
  refine trans (withTrip _ (fun ⟨_, _, _, _, _, _, last, burst⟩ => ?_) (by rfl))
    (of_tally ((produce_frame ..).tally.trans (handInput_frame ..)))
  exact ⟨fun _ => ⟨rfl, rfl, rfl⟩, nofun, fun e => absurd rfl e, .nil, Nat.zero_le _, Nat.zero_le _, last, burst⟩

theorem unsubscribe (p : Port) (s : State) : BlocksKept s (unsubscribe p s) := by
  unfold Machine.unsubscribe
  split
  · exact (withQueue s _).trans (of_notice (syncEvents_frame ..))
  · exact refl s

theorem joinSubscription (p : Port) (s : State) : BlocksKept s (joinSubscription p s) := by
  unfold Machine.joinSubscription
  split
  · exact refl s
  · exact withQueue s _

/-! ### The exchange -/

/-- Counts and settings of the trip unit that no invariant looks at. -/
theorem withTrip_counts {x : TripUnit} (latch : x.latch = s.trip.latch) (ranked : x.ranked = s.trip.ranked)
    (overflow : x.overflow = s.trip.overflow) (latching : x.latchingBurst = s.trip.latchingBurst)
    (burst : x.burst = s.trip.burst) (last : x.lastBurst = s.trip.lastBurst)
    (annunciation : x.annunciation = s.trip.annunciation) : BlocksKept s (s.withTrip x) :=
  withTrip x (fun k => k.of_same latch ranked overflow latching burst last) annunciation

/-- A snapshot writes a record that joins the book, and clears counts that no invariant looks at (R132, R133, stage 2). -/
theorem snapshot (x y : Nat) (h : HandoverFields) (s : State) : BlocksKept s (snapshot x y h s) := by
  have booked : BlocksKept s (s.withBook (s.book.write (s.bookRecord x y h))) :=
    ⟨rfl, id, id, id, id, fun k => k.write (r := s.bookRecord x y h) rfl rfl rfl⟩
  have counted (u : State) : BlocksKept u (u.withTrip { u.trip with tripCount := 0, pointCount := 0 }) :=
    withTrip_counts rfl rfl rfl rfl rfl rfl rfl
  exact booked.trans ((counted _).trans (of_tally (resetShifts_frame _)))

theorem snapshot_rights (x y : Nat) (h : HandoverFields) (s : State) : RightsKept s (Machine.snapshot x y h s) := by
  intro p
  exact (resetShifts_frame ((s.withBook (s.book.write (s.bookRecord x y h))).withTrip
    { s.trip with tripCount := 0, pointCount := 0 })).2.rights p

/-- A crew takes duty at a port that holds DUTY. -/
theorem held {p : Port} {crew : Nat} (r : Option Relief) (right : (s.port p).rights.duty = true) (low : 1 ≤ crew)
    (high : crew ≤ 15) : BlocksKept s (s.withDuty { s.duty.held crew p with relieved := r }) :=
  of_duty (.withDuty s _) fun k => k.onDuty rfl rfl rfl rfl rfl fun _ => ⟨low, high, p, rfl, right⟩

theorem takeDuty (p : Port) (crew : Nat) (s : State) (right : (s.port p).rights.duty = true) (low : 1 ≤ crew)
    (high : crew ≤ 15) : BlocksKept s (takeDuty p crew s) := by
  have reported : NoticeFrame s (produceHandover false .taken 0 crew none 0 0 s) := produceHandover_frame ..
  unfold Machine.takeDuty
  refine (of_notice reported).trans ((snapshot 0 crew .clear _).trans ((held _ ?_ low high).trans
    (of_tally (handDutyHeld_frame _))))
  rw [(snapshot_rights _ _ _ _ p).1, (reported.2.rights p).1, right]

theorem acceptHandover (p : Port) (crew : Nat) (s : State) (right : (s.port p).rights.duty = true) (low : 1 ≤ crew)
    (high : crew ≤ 15) : BlocksKept s (acceptHandover p crew s) := by
  have reported : NoticeFrame s
      (produceHandover false .accepted s.duty.crew crew s.duty.handover.slot s.duty.handover.reoffers 0 s) :=
    produceHandover_frame ..
  unfold Machine.acceptHandover
  refine (of_notice reported).trans ((snapshot _ crew s.duty.handover _).trans ((held _ ?_ low high).trans
    (of_duty (applyRota_frame ..) fun k => k.applyRota false)))
  rw [(snapshot_rights _ _ _ _ p).1, (reported.2.rights p).1, right]

/-! ### All operations -/

theorem withDuty_of (d : DutyUnit) (duty : DutyCoherent s → DutyCoherent (s.withDuty d)) : BlocksKept s (s.withDuty d) :=
  of_duty (.withDuty s d) duty

theorem tally_withEntry (i : Fin 12) (x : Tally) (s : State) : BlocksKept s (s.withEntry i x) := of_tally (.withEntry ..)

theorem endPulseGap (p : Port) (s : State) : BlocksKept s (endPulseGap p s) := by
  unfold Machine.endPulseGap PortUnit.endGap
  split
  · split <;> exact withPort rfl rfl
  · exact withPort rfl rfl

/-- A staged set is in range, so its instant is (R14, R15). -/
theorem stagedSet (x : StagedSet) (s : State) (staged : s.time.staged = some x) :
    BlocksKept s (Machine.rewriteTime x.date x.ms (discardStaged s)) := by
  refine trans (withTime (s := s) _ fun k => ?_) (moveDebounces ..)
  have range := k.2.2.2.2.2 x staged
  exact k.discardStaged.replaceTime range.1 range.2.1

theorem operations : OperationRules BlocksKept where
  refl := refl
  trans := trans
  answer _ _ _ h := withPort (h ▸ rfl) (h ▸ rfl)
  notice _ _ _ _ _ _ := of_notice (setNotice_frame ..)
  clear _ _ _ _ := withPort rfl rfl
  enables _ _ _ _ _ := withPort rfl rfl
  alarm _ _ _ := withPort rfl rfl
  gap := endPulseGap
  rights _ _ m s _ other holder := storeRights m s other holder
  freeIndex _ _ := ⟨rfl, id, id, id, id, id⟩
  record _ _ _ _ := of_notice (produceAt_frame ..)
  mode _ s := withQueue s _
  deliver _ _ s _ := (withQueue s _).trans (of_notice (syncEvents_frame ..))
  join := joinSubscription
  unsubscribe p s _ := unsubscribe p s
  configure _ _ _ _ := of_tally (configureTally_frame ..)
  due i _ s _ := (tally_withEntry i _ s).trans (of_tally (evaluateDue_frame ..))
  stagePreset i _ s _ _ _ := tally_withEntry i _ s
  preset _ _ _ _ _ _ := of_tally (applyPreset_frame ..)
  complete _ _ := of_tally (completeIfQualified_frame ..)
  count _ := of_tally (tallyBoundary_frame _)
  quiet _ _ := withTrip_counts rfl rfl rfl rfl rfl rfl rfl
  closeBurst := closeBurst
  resetFirstOut crew s _ _ _ := resetFirstOut crew s
  acknowledge l _ := of_point (.withTrip ..) (fun k => k.acknowledge l) fun k => k.acknowledge l
  write n e s _ free := writeEntry n e s free
  sample := sampleLine
  debounce := expireDebounce
  window := expireWindow
  stability := expireStability
  keepRota _ _ accepted := withDuty_of _ fun k => k.keepRota accepted.fits
  applyRota o _ := of_duty (applyRota_frame ..) fun k => k.applyRota o
  take p crew s _ _ right low high := takeDuty p crew s right low high
  accept p crew s _ _ right low high := acceptHandover p crew s right low high
  openHandover d _ on := withDuty_of _ fun k => k.openHandover on d
  release d _ held := withDuty_of _ fun k => k.release held d
  reclaim _ held := withDuty_of _ fun k => k.reclaim held
  handoverSettings _ _ limit standing := withDuty_of _ fun k => k.settings limit standing
  served i _ := withDuty_of _ fun k => k.serve i
  releaseDeadline o _ := of_duty (expireRelease_frame ..) fun k => k.expireRelease o
  acceptDeadline o _ := of_duty (expireAccept_frame ..) fun k => k.expireAccept o
  slots o _ := of_duty (checkSlots_frame ..) fun k => k.checkSlots o
  quality := moveQuality
  unstage _ := withTime _ fun k => k.discardStaged
  stage _ _ p _ date ms := withTime _ fun k => k.stage p date ms
  rewrite _ _ s date ms := rewriteTime s fun _ => ⟨date, ms⟩
  stagedSet := stagedSet
  discipline _ _ kept := ⟨rfl, fun k => k.withDiscipline kept, id, id, id, id⟩
  advance := advanceClock
  elapse _ _ := ⟨rfl, id, id, id, id, id⟩
  boundary _ := ⟨rfl, id, id, id, id, id⟩
  supply m s _ := withSupply s m

/-! ### The supply -/

theorem closePort (p : Port) (s : State) : BlocksKept s (closePort p s) := withPort rfl rfl

theorem returnPort (pins : AddressPins) (p : Port) (s : State) : BlocksKept s (returnPort pins p s) := withPort rfl rfl

theorem tallyClosing (s : State) : BlocksKept s (tallyClosing s) := by
  have closed (i : Fin 12) (t : State) : TallyFrame t (closeTally i t) := by
    unfold closeTally
    split
    · exact .withEntry ..
    · exact .refl t
  exact of_tally ((atAllTallies_keeps (fun i _ k => k.trans (closed i _)) (TallyFrame.refl s)).trans (.withTally ..))

theorem tallyRestore (s : State) : BlocksKept s (tallyRestore s) := by
  have restored (t : State) : TallyFrame t (atAllTallies restoreTally t) :=
    atAllTallies_keeps (fun i _ h => h.trans (restoreTally_frame i _)) (.refl t)
  have handed (t : State) : TallyFrame t (Machine.atAllPorts syncTallyDue t) :=
    atAllPorts_keeps (fun p _ h => h.trans (syncTallyDue_frame p _).tally) (.refl t)
  exact of_tally ((TallyFrame.withTally ..).trans ((restored _).trans (handed _)))

theorem closingActions (o : ClosingOrder) (s : State) : BlocksKept s (closingActions o s) := by
  have closed (t : State) : BlocksKept t (closeBurstAndTallies o t) := by
    cases o with
    | tripFirst => exact (closeBurst t).trans (tallyClosing _)
    | tallyFirst => exact (tallyClosing t).trans (closeBurst _)
  exact (atAllPoints cancelDebounce s).trans
    ((closed _).trans ((operations.unstage _).trans (atAllPorts closePort _)))

theorem returnStages (cause : PowerCause) (pins : AddressPins) (s : State) : BlocksKept s (returnStages cause pins s) := by
  have blocks (t : State) : BlocksKept t (dutyCheck true (pointRestore (Machine.tallyRestore t))) :=
    (tallyRestore t).trans ((atAllPoints restorePoint _).trans (operations.dutyCheck ..))
  unfold Machine.returnStages
  exact (withSupply ..).trans
    ((atAllPorts (returnPort pins) _).trans ((of_notice (produce_frame ..)).trans (blocks _)))

theorem mainLoss (o : ClosingOrder) (low : Bool) (s : State) : BlocksKept s (mainLoss o low s) := by
  unfold Machine.mainLoss
  split
  · exact (withSupply s _).trans ((closingActions o _).trans (withSupply _ _))
  · exact refl s

/-- The cold values meet the invariants, whatever stood before (R184). -/
theorem coldValues (lines : BitVec 32) (pins : AddressPins) (high : Bool) (k : Nat) (s : State) :
    BlocksKept s (State.cold lines pins high k s.pending) where
  pending := rfl
  clock _ := by simp [ClockInRange, State.cold, TimeBase.cold, Discipline.cold, dayMs, millisecondUnits]
  latch _ := by simp [LatchCoherent, State.cold, TripUnit.cold, Ranking]
  annunciation _ n := by
    have entry : (State.cold lines pins high k s.pending).trip.entry n = .normal := by
      simp [State.cold, TripUnit.cold, TripUnit.entry]
    have point : (State.cold lines pins high k s.pending).point n = .cold := by simp [State.cold, State.point]
    rw [entry, point]
    exact Point.shows_normal fun _ => ⟨rfl, rfl, rfl⟩
  duty _ := by
    simp [DutyCoherent, State.cold, DutyUnit.cold, HandoverFields.clear, RotaFits, State.port, coldPorts, PerPort.get,
      PortUnit.cold]
  book _ := by simp [BookInOrder, State.cold, ShiftBook.cold, BookJoined]

theorem commands : CommandRules BlocksKept where
  toOperationRules := operations
  mainLoss := mainLoss
  restart _ _ o s _ := (closingActions o s).trans (returnStages ..)
  outage pins _ s _ := (withSupply s _).trans (returnStages .outage pins _)
  cold pins high s := (coldValues s.lines pins high s.freeIndex s).trans (returnStages .cold pins _)

/-- A step takes the front command and then keeps the blocks. -/
theorem of_step {s t : State} (h : step s = .next t) : ∃ l, BlocksKept { s with pending := l } t := by
  unfold step at h
  split at h
  · cases h
    exact ⟨s.pending, refl s⟩
  · exact ⟨_, commands.exec _ h⟩

end BlocksKept

/-- No command stops the part. -/
theorem exec_completes (c : Instr) (s : State) : ∃ t, exec c s = .next t := by
  cases c with
  | unknown p code rest =>
    unfold exec execUnknown
    dsimp only
    split <;> exact ⟨_, rfl⟩
  | _ => exact ⟨_, rfl⟩

/-- Settles O2: every command completes, and no operation touches the commands that wait. -/
theorem everyCommandCompletesAndLeavesTheQueue : Obligations.EveryCommandCompletesAndLeavesTheQueue := by
  intro c s
  obtain ⟨t, h⟩ := exec_completes c s
  exact ⟨t, h, (BlocksKept.commands.exec c h).pending⟩

/-- Settles O5: the clock across every operation. -/
theorem stepKeepsTheClockInRange : Obligations.StepKeepsTheClockInRange := by
  intro s t clock h
  obtain ⟨_, kept⟩ := BlocksKept.of_step h
  exact kept.clock clock

/-- Settles O7: the latch across every operation. -/
theorem stepKeepsTheLatchCoherent : Obligations.StepKeepsTheLatchCoherent := by
  intro s t latch h
  obtain ⟨_, kept⟩ := BlocksKept.of_step h
  exact kept.latch latch

/-- Settles O8: the annunciation table across every operation. -/
theorem stepKeepsAnnunciationOnTripPoints : Obligations.StepKeepsAnnunciationOnTripPoints := by
  intro s t annunciation h
  obtain ⟨_, kept⟩ := BlocksKept.of_step h
  exact kept.annunciation annunciation

/-- Settles O9: the duty record and the shift book across every operation. -/
theorem stepKeepsTheDutyRecordAndTheShiftBook : Obligations.StepKeepsTheDutyRecordAndTheShiftBook := by
  refine ⟨fun s t duty h => ?_, fun s t book h => ?_⟩
  · obtain ⟨_, kept⟩ := BlocksKept.of_step h
    exact kept.duty duty
  · obtain ⟨_, kept⟩ := BlocksKept.of_step h
    exact kept.book book

end Sys2Proof.Machine
end

section
/-!
SUPPORT. What a port has yet to read of the event queue: its records with their lead gaps (`EventQueue.reads`). One equation for each
operation of the queue.
-/

namespace Sys2Proof.Machine

/-! ### One held record -/

/-- What a port reads of a held record: the record with the port's lead gap. -/
def Held.read (p : Port) (h : Held) : Option (Record × Nat) := (h.readers.get p).map fun g => (h.record, g)

/-- What a port has yet to read, in queue order. -/
def EventQueue.reads (q : EventQueue) (p : Port) : List (Record × Nat) := q.held.filterMap (Held.read p)

theorem Held.read_of_readBy {p : Port} {h : Held} (k : h.readBy p = true) : h.read p = some (h.record, h.leadGap p) := by
  obtain ⟨g, hg⟩ := Option.isSome_iff_exists.1 k
  simp [Held.read, Held.leadGap, hg]

theorem Held.readers_of_not_readBy {p : Port} {h : Held} (k : h.readBy p = false) : h.readers.get p = none := by
  simpa [Held.readBy] using k

theorem Held.read_of_not_readBy {p : Port} {h : Held} (k : h.readBy p = false) : h.read p = none := by
  simp [Held.read, Held.readers_of_not_readBy k]

theorem filterMap_read (p : Port) (l : List Held) :
    l.filterMap (Held.read p) = (l.filter (·.readBy p)).map fun h => (h.record, h.leadGap p) := by
  induction l with
  | nil => rfl
  | cons h l ih =>
    cases k : h.readBy p with
    | true => simp [k, ih, Held.read_of_readBy k]
    | false => simp [k, ih, Held.read_of_not_readBy k]

theorem EventQueue.reads_eq (q : EventQueue) (p : Port) :
    q.reads p = (q.stream p).map fun h => (h.record, h.leadGap p) :=
  filterMap_read p q.held

theorem EventQueue.stream_eq_nil_iff {q : EventQueue} {p : Port} : q.stream p = [] ↔ q.reads p = [] := by
  simp [q.reads_eq]

@[simp] theorem Held.readBy_without_self (h : Held) (p : Port) : (h.without p).readBy p = false := by
  simp [Held.readBy, Held.without]

theorem Held.readBy_without_other (h : Held) {p q : Port} (k : q ≠ p) : (h.without p).readBy q = h.readBy q := by
  simp [Held.readBy, Held.without, PerPort.get_set_other _ _ k]

@[simp] theorem Held.read_without_self (h : Held) (p : Port) : (h.without p).read p = none := by
  simp [Held.read, Held.without]

theorem Held.read_without_other (h : Held) {p q : Port} (k : q ≠ p) : (h.without p).read q = h.read q := by
  simp [Held.read, Held.without, PerPort.get_set_other _ _ k]

theorem Held.wanted_iff (h : Held) : h.wanted = true ↔ ∃ p, h.readBy p = true := by
  unfold Held.wanted
  constructor
  · intro k
    rcases Bool.or_eq_true_iff.1 k with k | k
    · rcases Bool.or_eq_true_iff.1 k with k | k
      · exact ⟨_, k⟩
      · exact ⟨_, k⟩
    · exact ⟨_, k⟩
  · rintro ⟨_ | _ | _, k⟩ <;> simp [k]

/-- A record that no port wants is read by none. -/
theorem Held.read_of_not_wanted {h : Held} (k : h.wanted = false) (p : Port) : h.read p = none := by
  refine Held.read_of_not_readBy ?_
  by_contra r
  rw [(Held.wanted_iff h).2 ⟨p, by simpa using r⟩] at k
  cases k

/-! ### A loss counted in the next record -/

/-- The port's first record takes a loss into its lead gap. -/
def addFirst (loss : Nat) : List (Record × Nat) → List (Record × Nat)
  | [] => []
  | (r, g) :: l => (r, addGap g loss) :: l

/-- A held record with other lead gaps: the record and the reader set are the same. -/
def Held.Regapped (a b : Held) : Prop := b.record = a.record ∧ ∀ p, b.readBy p = a.readBy p

theorem Held.Regapped.refl (a : Held) : a.Regapped a := ⟨rfl, fun _ => rfl⟩

theorem Held.Regapped.trans {a b c : Held} (h : a.Regapped b) (k : b.Regapped c) : a.Regapped c :=
  ⟨k.1.trans h.1, fun p => (k.2 p).trans (h.2 p)⟩

theorem Held.regapped_set {h : Held} {p : Port} {g : Nat} (k : h.readers.get p = some g) (g' : Nat) :
    h.Regapped { h with readers := h.readers.set p (some g') } := by
  refine ⟨rfl, fun q => ?_⟩
  by_cases e : q = p
  · subst e
    simp [Held.readBy, k]
  · simp [Held.readBy, PerPort.get_set_other _ _ e]

/-- R91: the loss goes to the first record that the port reads, if there is one; no other port sees it. -/
theorem addLeadGap_spec (p : Port) (loss : Nat) (l : List Held) :
    match addLeadGap p loss l with
    | none => l.filterMap (Held.read p) = []
    | some m => l.filterMap (Held.read p) ≠ [] ∧ m.filterMap (Held.read p) = addFirst loss (l.filterMap (Held.read p)) ∧
        (∀ q, q ≠ p → m.filterMap (Held.read q) = l.filterMap (Held.read q)) ∧ List.Forall₂ Held.Regapped l m := by
  have same (l : List Held) : List.Forall₂ Held.Regapped l l :=
    List.forall₂_same.2 fun h _ => .refl h
  induction l with
  | nil => rfl
  | cons h t ih =>
    unfold addLeadGap
    cases k : h.readers.get p with
    | some g =>
      have read : h.read p = some (h.record, g) := by simp [Held.read, k]
      have bumped : Held.read p { h with readers := h.readers.set p (some (addGap g loss)) } =
          some (h.record, addGap g loss) := by simp [Held.read]
      refine ⟨by simp [read], by simp [read, bumped, addFirst], fun q e => ?_, .cons (Held.regapped_set k _) (same t)⟩
      have other : Held.read q { h with readers := h.readers.set p (some (addGap g loss)) } = h.read q := by
        simp [Held.read, PerPort.get_set_other _ _ e]
      simp [List.filterMap_cons, other]
    | none =>
      have read : h.read p = none := by simp [Held.read, k]
      cases r : addLeadGap p loss t with
      | none =>
        rw [r] at ih
        simpa [read] using ih
      | some m =>
        rw [r] at ih
        obtain ⟨some_, first, others, gaps⟩ := ih
        refine ⟨by simpa [read] using some_, by simpa [read] using first, fun q e => ?_, .cons (.refl h) gaps⟩
        simp [List.filterMap_cons, others q e]

namespace EventQueue

variable (q : EventQueue)

/-- R91: what a loss at a port leaves. -/
theorem addLoss_reads_self (p : Port) (loss : Nat) : (q.addLoss p loss).reads p = addFirst loss (q.reads p) := by
  have spec := addLeadGap_spec p loss q.held
  unfold addLoss reads
  cases r : addLeadGap p loss q.held with
  | none =>
    rw [r] at spec
    simp [spec, addFirst]
  | some m =>
    rw [r] at spec
    exact spec.2.1

theorem addLoss_reads_other {p r : Port} (loss : Nat) (h : r ≠ p) : (q.addLoss p loss).reads r = q.reads r := by
  have spec := addLeadGap_spec p loss q.held
  unfold addLoss reads
  cases k : addLeadGap p loss q.held with
  | none => rfl
  | some m =>
    rw [k] at spec
    exact spec.2.2.1 r h

theorem addLoss_tailGap_self (p : Port) (loss : Nat) :
    (q.addLoss p loss).tailGap.get p =
      if q.reads p = [] then addGap (q.tailGap.get p) loss else q.tailGap.get p := by
  have spec := addLeadGap_spec p loss q.held
  unfold addLoss reads
  cases k : addLeadGap p loss q.held with
  | none =>
    rw [k] at spec
    simp [spec]
  | some m =>
    rw [k] at spec
    simp [spec.1]

theorem addLoss_tailGap_other {p r : Port} (loss : Nat) (h : r ≠ p) :
    (q.addLoss p loss).tailGap.get r = q.tailGap.get r := by
  unfold addLoss
  split
  · rfl
  · exact PerPort.get_set_other _ _ h

theorem addLoss_regapped (p : Port) (loss : Nat) : List.Forall₂ Held.Regapped q.held (q.addLoss p loss).held := by
  have spec := addLeadGap_spec p loss q.held
  unfold addLoss
  cases k : addLeadGap p loss q.held with
  | none => exact List.forall₂_same.2 fun h _ => .refl h
  | some m =>
    rw [k] at spec
    exact spec.2.2.2

@[simp] theorem addLoss_subscribed (p : Port) (loss : Nat) : (q.addLoss p loss).subscribed = q.subscribed := by
  unfold addLoss
  split <;> rfl

theorem addLoss_withSeq (p : Port) (loss n : Nat) :
    ({ q with seq := n } : EventQueue).addLoss p loss = { q.addLoss p loss with seq := n } := by
  unfold addLoss
  cases addLeadGap p loss q.held <;> rfl

@[simp] theorem addLoss_seq (p : Port) (loss : Nat) : (q.addLoss p loss).seq = q.seq := by
  unfold addLoss
  split <;> rfl

/-! ### The oldest record removed -/

/-- The loss of a removed record at a port that had yet to read it (R91). -/
def lose (h : Held) (p : Port) (q : EventQueue) : EventQueue :=
  match h.readers.get p with
  | none => q
  | some g => q.addLoss p (g + 1)

variable {q}

theorem withoutOldest_of_nil (k : q.held = []) : q.withoutOldest = q := by
  unfold withoutOldest
  rw [k]

theorem withoutOldest_of_held {h : Held} {t : List Held} (k : q.held = h :: t) :
    q.withoutOldest = lose h .c (lose h .b (lose h .a { q with held := t })) := by
  unfold withoutOldest
  rw [k]
  rfl

variable (h : Held) (q)

theorem lose_other {p r : Port} (e : r ≠ p) :
    (lose h p q).reads r = q.reads r ∧ (lose h p q).tailGap.get r = q.tailGap.get r := by
  unfold lose
  split
  · exact ⟨rfl, rfl⟩
  · exact ⟨addLoss_reads_other _ _ e, addLoss_tailGap_other _ _ e⟩

theorem lose_regapped (p : Port) : List.Forall₂ Held.Regapped q.held (lose h p q).held := by
  unfold lose
  split
  · exact List.forall₂_same.2 fun h _ => .refl h
  · exact addLoss_regapped ..

@[simp] theorem lose_subscribed (p : Port) : (lose h p q).subscribed = q.subscribed := by
  unfold lose
  split
  · rfl
  · exact addLoss_subscribed ..

@[simp] theorem lose_seq (p : Port) : (lose h p q).seq = q.seq := by
  unfold lose
  split
  · rfl
  · exact addLoss_seq ..

theorem lose_withSeq (p : Port) (n : Nat) : lose h p { q with seq := n } = { lose h p q with seq := n } := by
  unfold lose
  split
  · rfl
  · exact addLoss_withSeq ..

/-- Three losses, one at each port: a port sees its own alone. -/
theorem lose_each (p : Port) :
    (lose h .c (lose h .b (lose h .a q))).reads p = (lose h p q).reads p ∧
      (lose h .c (lose h .b (lose h .a q))).tailGap.get p = (lose h p q).tailGap.get p := by
  have own (u v : EventQueue) (r : u.reads p = v.reads p) (g : u.tailGap.get p = v.tailGap.get p) :
      (lose h p u).reads p = (lose h p v).reads p ∧ (lose h p u).tailGap.get p = (lose h p v).tailGap.get p := by
    unfold lose
    split
    · exact ⟨r, g⟩
    · simp only [addLoss_reads_self, addLoss_tailGap_self, r, g, and_self]
  cases p with
  | a =>
    have b := lose_other (lose h .a q) h (p := .b) (r := .a) (by decide)
    have c := lose_other (lose h .b (lose h .a q)) h (p := .c) (r := .a) (by decide)
    exact ⟨c.1.trans b.1, c.2.trans b.2⟩
  | b =>
    have a := lose_other q h (p := .a) (r := .b) (by decide)
    have c := lose_other (lose h .b (lose h .a q)) h (p := .c) (r := .b) (by decide)
    have b := own (lose h .a q) q a.1 a.2
    exact ⟨c.1.trans b.1, c.2.trans b.2⟩
  | c =>
    have a := lose_other q h (p := .a) (r := .c) (by decide)
    have b := lose_other (lose h .a q) h (p := .b) (r := .c) (by decide)
    exact own (lose h .b (lose h .a q)) q (b.1.trans a.1) (b.2.trans a.2)

variable {q h}

/-- A port that does not read the removed record loses nothing. -/
theorem withoutOldest_unread {t : List Held} (k : q.held = h :: t) {p : Port} (n : h.readBy p = false) :
    q.withoutOldest.reads p = q.reads p ∧ q.withoutOldest.tailGap.get p = q.tailGap.get p := by
  have same : ({ q with held := t } : EventQueue).reads p = q.reads p := by
    simp [reads, k, Held.read_of_not_readBy n]
  have lost : lose h p { q with held := t } = { q with held := t } := by simp [lose, Held.readers_of_not_readBy n]
  have each := lose_each { q with held := t } h p
  rw [lost, same] at each
  rw [withoutOldest_of_held k]
  exact each

/-- A port that has yet to read the removed record counts it in its next record, or in its tail gap. -/
theorem withoutOldest_read {t : List Held} (k : q.held = h :: t) {p : Port} (n : h.readBy p = true) :
    q.reads p = (h.record, h.leadGap p) :: t.filterMap (Held.read p) ∧
      q.withoutOldest.reads p = addFirst (h.leadGap p + 1) (t.filterMap (Held.read p)) ∧
      q.withoutOldest.tailGap.get p =
        if t.filterMap (Held.read p) = [] then addGap (q.tailGap.get p) (h.leadGap p + 1) else q.tailGap.get p := by
  obtain ⟨g, hg⟩ := Option.isSome_iff_exists.1 n
  have gap : h.leadGap p = g := by simp [Held.leadGap, hg]
  have lost : lose h p { q with held := t } = ({ q with held := t } : EventQueue).addLoss p (g + 1) := by simp [lose, hg]
  have each := lose_each { q with held := t } h p
  rw [lost, addLoss_reads_self, addLoss_tailGap_self] at each
  refine ⟨by simp [reads, k, Held.read_of_readBy n], ?_⟩
  rw [withoutOldest_of_held k, gap]
  exact each

theorem withoutOldest_regapped {t : List Held} (k : q.held = h :: t) :
    List.Forall₂ Held.Regapped t q.withoutOldest.held := by
  have trans {a b c : List Held} (f : List.Forall₂ Held.Regapped a b) (g : List.Forall₂ Held.Regapped b c) :
      List.Forall₂ Held.Regapped a c := by
    induction f generalizing c with
    | nil => exact g
    | cons x _ ih =>
      obtain ⟨y, ys⟩ | ⟨y, ys⟩ := g
      exact .cons (x.trans y) (ih ys)
  rw [withoutOldest_of_held k]
  exact trans (trans (lose_regapped { q with held := t } h .a) (lose_regapped ..)) (lose_regapped ..)

variable (q)

@[simp] theorem withoutOldest_subscribed : q.withoutOldest.subscribed = q.subscribed := by
  cases k : q.held with
  | nil => rw [withoutOldest_of_nil k]
  | cons h t => rw [withoutOldest_of_held k]; simp

@[simp] theorem withoutOldest_seq : q.withoutOldest.seq = q.seq := by
  cases k : q.held with
  | nil => rw [withoutOldest_of_nil k]
  | cons h t => rw [withoutOldest_of_held k]; simp

theorem withoutOldest_withSeq (n : Nat) :
    ({ q with seq := n } : EventQueue).withoutOldest = { q.withoutOldest with seq := n } := by
  obtain k | ⟨h, t, k⟩ : q.held = [] ∨ ∃ h t, q.held = h :: t := by cases q.held <;> simp
  · rw [withoutOldest_of_nil k]
    exact withoutOldest_of_nil (q := { q with seq := n }) k
  · rw [withoutOldest_of_held k]
    refine (withoutOldest_of_held (q := { q with seq := n }) k).trans ?_
    have first := lose_withSeq { q with held := t } h .a n
    have second := lose_withSeq (lose h .a { q with held := t }) h .b n
    have third := lose_withSeq (lose h .b (lose h .a { q with held := t })) h .c n
    exact (congrArg (fun u => lose h .c (lose h .b u)) first).trans ((congrArg (lose h .c) second).trans third)

/-! ### A record placed -/

/-- The queue with a record at its end (R88). -/
def enter (r : Record) : EventQueue := { q with held := q.held ++ [⟨r, q.newReaders⟩], tailGap := q.clearedTails }

/-- The queue with a record discarded at its subscribed ports (R90). -/
def discard : EventQueue :=
  let count := fun (p : Port) => if q.subscribed.get p then addGap (q.tailGap.get p) 1 else q.tailGap.get p
  { q with tailGap := ⟨count .a, count .b, count .c⟩ }

/-- R87, R88, R90, R91: what becomes of a record. -/
theorem place_eq (r : Record) :
    q.place r =
      if q.anySubscribed = false then q
      else if q.held.length < queueRoom then q.enter r
      else match q.mode with
        | .keepOldest => q.discard
        | .keepNewest => q.withoutOldest.enter r := by
  unfold place
  cases q.anySubscribed <;> rfl

theorem get_newReaders (p : Port) : q.newReaders.get p = if q.subscribed.get p then some (q.tailGap.get p) else none := by
  cases p <;> rfl

theorem get_clearedTails (p : Port) : q.clearedTails.get p = if q.subscribed.get p then 0 else q.tailGap.get p := by
  cases p <;> rfl

theorem discard_tailGap (p : Port) :
    q.discard.tailGap.get p = if q.subscribed.get p then addGap (q.tailGap.get p) 1 else q.tailGap.get p := by
  cases p <;> rfl

theorem enter_tailGap (r : Record) (p : Port) :
    (q.enter r).tailGap.get p = if q.subscribed.get p then 0 else q.tailGap.get p :=
  get_clearedTails q p

theorem enter_reads (r : Record) (p : Port) :
    (q.enter r).reads p = q.reads p ++ if q.subscribed.get p then [(r, q.tailGap.get p)] else [] := by
  unfold reads enter
  rw [List.filterMap_append]
  congr 1
  cases k : q.subscribed.get p <;> simp [Held.read, get_newReaders, k]

theorem anySubscribed_iff : q.anySubscribed = true ↔ ∃ p, q.subscribed.get p = true := by
  unfold anySubscribed
  constructor
  · intro k
    rcases Bool.or_eq_true_iff.1 k with k | k
    · rcases Bool.or_eq_true_iff.1 k with k | k
      · exact ⟨.a, k⟩
      · exact ⟨.b, k⟩
    · exact ⟨.c, k⟩
  · rintro ⟨_ | _ | _, k⟩ <;> simp_all [PerPort.get]

end EventQueue

end Sys2Proof.Machine
end

section
/-!
SUPPORT. The order of the event queue as one chain for each port: the sequence numbers and lead gaps of its records, and after them
the counter with its tail gap (`EventQueue.marks`). Each operation of the queue keeps the chain.
-/

namespace Sys2Proof.Machine

/-! ### The chain of a port -/

/-- The sequence numbers and gaps of a port: those of its records, and the counter with its tail gap at the end. -/
def EventQueue.marks (q : EventQueue) (p : Port) : List (Nat × Nat) :=
  (q.reads p).map (fun x => (x.1.seq, x.2)) ++ [(q.seq, q.tailGap.get p)]

/-- A number follows another at its gap, unless the gap is saturated (R96). -/
def MarkFollows (a b : Nat × Nat) : Prop := b.2 < 65535 → b.1 = (a.1 + 1 + b.2) % 65536

/-- The invariant of the queue. -/
structure EventQueue.InOrder (q : EventQueue) : Prop where
  room : q.held.length ≤ queueRoom
  counter : q.seq < 65536
  wanted : ∀ h ∈ q.held, h.wanted = true
  numbered : ∀ h ∈ q.held, h.record.seq < 65536
  subscribed : ∀ h ∈ q.held, ∀ p, h.readBy p = true → q.subscribed.get p = true
  chain : ∀ p, (q.marks p).IsChain MarkFollows

theorem sequenced_iff (p : Port) (l : List Held) : Sequenced p l ↔ l.IsChain (Held.follows p) := by
  induction l with
  | nil => exact ⟨fun _ => .nil, fun _ => trivial⟩
  | cons a l ih =>
    cases l with
    | nil => exact ⟨fun _ => .singleton a, fun _ => trivial⟩
    | cons b l => exact (and_congr_right fun _ => ih).trans List.isChain_cons_cons.symm

theorem EventQueue.marks_eq (q : EventQueue) (p : Port) :
    q.marks p = ((q.stream p).map fun h => (h.record.seq, h.leadGap p)) ++ [(q.seq, q.tailGap.get p)] := by
  simp [EventQueue.marks, EventQueue.reads_eq, Function.comp_def]

theorem queueInOrder_iff (s : State) : QueueInOrder s ↔ s.queue.InOrder := by
  have port (p : Port) : (Sequenced p (s.queue.stream p) ∧
      ∀ last, (s.queue.stream p).getLast? = some last → s.queue.tailGap.get p < 65535 →
        s.queue.seq = (last.record.seq + 1 + s.queue.tailGap.get p) % 65536) ↔
      (s.queue.marks p).IsChain MarkFollows := by
    rw [EventQueue.marks_eq, sequenced_iff, List.isChain_append, List.isChain_map]
    refine and_congr Iff.rfl ⟨fun h => ⟨.singleton _, ?_⟩, fun h last k => ?_⟩
    · intro x hx y hy
      obtain ⟨last, k, rfl⟩ : ∃ last, (s.queue.stream p).getLast? = some last ∧ (last.record.seq, last.leadGap p) = x := by
        simpa using hx
      obtain rfl : (s.queue.seq, s.queue.tailGap.get p) = y := by simpa using hy
      exact h last k
    · exact h.2 (last.record.seq, last.leadGap p) (by simp [k]) (s.queue.seq, s.queue.tailGap.get p) (by simp)
  constructor
  · rintro ⟨room, counter, held, chain⟩
    exact ⟨room, counter, fun h k => (held h k).1, fun h k => (held h k).2.1, fun h k => (held h k).2.2,
      fun p => (port p).1 (chain p)⟩
  · rintro ⟨room, counter, wanted, numbered, subscribed, chain⟩
    exact ⟨room, counter, fun h k => ⟨wanted h k, numbered h k, subscribed h k⟩, fun p => (port p).2 (chain p)⟩

namespace EventQueue.InOrder

variable {q : EventQueue} (order : q.InOrder)
include order

/-- A port outside the subscription set has nothing to read. -/
theorem reads_unsubscribed {p : Port} (h : q.subscribed.get p = false) : q.reads p = [] := by
  refine List.filterMap_eq_nil_iff.2 fun x hx => Held.read_of_not_readBy ?_
  by_contra k
  rw [order.subscribed x hx p (by simpa using k)] at h
  cases h

omit order in
/-- A port with nothing to read is in order. -/
theorem chain_of_reads_nil {p : Port} (h : q.reads p = []) : (q.marks p).IsChain MarkFollows := by
  simp [marks, h]

/-! ### A record is produced -/

/-- The queue after its counter has given a number to a record that is not stored. -/
theorem unsubscribed_count (h : q.anySubscribed = false) : ({ q with seq := (q.seq + 1) % 65536 } : EventQueue).InOrder where
  room := order.room
  counter := Nat.mod_lt _ (by decide)
  wanted := order.wanted
  numbered := order.numbered
  subscribed := order.subscribed
  chain p := by
    refine chain_of_reads_nil (order.reads_unsubscribed (p := p) ?_)
    by_contra k
    rw [(anySubscribed_iff q).2 ⟨p, by simpa using k⟩] at h
    cases h

/-- R90: the discarded record is one more in the tail gap. -/
theorem discard : ({ q with seq := (q.seq + 1) % 65536 } : EventQueue).discard.InOrder where
  room := order.room
  counter := Nat.mod_lt _ (by decide)
  wanted := order.wanted
  numbered := order.numbered
  subscribed := order.subscribed
  chain p := by
    cases k : q.subscribed.get p with
    | false => exact chain_of_reads_nil (order.reads_unsubscribed (p := p) k)
    | true =>
      have marks : ({ q with seq := (q.seq + 1) % 65536 } : EventQueue).discard.marks p =
          (q.reads p).map (fun x => (x.1.seq, x.2)) ++ [((q.seq + 1) % 65536, addGap (q.tailGap.get p) 1)] := by
        unfold EventQueue.marks
        rw [discard_tailGap, if_pos k]
        rfl
      rw [marks]
      obtain ⟨head, -, link⟩ := List.isChain_append.1 (order.chain p)
      refine List.isChain_append.2 ⟨head, .singleton _, fun x hx y hy => ?_⟩
      obtain rfl : ((q.seq + 1) % 65536, addGap (q.tailGap.get p) 1) = y := by simpa using hy
      have follows := link x hx (q.seq, q.tailGap.get p) (by simp)
      unfold MarkFollows addGap count16Max at *
      dsimp only at *
      omega

/-- R88: the record takes the tail gap as its lead gap, and the counter stands one above it. -/
theorem enter {r : Record} (seq : r.seq = q.seq) (below : q.held.length < queueRoom) (any : q.anySubscribed = true) :
    (({ q with seq := (q.seq + 1) % 65536 } : EventQueue).enter r).InOrder where
  room := by
    show (q.held ++ [_]).length ≤ queueRoom
    simpa using below
  counter := Nat.mod_lt _ (by decide)
  wanted h hh := by
    obtain hh | rfl := List.mem_append.1 hh |>.imp_right List.mem_singleton.1
    · exact order.wanted h hh
    · obtain ⟨p, hp⟩ := (anySubscribed_iff q).1 any
      refine (Held.wanted_iff _).2 ⟨p, ?_⟩
      simp [Held.readBy, get_newReaders, hp]
  numbered h hh := by
    obtain hh | rfl := List.mem_append.1 hh |>.imp_right List.mem_singleton.1
    · exact order.numbered h hh
    · simpa [seq] using order.counter
  subscribed h hh p hp := by
    obtain hh | rfl := List.mem_append.1 hh |>.imp_right List.mem_singleton.1
    · exact order.subscribed h hh p hp
    · by_contra k
      have : q.subscribed.get p = false := by simpa [EventQueue.enter] using k
      simp [Held.readBy, get_newReaders, this] at hp
  chain p := by
    have same : ({ q with seq := (q.seq + 1) % 65536 } : EventQueue).reads p = q.reads p := rfl
    cases k : q.subscribed.get p with
    | false =>
      refine chain_of_reads_nil ?_
      rw [enter_reads, same, order.reads_unsubscribed k]
      simp [k]
    | true =>
      unfold marks
      rw [enter_reads, enter_tailGap, same, if_pos k, if_pos k, List.map_append, List.append_assoc]
      have shape : ([(r, q.tailGap.get p)] : List (Record × Nat)).map (fun x => (x.1.seq, x.2)) ++
          [((q.seq + 1) % 65536, 0)] = [(q.seq, q.tailGap.get p), ((q.seq + 1) % 65536, 0)] := by
        simp [seq]
      refine shape ▸ List.isChain_append_cons_cons.2 ⟨order.chain p, fun _ => ?_, .singleton _⟩
      simp

/-- R91: only the gap of a port's first mark changes, and nothing comes before it. -/
theorem withoutOldest {h : Held} {t : List Held} (k : q.held = h :: t) :
    q.withoutOldest.InOrder ∧ q.withoutOldest.held.length < queueRoom := by
  have regapped := withoutOldest_regapped k
  have back (x : Held) (hx : x ∈ q.withoutOldest.held) : ∃ y ∈ q.held, y.Regapped x := by
    obtain ⟨length, get⟩ := List.forall₂_iff_get.1 regapped
    obtain ⟨n, hn, rfl⟩ := List.getElem_of_mem hx
    exact ⟨t[n]'(length ▸ hn), k ▸ List.mem_cons_of_mem h (List.getElem_mem _), get n (length ▸ hn) hn⟩
  have shorter : q.withoutOldest.held.length < queueRoom := by
    have room := order.room
    rw [k] at room
    rw [← regapped.length_eq]
    exact room
  refine ⟨⟨shorter.le, ?_, fun x hx => ?_, fun x hx => ?_, fun x hx p hp => ?_, fun p => ?_⟩, shorter⟩
  · simpa using order.counter
  · obtain ⟨y, hy, -, readers⟩ := back x hx
    obtain ⟨p, hp⟩ := (Held.wanted_iff y).1 (order.wanted y hy)
    exact (Held.wanted_iff x).2 ⟨p, (readers p).trans hp⟩
  · obtain ⟨y, hy, record, -⟩ := back x hx
    exact record ▸ order.numbered y hy
  · obtain ⟨y, hy, -, readers⟩ := back x hx
    simpa using order.subscribed y hy p ((readers p).symm.trans hp)
  · have chain := order.chain p
    cases n : h.readBy p with
    | false =>
      obtain ⟨reads, tail⟩ := withoutOldest_unread k n
      unfold marks at chain ⊢
      rwa [reads, tail, withoutOldest_seq]
    | true =>
      obtain ⟨old, reads, tail⟩ := withoutOldest_read k n
      unfold marks at chain ⊢
      rw [reads, tail, withoutOldest_seq]
      rw [old] at chain
      cases rest : t.filterMap (Held.read p) with
      | nil => exact .singleton _
      | cons x more =>
        rw [rest] at chain
        obtain ⟨next, gap⟩ := x
        rw [if_neg (List.cons_ne_nil _ more)]
        exact List.IsChain.imp_head (x := (next.seq, gap)) (y := (next.seq, addGap gap (h.leadGap p + 1)))
          (fun follows => follows) (List.IsChain.tail chain)

theorem report (i : Instant) (quality : Quality) (burst : Nat) (outage : Bool) (body : RecordBody) :
    (q.report i quality burst outage body).InOrder := by
  unfold EventQueue.report
  rw [place_eq]
  cases any : q.anySubscribed with
  | false =>
    have counted : ({ q with seq := (q.seq + 1) % 65536 } : EventQueue).anySubscribed = false := any
    rw [if_pos counted]
    exact order.unsubscribed_count any
  | true =>
    have counted : ({ q with seq := (q.seq + 1) % 65536 } : EventQueue).anySubscribed = true := any
    rw [if_neg (by simp [counted])]
    split
    · next below => exact order.enter rfl below any
    · next full =>
      split
      · exact order.discard
      · obtain ⟨h, t, k⟩ := List.exists_cons_of_length_pos
          (show 0 < q.held.length from (by decide : 0 < queueRoom).trans_le (Nat.le_of_not_lt full))
        obtain ⟨removed, below⟩ := order.withoutOldest k
        have entered := removed.enter (r := ⟨q.seq, i, quality, burst, outage, false, body⟩) (by simp) below
          (by simpa [anySubscribed] using any)
        rw [withoutOldest_withSeq]
        simpa using entered

theorem reports {r : EventQueue} (h : q.Reports r) : r.InOrder := by
  obtain ⟨l, rfl⟩ := h
  induction l generalizing q with
  | nil => exact order
  | cons x l ih => exact ih (order.report ..)

/-! ### Reading, joining and leaving -/

theorem withMode (m : OverflowMode) : ({ q with mode := m } : EventQueue).InOrder :=
  ⟨order.room, order.counter, order.wanted, order.numbered, order.subscribed, order.chain⟩

/-- R98: a port joins with nothing to read and no gap. -/
theorem join {p : Port} (out : q.subscribed.get p = false) :
    ({ q with tailGap := q.tailGap.set p 0, subscribed := q.subscribed.set p true } : EventQueue).InOrder where
  room := order.room
  counter := order.counter
  wanted := order.wanted
  numbered := order.numbered
  subscribed h hh r hr := by
    by_cases e : r = p
    · subst e
      simp
    · simpa [PerPort.get_set_other _ _ e] using order.subscribed h hh r hr
  chain r := by
    by_cases e : r = p
    · subst e
      exact chain_of_reads_nil (order.reads_unsubscribed (p := r) out)
    · have chain := order.chain r
      unfold marks at chain ⊢
      dsimp only
      rwa [PerPort.get_set_other _ _ e]

end EventQueue.InOrder

/-! ### Delivery -/

/-- R96: the port has read its first `k` records, and no other port sees it. -/
theorem deliver_spec (p : Port) (k : Nat) (l : List Held) :
    (deliver p k l).filterMap (Held.read p) = (l.filterMap (Held.read p)).drop k ∧
      (∀ r, r ≠ p → (deliver p k l).filterMap (Held.read r) = l.filterMap (Held.read r)) ∧
      (deliver p k l).length ≤ l.length ∧
      ∀ h ∈ deliver p k l, (h ∈ l ∨ ∃ x ∈ l, h = x.without p ∧ h.wanted = true) := by
  induction l generalizing k with
  | nil => cases k <;> simp [deliver]
  | cons h t ih =>
    cases k with
    | zero => exact ⟨rfl, fun _ _ => rfl, le_rfl, fun _ hx => .inl hx⟩
    | succ k =>
      unfold deliver
      cases reads : h.readBy p with
      | false =>
        obtain ⟨own, other, length, mem⟩ := ih (k + 1)
        refine ⟨?_, fun r e => ?_, Nat.succ_le_succ length, fun x hx => ?_⟩
        · simpa [Held.read_of_not_readBy reads] using own
        · simp [List.filterMap_cons, other r e]
        · obtain rfl | hx := List.mem_cons.1 hx
          · exact .inl List.mem_cons_self
          · exact (mem x hx).imp (List.mem_cons_of_mem h) fun ⟨y, hy, e⟩ => ⟨y, List.mem_cons_of_mem h hy, e⟩
      | true =>
        obtain ⟨own, other, length, mem⟩ := ih k
        have rest (x : Held) (hx : x ∈ deliver p k t) :
            x ∈ h :: t ∨ ∃ y ∈ h :: t, x = y.without p ∧ x.wanted = true :=
          (mem x hx).imp (List.mem_cons_of_mem h) fun ⟨y, hy, e⟩ => ⟨y, List.mem_cons_of_mem h hy, e⟩
        cases want : (h.without p).wanted with
        | true =>
          refine ⟨?_, fun r e => ?_, Nat.succ_le_succ length, fun x hx => ?_⟩
          · simpa [Held.read_of_readBy reads] using own
          · simp [List.filterMap_cons, other r e, Held.read_without_other _ e]
          · obtain rfl | hx := List.mem_cons.1 hx
            · exact .inr ⟨h, List.mem_cons_self, rfl, want⟩
            · exact rest x hx
        | false =>
          refine ⟨?_, fun r e => ?_, length.trans (Nat.le_succ _), rest⟩
          · simpa [Held.read_of_readBy reads] using own
          · have gone : h.read r = none := (Held.read_without_other h e).symm.trans (Held.read_of_not_wanted want r)
            simp [gone, other r e]

/-- R98: the port has nothing left to read, and no other port sees it. -/
theorem leave_spec (p : Port) (l : List Held) :
    ((l.map (·.without p)).filter (·.wanted)).filterMap (Held.read p) = [] ∧
      ∀ r, r ≠ p → ((l.map (·.without p)).filter (·.wanted)).filterMap (Held.read r) = l.filterMap (Held.read r) := by
  refine ⟨List.filterMap_eq_nil_iff.2 fun x hx => ?_, fun r e => ?_⟩
  · obtain ⟨y, -, rfl⟩ := List.mem_map.1 (List.mem_filter.1 hx).1
    exact y.read_without_self p
  · induction l with
    | nil => rfl
    | cons h t ih =>
      have read := Held.read_without_other h e
      cases want : (h.without p).wanted with
      | true => simp [want, List.filterMap_cons, read, ih]
      | false =>
        rw [Held.read_of_not_wanted want r] at read
        simp [want, ← read, ih]

namespace EventQueue.InOrder

variable {q : EventQueue} (order : q.InOrder)
include order

theorem deliver (p : Port) (k : Nat) : ({ q with held := deliver p k q.held } : EventQueue).InOrder := by
  obtain ⟨own, other, length, mem⟩ := deliver_spec p k q.held
  refine ⟨length.trans order.room, order.counter, fun h hh => ?_, fun h hh => ?_, fun h hh r hr => ?_, fun r => ?_⟩
  · obtain k | ⟨-, -, -, k⟩ := mem h hh
    · exact order.wanted h k
    · exact k
  · obtain k | ⟨x, k, rfl, -⟩ := mem h hh
    · exact order.numbered h k
    · exact order.numbered x k
  · obtain k | ⟨x, k, rfl, -⟩ := mem h hh
    · exact order.subscribed h k r hr
    · by_cases e : r = p
      · subst e
        simp at hr
      · exact order.subscribed x k r (Held.readBy_without_other x e ▸ hr)
  · have chain := order.chain r
    unfold marks reads at chain ⊢
    dsimp only
    by_cases e : r = p
    · subst e
      rw [own, List.map_drop]
      obtain ⟨read, e⟩ := List.drop_suffix k ((q.held.filterMap (Held.read r)).map fun x => (x.1.seq, x.2))
      exact chain.suffix ⟨read, by rw [← List.append_assoc, e]⟩
    · rwa [other r e]

/-- R98, R99: a port leaves with its gap and its records. -/
theorem leave (p : Port) : ({ q with
    held := (q.held.map (·.without p)).filter (·.wanted)
    tailGap := q.tailGap.set p 0
    subscribed := q.subscribed.set p false } : EventQueue).InOrder := by
  have mem (h : Held) (hh : h ∈ (q.held.map (·.without p)).filter (·.wanted)) :
      h.wanted = true ∧ ∃ x ∈ q.held, h = x.without p := by
    obtain ⟨hh, want⟩ := List.mem_filter.1 hh
    obtain ⟨x, hx, rfl⟩ := List.mem_map.1 hh
    exact ⟨want, x, hx, rfl⟩
  refine ⟨?_, order.counter, fun h hh => (mem h hh).1, fun h hh => ?_, fun h hh r hr => ?_, fun r => ?_⟩
  · exact (List.length_filter_le ..).trans (List.length_map (as := q.held) _ ▸ order.room)
  · obtain ⟨-, x, hx, rfl⟩ := mem h hh
    exact order.numbered x hx
  · obtain ⟨-, x, hx, rfl⟩ := mem h hh
    by_cases e : r = p
    · subst e
      simp at hr
    · simpa [PerPort.get_set_other _ _ e] using order.subscribed x hx r (Held.readBy_without_other x e ▸ hr)
  · have chain := order.chain r
    obtain ⟨own, other⟩ := leave_spec p q.held
    unfold marks reads at chain ⊢
    dsimp only
    by_cases e : r = p
    · subst e
      rw [own]
      exact .singleton _
    · rwa [other r e, PerPort.get_set_other _ _ e]

end EventQueue.InOrder

end Sys2Proof.Machine
end

section
/-!
SUPPORT. The operations that only report records to the queue, and the order of the queue across every operation.
-/

namespace Sys2Proof.Machine

/-! ### Operations that only report records -/

theorem producePoint_records (n : Fin 32) (a : Bool) (c : ChangeCause) (i : Instant) (o : Bool) (s : State) :
    RecordFrame s (producePoint n a c i o s) :=
  (RecordFrame.withTrip ..).trans (produceAt_records ..)

theorem latchActivation_records (n : Nat) (i : Instant) (s : State) : RecordFrame s (latchActivation n i s) := by
  unfold latchActivation
  split
  · exact (RecordFrame.withTrip ..).trans ((raiseAtAll_records ..).trans (handInput_records ..))
  · dsimp only
    split <;> split
    · exact (RecordFrame.withTrip ..).trans (raiseAtAll_records ..)
    · exact .withTrip ..
    · exact (RecordFrame.withTrip ..).trans (raiseAtAll_records ..)
    · exact .withTrip ..
  · exact .refl s

theorem takeTripChange_records (n : Fin 32) (a : Bool) (i : Instant) (s : State) :
    RecordFrame s (takeTripChange n a i s) := by
  unfold takeTripChange
  dsimp only
  split
  · exact (RecordFrame.withTrip ..).trans (latchActivation_records ..)
  · exact .withTrip ..

theorem confirmChange_records (n : Fin 32) (a : Bool) (c : ChangeCause) (i : Instant) (o : Bool) (s : State) :
    RecordFrame s (confirmChange n a c i o s) := by
  unfold confirmChange setActive
  dsimp only
  split
  · exact (RecordFrame.withPoint ..).trans (handInput_records ..)
  · exact (RecordFrame.withPoint ..).trans (handInput_records ..)
  · exact (RecordFrame.withPoint ..).trans
      ((producePoint_records ..).trans ((handInput_records ..).trans (handInput_records ..)))
  · exact (RecordFrame.withPoint ..).trans
      ((producePoint_records ..).trans
        ((handInput_records ..).trans ((handInput_records ..).trans (takeTripChange_records ..))))

theorem takeEdge_records (n : Fin 32) (s : State) : RecordFrame s (takeEdge n s) := by
  unfold takeEdge
  dsimp only
  split
  · exact .withPoint ..
  · exact .withPoint ..
  · split
    · exact .refl s
    · exact .withPoint ..

theorem suppressPoint_records (n : Fin 32) (k : Nat) (s : State) : RecordFrame s (suppressPoint n k s) :=
  (produce_records ..).trans (RecordFrame.withPoint ..)

theorem countChange_records (n : Fin 32) (a : Bool) (c : ChangeCause) (i : Instant) (o : Bool) (s : State) :
    RecordFrame s (countChange n a c i o s) := by
  unfold countChange
  dsimp only
  split
  · exact confirmChange_records ..
  · split
    · exact (RecordFrame.withPoint ..).trans (confirmChange_records ..)
    · split
      · exact (RecordFrame.withPoint ..).trans (confirmChange_records ..)
      · exact suppressPoint_records ..
    · exact .refl s

theorem expireDebounce_records (n : Fin 32) (s : State) : RecordFrame s (expireDebounce n s) := by
  unfold expireDebounce
  split
  · exact .refl s
  · split
    · exact (RecordFrame.withPoint ..).trans (countChange_records ..)
    · exact .refl s

theorem expireWindow_records (n : Fin 32) (s : State) : RecordFrame s (expireWindow n s) := by
  unfold expireWindow
  split
  · split
    · exact .withPoint ..
    · exact .refl s
  · exact .refl s

theorem releasePoint_records (n : Fin 32) (k : Nat) (s : State) : RecordFrame s (releasePoint n k s) := by
  have released : RecordFrame s (setChatter n .clear (produce false (.chatter n.val .released k) s)) :=
    (produce_records ..).trans (RecordFrame.withPoint ..)
  unfold releasePoint
  dsimp only
  split
  · exact released
  · exact released.trans (confirmChange_records ..)

theorem expireStability_records (n : Fin 32) (s : State) : RecordFrame s (expireStability n s) := by
  unfold expireStability
  split
  · split
    · exact releasePoint_records ..
    · exact .refl s
  · exact .refl s

theorem sampleLine_records (n : Fin 32) (high : Bool) (s : State) : RecordFrame s (sampleLine n high s) := by
  have sampled (l : BitVec 32) : RecordFrame s { s with lines := l } := .of_queue_eq rfl
  unfold sampleLine
  split
  · exact .refl s
  · dsimp only
    split
    · exact (sampled _).trans (takeEdge_records ..)
    · exact sampled _

theorem invertLine_records (n : Fin 32) (s : State) : RecordFrame s (invertLine n s) := by
  unfold invertLine
  split
  · exact .refl s
  · exact (RecordFrame.withPoint ..).trans (takeEdge_records ..)

theorem stopChatter_records (n : Fin 32) (s : State) : RecordFrame s (stopChatter n s) := by
  unfold stopChatter
  split
  · exact .refl s
  · exact .withPoint ..
  · exact releasePoint_records ..

theorem applySettings_records (n : Fin 32) (e : PointEntry) (s : State) : RecordFrame s (applySettings n e s) := by
  have inverted (c : Prop) [Decidable c] (t : State) : RecordFrame t (if c then t else invertLine n t) := by
    split
    · exact .refl t
    · exact invertLine_records n t
  unfold applySettings
  dsimp only
  split
  · exact (RecordFrame.withPoint ..).trans ((inverted ..).trans (stopChatter_records ..))
  · exact (RecordFrame.withPoint ..).trans (inverted ..)

theorem takeFresh_records (n : Fin 32) (e : PointEntry) (s : State) : RecordFrame s (takeFresh n e s) :=
  (reportRelease_records ..).trans ((RecordFrame.withPoint ..).trans (handInput_records ..))

theorem writeEntry_records (n : Fin 32) (e : PointEntry) (s : State) : RecordFrame s (writeEntry n e s) := by
  unfold writeEntry
  split
  · exact applySettings_records ..
  · exact takeFresh_records ..

theorem configureTally_records (i : Fin 12) (c : TallyConfig) (s : State) : RecordFrame s (configureTally i c s) := by
  have completed (d : Bool) (t : State) : RecordFrame t (if d then completeQualification false i t else t) := by
    cases d
    · exact .refl t
    · exact completeQualification_records ..
  exact (RecordFrame.withEntry ..).trans
    ((completed ..).trans ((evaluateTally_records ..).trans (evaluateDue_records ..)))

theorem moveQuality_records (q : Quality) (s : State) : RecordFrame s (moveQuality q s) := by
  unfold moveQuality
  dsimp only
  split
  · exact .refl s
  · split
    · exact (RecordFrame.withTime ..).trans
        ((produce_records ..).trans ((raiseAtAll_records ..).trans (handInput_records ..)))
    · exact (RecordFrame.withTime ..).trans (handInput_records ..)

theorem moveDebounce_records (amount : Int) (n : Fin 32) (s : State) : RecordFrame s (moveDebounce amount n s) := by
  unfold moveDebounce
  split
  · exact .refl s
  · exact .withPoint ..

theorem rewriteTime_records (date ms : Nat) (s : State) : RecordFrame s (rewriteTime date ms s) :=
  (RecordFrame.withTime ..).trans (atAllPoints_records (moveDebounce_records _) _)

theorem snapshot_records (x y : Nat) (h : HandoverFields) (s : State) : RecordFrame s (snapshot x y h s) := by
  have booked (b : ShiftBook) : RecordFrame s (s.withBook b) := .of_queue_eq rfl
  exact (booked _).trans ((RecordFrame.withTrip ..).trans (atAllTallies_records (fun _ _ => .withEntry ..) _))

theorem takeDuty_records (p : Port) (crew : Nat) (s : State) : RecordFrame s (takeDuty p crew s) :=
  (produceHandover_records ..).trans
    ((snapshot_records ..).trans ((RecordFrame.withDuty ..).trans (handDutyHeld_records _)))

theorem acceptHandover_records (p : Port) (crew : Nat) (s : State) : RecordFrame s (acceptHandover p crew s) :=
  (produceHandover_records ..).trans
    ((snapshot_records ..).trans ((RecordFrame.withDuty ..).trans (applyRota_records ..)))

/-! ### The relation -/

/-- A queue in order stays in order. -/
structure QueueKept (s t : State) : Prop where
  order : s.queue.InOrder → t.queue.InOrder

namespace QueueKept

variable {s t : State}

theorem of_records (h : RecordFrame s t) : QueueKept s t := ⟨fun order => order.reports h.reports⟩

theorem of_queue_eq (h : t.queue = s.queue) : QueueKept s t := .of_records (.of_queue_eq h)

theorem refl (s : State) : QueueKept s s := of_queue_eq rfl

theorem trans {u : State} (h : QueueKept s t) (k : QueueKept t u) : QueueKept s u := ⟨k.order ∘ h.order⟩

theorem unsubscribe (p : Port) (s : State) : QueueKept s (unsubscribe p s) := by
  have left : QueueKept s (s.withQueue
      { s.queue with
        held := (s.queue.held.map (·.without p)).filter (·.wanted)
        tailGap := s.queue.tailGap.set p 0
        subscribed := s.queue.subscribed.set p false }) := ⟨fun order => order.leave p⟩
  unfold Machine.unsubscribe
  split
  · exact left.trans (of_queue_eq (syncEvents_queue ..))
  · exact refl s

theorem joinSubscription (p : Port) (s : State) : QueueKept s (joinSubscription p s) := by
  unfold Machine.joinSubscription
  split
  · exact refl s
  · next out => exact ⟨fun order => order.join (by simpa using out)⟩

theorem storeRights (q : Port) (r : Rights) (m : BitVec 12) (s : State) : QueueKept s (storeRights q r m s) := by
  have leave (c : Bool) (t : State) : QueueKept t (if c then Machine.unsubscribe q t else t) := by
    cases c
    · exact refl t
    · exact unsubscribe q t
  have stored (u : PortUnit) : QueueKept s (s.withPort q u) := of_queue_eq rfl
  unfold Machine.storeRights
  dsimp only
  split
  · exact (stored _).trans (leave ..)
  · exact (stored _).trans ((leave ..).trans (of_records (syncTallyDue_records ..)))

theorem deliver (p : Port) (k : Nat) (s : State) :
    QueueKept s (syncEvents p (s.withQueue { s.queue with held := deliver p k s.queue.held })) := by
  have delivered : QueueKept s (s.withQueue { s.queue with held := Machine.deliver p k s.queue.held }) :=
    ⟨fun order => order.deliver p k⟩
  exact delivered.trans (of_queue_eq (syncEvents_queue ..))

theorem advanceClock (s : State) : QueueKept s (advanceClock s) := of_queue_eq (by rw [advanceClock_frame s])

theorem operations : OperationRules QueueKept where
  refl := refl
  trans := trans
  answer _ _ _ _ := of_queue_eq rfl
  notice _ _ _ _ _ _ := of_records (setNotice_records ..)
  clear _ _ _ _ := of_queue_eq rfl
  enables _ _ _ _ _ := of_queue_eq rfl
  alarm _ _ _ := of_queue_eq rfl
  gap _ _ := of_queue_eq rfl
  rights q r m s _ _ _ := storeRights q r m s
  freeIndex _ _ := of_queue_eq rfl
  record _ _ _ _ := of_records (produceAt_records ..)
  mode m _ := ⟨fun order => order.withMode m⟩
  deliver p k s _ := deliver p k s
  join := joinSubscription
  unsubscribe p s _ := unsubscribe p s
  configure _ _ _ _ := of_records (configureTally_records ..)
  due _ _ _ _ := of_records ((RecordFrame.withEntry ..).trans (evaluateDue_records ..))
  stagePreset _ _ _ _ _ _ := of_queue_eq rfl
  preset _ _ _ _ _ _ := of_records (applyPreset_records ..)
  complete _ _ := of_records (completeIfQualified_records ..)
  count _ := of_records (tallyBoundary_records _)
  quiet _ _ := of_queue_eq rfl
  closeBurst _ := of_records (closeBurst_records _)
  resetFirstOut _ _ _ _ _ := of_records
    ((RecordFrame.withTrip ..).trans ((produce_records ..).trans (handInput_records ..)))
  acknowledge _ _ := of_queue_eq rfl
  write _ _ _ _ _ := of_records (writeEntry_records ..)
  sample _ _ _ := of_records (sampleLine_records ..)
  debounce _ _ := of_records (expireDebounce_records ..)
  window _ _ := of_records (expireWindow_records ..)
  stability _ _ := of_records (expireStability_records ..)
  keepRota _ _ _ := of_queue_eq rfl
  applyRota _ _ := of_records (applyRota_records ..)
  take _ _ _ _ _ _ _ _ := of_records (takeDuty_records ..)
  accept _ _ _ _ _ _ _ _ := of_records (acceptHandover_records ..)
  openHandover _ _ _ := of_queue_eq rfl
  release _ _ _ := of_queue_eq rfl
  reclaim _ _ := of_queue_eq rfl
  handoverSettings _ _ _ _ := of_queue_eq rfl
  served _ _ := of_queue_eq rfl
  releaseDeadline _ _ := of_records (expireRelease_records ..)
  acceptDeadline _ _ := of_records (expireAccept_records ..)
  slots _ _ := of_records (checkSlots_records ..)
  quality _ _ := of_records (moveQuality_records ..)
  unstage _ := of_queue_eq rfl
  stage _ _ _ _ _ _ := of_queue_eq rfl
  rewrite _ _ _ _ _ := of_records (rewriteTime_records ..)
  stagedSet _ _ _ := of_records ((RecordFrame.withTime ..).trans (rewriteTime_records ..))
  discipline _ _ _ := of_queue_eq rfl
  advance := advanceClock
  elapse _ _ := of_queue_eq rfl
  boundary _ := of_queue_eq rfl
  supply _ _ _ := of_queue_eq rfl

/-- The cold queue is in order, whatever stood before (R184). -/
theorem coldQueue : EventQueue.cold.InOrder where
  room := Nat.zero_le _
  counter := (by decide : 0 < 65536)
  wanted := List.forall_mem_nil _
  numbered := List.forall_mem_nil _
  subscribed := List.forall_mem_nil _
  chain _ := EventQueue.InOrder.chain_of_reads_nil rfl

theorem commands : CommandRules QueueKept where
  toOperationRules := operations
  mainLoss _ _ _ := of_records (mainLoss_records ..)
  restart _ _ _ _ _ := of_records ((closingActions_records ..).trans (returnStages_records ..))
  outage _ _ _ _ := of_records (outageReturn_records ..)
  cold pins high s :=
    ⟨fun _ => coldQueue.reports (returnStages_records .cold pins (State.cold s.lines pins high s.freeIndex s.pending)).reports⟩

end QueueKept

/-- Settles O6: the queue's chains across every operation. -/
theorem stepKeepsTheQueueInOrder : Obligations.StepKeepsTheQueueInOrder := by
  intro s t order h
  rw [queueInOrder_iff] at order ⊢
  unfold step at h
  split at h
  · cases h
    exact order
  · exact (QueueKept.commands.exec _ h).order order

end Sys2Proof.Machine
end

section
/-!
SUPPORT. What the operations of the blocks do to the ports, once for every relation between states: a relation that holds across a
record, a due compare, an allowed notice, and a change that no port looks at, holds across each operation (`PortRules`).
-/

namespace Sys2Proof.Machine

/-- A relation across what reaches the ports. Only the notices in `allowed` may be set, but for EVENTS and GAP by a record and
TALLY_DUE by a due compare. -/
structure PortRules (allowed : Notice → Prop) (R : State → State → Prop) : Prop where
  refl : ∀ s, R s s
  trans : ∀ {s t u}, R s t → R t u → R s u
  silent : ∀ s t, t.ports = s.ports → t.queue = s.queue → t.supply = s.supply →
    (∀ i, (t.entry i).duePending = (s.entry i).duePending) → R s t
  notice : ∀ p n on s, allowed n → R s (setNotice p n on s)
  record : ∀ i o b s, R s (produceAt i o b s)
  due : ∀ o i s, R s (evaluateDue o i s)
  compare : ∀ s, R s (atAllPorts syncTallyDue s)

namespace PortRules

variable {allowed : Notice → Prop} {R : State → State → Prop} (rules : PortRules allowed R)
include rules

theorem allPorts {f : Port → State → State} (h : ∀ p s, R s (f p s)) (s : State) : R s (atAllPorts f s) :=
  atAllPorts_keeps (fun p _ k => rules.trans k (h p _)) (rules.refl s)

theorem allPoints {f : Fin 32 → State → State} (h : ∀ n s, R s (f n s)) (s : State) : R s (atAllPoints f s) :=
  atAllPoints_keeps (fun n _ k => rules.trans k (h n _)) (rules.refl s)

theorem allTallies {f : Fin 12 → State → State} (h : ∀ i s, R s (f i s)) (s : State) : R s (atAllTallies f s) :=
  atAllTallies_keeps (fun i _ k => rules.trans k (h i _)) (rules.refl s)

theorem raise (n : Notice) (s : State) (ok : allowed n) : R s (raiseAtAll n s) :=
  rules.allPorts (fun p s => rules.notice p n true s ok) s

theorem produce (o : Bool) (b : RecordBody) (s : State) : R s (produce o b s) := rules.record ..

theorem producePower (cause : PowerCause) (s : State) : R s (producePower cause s) := rules.produce ..

theorem produceIf (c o : Bool) (b : RecordBody) (s : State) : R s (if c then Machine.produce o b s else s) := by
  cases c
  · exact rules.refl s
  · exact rules.produce ..

/-! ### Changes of one block -/

theorem withTime (s : State) (x : TimeBase) : R s (s.withTime x) := rules.silent s _ rfl rfl rfl fun _ => rfl

theorem withDiscipline (s : State) (x : Discipline) : R s (s.withDiscipline x) := rules.silent s _ rfl rfl rfl fun _ => rfl

theorem withTrip (s : State) (x : TripUnit) : R s (s.withTrip x) := rules.silent s _ rfl rfl rfl fun _ => rfl

theorem withDuty (s : State) (x : DutyUnit) : R s (s.withDuty x) := rules.silent s _ rfl rfl rfl fun _ => rfl

theorem withHandover (s : State) (x : HandoverFields) : R s (s.withHandover x) := rules.withDuty ..

theorem withBook (s : State) (x : ShiftBook) : R s (s.withBook x) := rules.silent s _ rfl rfl rfl fun _ => rfl

theorem withPoint (n : Fin 32) (s : State) (x : Point) : R s (s.withPoint n x) := rules.silent s _ rfl rfl rfl fun _ => rfl

theorem withEntry {i : Fin 12} {s : State} {x : Tally} (due : x.duePending = (s.entry i).duePending) :
    R s (s.withEntry i x) := by
  refine rules.silent s _ rfl rfl rfl fun j => ?_
  by_cases h : j = i
  · subst h
    simpa using due
  · rw [State.entry_withEntry_other _ _ h]

theorem withInputs (s : State) (x : BitVec 36) (paused : Bool) :
    R s (s.withTally { s.tally with inputs := x, paused := paused }) :=
  rules.silent s _ rfl rfl rfl fun _ => rfl

/-! ### The tally unit -/

theorem applyPreset (o : Bool) (i : Fin 12) (x : StagedPreset) (s : State) : R s (applyPreset o i x s) := by
  unfold Machine.applyPreset
  refine rules.trans (rules.withEntry ?_) (rules.trans (rules.produce ..)
    (rules.trans (rules.due o i _) (rules.withEntry ?_))) <;> rfl

theorem completeQualification (o : Bool) (i : Fin 12) (s : State) : R s (completeQualification o i s) := by
  unfold Machine.completeQualification
  refine rules.trans (rules.withEntry ?_) (rules.trans (rules.produceIf ..) (rules.due o i _))
  rfl

theorem enterQualifying (o : Bool) (i : Fin 12) (s : State) : R s (enterQualifying o i s) := by
  have entered : R s (s.withEntry i { s.entry i with run := .qualifying, qualifyCount := 0 }) := rules.withEntry rfl
  unfold Machine.enterQualifying
  dsimp only
  split
  · exact rules.trans entered (rules.completeQualification ..)
  · exact entered

theorem abandonQualifying (i : Fin 12) (s : State) : R s (abandonQualifying i s) := rules.withEntry rfl

theorem applyStagedPreset (o : Bool) (i : Fin 12) (s : State) : R s (applyStagedPreset o i s) := by
  unfold Machine.applyStagedPreset
  split
  · exact rules.refl s
  · exact rules.applyPreset ..

theorem endRun (o : Bool) (i : Fin 12) (s : State) : R s (endRun o i s) := by
  unfold Machine.endRun
  refine rules.trans (rules.produceIf ..) (rules.trans (rules.applyStagedPreset o i _) (rules.withEntry ?_))
  rfl

theorem evaluateTally (o : Bool) (i : Fin 12) (s : State) : R s (evaluateTally o i s) := by
  unfold Machine.evaluateTally
  split
  · exact rules.enterQualifying ..
  · exact rules.abandonQualifying ..
  · exact rules.endRun ..
  · exact rules.refl s

theorem handInput (k : Nat) (v : Bool) (s : State) : R s (handInput k v s) := by
  unfold Machine.handInput
  split
  · exact rules.refl s
  · exact rules.trans (rules.withInputs s _ s.tally.paused) (rules.allTallies (rules.evaluateTally false) _)

theorem completeIfQualified (i : Fin 12) (s : State) : R s (completeIfQualified i s) := by
  unfold Machine.completeIfQualified
  split
  · exact rules.completeQualification ..
  · exact rules.refl s

theorem countBoundary (i : Fin 12) (s : State) : R s (countBoundary i s) := by
  have counted (x : Tally) (due : x.duePending = (s.entry i).duePending) : R s (s.withEntry i x) := rules.withEntry due
  unfold Machine.countBoundary
  dsimp only
  split
  · exact rules.refl s
  · exact rules.trans (counted _ (by rfl)) (rules.completeIfQualified i _)
  · exact rules.trans (counted _ (by rfl)) (rules.due false i _)

theorem tallyBoundary (s : State) : R s (tallyBoundary s) := by
  unfold Machine.tallyBoundary
  split
  · exact rules.refl s
  · exact rules.allTallies rules.countBoundary s

theorem configureTally (i : Fin 12) (c : TallyConfig) (s : State) : R s (configureTally i c s) := by
  have completed (d : Bool) (t : State) : R t (if d then Machine.completeQualification false i t else t) := by
    cases d
    · exact rules.refl t
    · exact rules.completeQualification ..
  unfold Machine.configureTally
  refine rules.trans (rules.withEntry ?_) (rules.trans (completed _ _) (rules.trans (rules.evaluateTally ..) (rules.due ..)))
  rfl

theorem closeTally (i : Fin 12) (s : State) : R s (closeTally i s) := by
  unfold Machine.closeTally
  split
  · exact rules.abandonQualifying ..
  · exact rules.refl s

theorem tallyClosing (s : State) : R s (tallyClosing s) :=
  rules.trans (rules.allTallies rules.closeTally s) (rules.withInputs _ _ true)

theorem tallyRestore (s : State) : R s (tallyRestore s) := by
  have restored (i : Fin 12) (t : State) : R t (restoreTally i t) :=
    rules.trans (rules.evaluateTally true i t) (rules.due true i _)
  exact rules.trans (rules.withInputs s _ false) (rules.trans (rules.allTallies restored _) (rules.compare _))

theorem resetShift (i : Fin 12) (s : State) : R s (resetShift i s) := by
  unfold Machine.resetShift
  refine rules.withEntry ?_
  rfl

theorem resetShifts (s : State) : R s (atAllTallies Machine.resetShift s) := rules.allTallies rules.resetShift s

/-! ### The points and the trip unit -/

theorem producePoint (n : Fin 32) (a : Bool) (c : ChangeCause) (i : Instant) (o : Bool) (s : State) :
    R s (producePoint n a c i o s) :=
  rules.trans (rules.withTrip ..) (rules.record ..)

theorem suppressPoint (n : Fin 32) (k : Nat) (s : State) : R s (suppressPoint n k s) :=
  rules.trans (rules.produce ..) (rules.withPoint ..)

theorem takeEdge (n : Fin 32) (s : State) : R s (takeEdge n s) := by
  unfold Machine.takeEdge
  dsimp only
  split
  · exact rules.withPoint ..
  · exact rules.withPoint ..
  · split
    · exact rules.refl s
    · exact rules.withPoint ..

theorem sampleLine (n : Fin 32) (high : Bool) (s : State) : R s (sampleLine n high s) := by
  have lines (l : BitVec 32) : R s { s with lines := l } := rules.silent s _ rfl rfl rfl fun _ => rfl
  unfold Machine.sampleLine
  split
  · exact rules.refl s
  · dsimp only
    split
    · exact rules.trans (lines _) (rules.takeEdge ..)
    · exact lines _

theorem expireWindow (n : Fin 32) (s : State) : R s (expireWindow n s) := by
  unfold Machine.expireWindow
  split
  · split
    · exact rules.withPoint ..
    · exact rules.refl s
  · exact rules.refl s

theorem reportRelease (o : Bool) (n : Fin 32) (s : State) : R s (reportRelease o n s) := by
  unfold Machine.reportRelease
  split
  · exact rules.produce ..
  · exact rules.refl s

theorem takeFresh (n : Fin 32) (e : PointEntry) (s : State) : R s (takeFresh n e s) :=
  rules.trans (rules.reportRelease ..) (rules.trans (rules.withPoint ..) (rules.handInput ..))

theorem invertLine (n : Fin 32) (s : State) : R s (invertLine n s) := by
  unfold Machine.invertLine
  split
  · exact rules.refl s
  · exact rules.trans (rules.withPoint ..) (rules.takeEdge ..)

theorem restorePoint (n : Fin 32) (s : State) : R s (restorePoint n s) := by
  have released : R s (setChatter n .clear (Machine.reportRelease true n s)) :=
    rules.trans (rules.reportRelease ..) (rules.withPoint ..)
  unfold Machine.restorePoint
  dsimp only
  split
  · exact rules.refl s
  · split
    · exact released
    · exact rules.trans released (rules.withPoint ..)

theorem pointRestore (s : State) : R s (pointRestore s) := rules.allPoints rules.restorePoint s

theorem pointClosing (s : State) : R s (pointClosing s) := rules.allPoints (fun n s => rules.withPoint n s _) s

section FirstOut

variable (ok : allowed .firstOut)
include ok

theorem raiseFirstOutIf (c : Bool) (s : State) : R s (if c then raiseAtAll .firstOut s else s) := by
  cases c
  · exact rules.refl s
  · exact rules.raise _ s ok

theorem latchActivation (n : Nat) (i : Instant) (s : State) : R s (latchActivation n i s) := by
  unfold Machine.latchActivation
  split
  · exact rules.trans (rules.withTrip ..) (rules.trans (rules.raise _ _ ok) (rules.handInput ..))
  · exact rules.trans (rules.withTrip ..) (rules.raiseFirstOutIf ok _ _)
  · exact rules.refl s

theorem takeTripChange (n : Fin 32) (a : Bool) (i : Instant) (s : State) : R s (takeTripChange n a i s) := by
  unfold Machine.takeTripChange
  dsimp only
  split
  · exact rules.trans (rules.withTrip ..) (rules.latchActivation ok ..)
  · exact rules.withTrip ..

theorem confirmChange (n : Fin 32) (a : Bool) (c : ChangeCause) (i : Instant) (o : Bool) (s : State) :
    R s (confirmChange n a c i o s) := by
  unfold Machine.confirmChange setActive
  dsimp only
  split
  · exact rules.trans (rules.withPoint ..) (rules.handInput ..)
  · exact rules.trans (rules.withPoint ..) (rules.handInput ..)
  · exact rules.trans (rules.withPoint ..)
      (rules.trans (rules.producePoint ..) (rules.trans (rules.handInput ..) (rules.handInput ..)))
  · exact rules.trans (rules.withPoint ..)
      (rules.trans (rules.producePoint ..)
        (rules.trans (rules.handInput ..) (rules.trans (rules.handInput ..) (rules.takeTripChange ok ..))))

theorem countChange (n : Fin 32) (a : Bool) (c : ChangeCause) (i : Instant) (o : Bool) (s : State) :
    R s (countChange n a c i o s) := by
  unfold Machine.countChange
  dsimp only
  split
  · exact rules.confirmChange ok ..
  · split
    · exact rules.trans (rules.withPoint ..) (rules.confirmChange ok ..)
    · split
      · exact rules.trans (rules.withPoint ..) (rules.confirmChange ok ..)
      · exact rules.suppressPoint ..
    · exact rules.refl s

theorem expireDebounce (n : Fin 32) (s : State) : R s (expireDebounce n s) := by
  unfold Machine.expireDebounce
  split
  · exact rules.refl s
  · split
    · exact rules.trans (rules.withPoint ..) (rules.countChange ok ..)
    · exact rules.refl s

theorem releasePoint (n : Fin 32) (k : Nat) (s : State) : R s (releasePoint n k s) := by
  have released : R s (setChatter n .clear (Machine.produce false (.chatter n.val .released k) s)) :=
    rules.trans (rules.produce ..) (rules.withPoint ..)
  unfold Machine.releasePoint
  dsimp only
  split
  · exact released
  · exact rules.trans released (rules.confirmChange ok ..)

theorem expireStability (n : Fin 32) (s : State) : R s (expireStability n s) := by
  unfold Machine.expireStability
  split
  · split
    · exact rules.releasePoint ok ..
    · exact rules.refl s
  · exact rules.refl s

theorem stopChatter (n : Fin 32) (s : State) : R s (stopChatter n s) := by
  unfold Machine.stopChatter
  split
  · exact rules.refl s
  · exact rules.withPoint ..
  · exact rules.releasePoint ok ..

theorem applySettings (n : Fin 32) (e : PointEntry) (s : State) : R s (applySettings n e s) := by
  have inverted (c : Prop) [Decidable c] (t : State) : R t (if c then t else Machine.invertLine n t) := by
    split
    · exact rules.refl t
    · exact rules.invertLine n t
  unfold Machine.applySettings
  dsimp only
  split
  · exact rules.trans (rules.withPoint ..) (rules.trans (inverted _ _) (rules.stopChatter ok ..))
  · exact rules.trans (rules.withPoint ..) (inverted _ _)

theorem writeEntry (n : Fin 32) (e : PointEntry) (s : State) : R s (writeEntry n e s) := by
  unfold Machine.writeEntry
  split
  · exact rules.applySettings ok ..
  · exact rules.takeFresh ..

theorem finaliseFirstOut (s : State) : R s (finaliseFirstOut s) := by
  unfold Machine.finaliseFirstOut
  split
  · exact rules.trans (rules.withTrip ..) (rules.trans (rules.produce ..) (rules.raise _ _ ok))
  · exact rules.refl s

theorem closeBurst (s : State) : R s (closeBurst s) := by
  unfold Machine.closeBurst
  split
  · exact rules.refl s
  · exact rules.trans (rules.finaliseFirstOut ok s) (rules.trans (rules.withTrip ..) (rules.handInput ..))

end FirstOut

/-! ### The duty unit -/

theorem handDutyHeld (s : State) : R s (handDutyHeld s) := rules.handInput ..

theorem applyRota (o : Bool) (s : State) : R s (applyRota o s) := by
  unfold Machine.applyRota
  split
  · exact rules.refl s
  · exact rules.trans (rules.withDuty ..) (rules.produce ..)

theorem snapshot (x y : Nat) (h : HandoverFields) (s : State) : R s (snapshot x y h s) :=
  rules.trans (rules.withBook ..) (rules.trans (rules.withTrip ..) (rules.resetShifts _))

section Handover

variable (ok : allowed .handover)
include ok

theorem produceHandover (o : Bool) (phase : HandoverPhase) (x y : Nat) (k : Option Nat) (r z : Nat) (s : State) :
    R s (produceHandover o phase x y k r z s) :=
  rules.trans (rules.produce ..) (rules.raise _ _ ok)

theorem reportHandover (o : Bool) (phase : HandoverPhase) (k : Nat) (s : State) : R s (reportHandover o phase k s) :=
  rules.produceHandover ok ..

theorem expireRelease (o : Bool) (s : State) : R s (expireRelease o s) := by
  unfold Machine.expireRelease
  split
  · split
    · exact rules.trans (rules.withHandover ..) (rules.reportHandover ok ..)
    · exact rules.refl s
  · exact rules.refl s

theorem lapse (o : Bool) (s : State) : R s (lapse o s) := by
  unfold Machine.lapse
  dsimp only
  split
  · exact rules.trans (rules.produceHandover ok ..) (rules.withDuty ..)
  · split
    · exact rules.trans (rules.produceHandover ok ..)
        (rules.trans (rules.withDuty ..) (rules.trans (rules.applyRota ..) (rules.handDutyHeld _)))
    · exact rules.trans (rules.produceHandover ok ..) (rules.withDuty ..)

theorem expireAccept (o : Bool) (s : State) : R s (expireAccept o s) := by
  unfold Machine.expireAccept
  split
  · split
    · split
      · exact rules.trans (rules.withHandover ..) (rules.reportHandover ok ..)
      · exact rules.lapse ok ..
    · exact rules.refl s
  · exact rules.refl s

theorem slotFalls (o : Bool) (due : Instant) (k : Nat) (x : Slot) (n : Nat) (s : State) : R s (slotFalls o due k x n s) := by
  have served := rules.withDuty s { s.duty with lastServed := some due }
  unfold Machine.slotFalls
  dsimp only
  split
  · exact served
  · split
    · exact rules.trans served (rules.trans (rules.withDuty ..) (rules.reportHandover ok ..))
    · exact rules.trans served
        (rules.trans (rules.withDuty ..) (rules.trans (rules.reportHandover ok ..) (rules.reportHandover ok ..)))
  · exact rules.trans served (rules.trans (rules.withHandover ..) (rules.reportHandover ok ..))
  · exact rules.trans served (rules.trans (rules.withHandover ..) (rules.reportHandover ok ..))

theorem checkSlots (o : Bool) (s : State) : R s (checkSlots o s) := by
  unfold Machine.checkSlots
  split
  · exact rules.refl s
  · split
    · exact rules.withDuty ..
    · split
      · exact rules.slotFalls ok ..
      · exact rules.refl s

theorem dutyCheck (o : Bool) (s : State) : R s (dutyCheck o s) := by
  have deadlines : R s (Machine.expireAccept o (Machine.expireRelease o s)) :=
    rules.trans (rules.expireRelease ok ..) (rules.expireAccept ok ..)
  unfold Machine.dutyCheck
  dsimp only
  split
  · split
    · exact deadlines
    · exact rules.trans deadlines (rules.trans (rules.checkSlots ok ..) (rules.expireRelease ok ..))
  · exact rules.refl s

theorem takeDuty (p : Port) (crew : Nat) (s : State) : R s (takeDuty p crew s) :=
  rules.trans (rules.produceHandover ok ..)
    (rules.trans (rules.snapshot ..) (rules.trans (rules.withDuty ..) (rules.handDutyHeld _)))

theorem acceptHandover (p : Port) (crew : Nat) (s : State) : R s (acceptHandover p crew s) :=
  rules.trans (rules.produceHandover ok ..)
    (rules.trans (rules.snapshot ..) (rules.trans (rules.withDuty ..) (rules.applyRota ..)))

end Handover

/-! ### The time base -/

theorem moveQuality (ok : allowed .quality) (q : Quality) (s : State) : R s (moveQuality q s) := by
  unfold Machine.moveQuality
  dsimp only
  split
  · exact rules.refl s
  · split
    · exact rules.trans (rules.withTime ..)
        (rules.trans (rules.produce ..) (rules.trans (rules.raise _ _ ok) (rules.handInput ..)))
    · exact rules.trans (rules.withTime ..) (rules.handInput ..)

theorem moveQualityBySet (ok : allowed .quality) (q : Quality) (s : State) : R s (moveQualityBySet q s) := by
  unfold Machine.moveQualityBySet
  split
  · exact rules.trans (rules.moveQuality ok ..) (rules.withDuty ..)
  · exact rules.moveQuality ok ..

theorem rewriteTime (date ms : Nat) (s : State) : R s (rewriteTime date ms s) := by
  have moved (amount : Int) (n : Fin 32) (t : State) : R t (moveDebounce amount n t) := by
    unfold moveDebounce
    split
    · exact rules.refl t
    · exact rules.withPoint ..
  exact rules.trans (rules.withTime ..) (rules.allPoints (moved _) _)

theorem evaluateAlarm (ok : allowed .alarm) (p : Port) (s : State) : R s (evaluateAlarm p s) := rules.notice _ _ _ _ ok

theorem handInstant (handover : allowed .handover) (alarm : allowed .alarm) (s : State) : R s (handInstant s) :=
  rules.trans (rules.dutyCheck handover ..) (rules.allPorts (rules.evaluateAlarm alarm) _)

/-- The stages of a return after the ports (R183). -/
theorem returnBlocks (handover : allowed .handover) (cause : PowerCause) (s : State) :
    R s (Machine.dutyCheck true (Machine.pointRestore (Machine.tallyRestore (Machine.producePower cause s)))) :=
  rules.trans (rules.producePower cause s) (rules.trans (rules.tallyRestore _)
    (rules.trans (rules.pointRestore _) (rules.dutyCheck handover true _)))

theorem advanceClock (s : State) : R s (advanceClock s) := by
  refine rules.silent s _ ?_ ?_ ?_ fun i => ?_
  · rw [advanceClock_frame s]
  · rw [advanceClock_frame s]
  · rw [advanceClock_frame s]
  · rw [advanceClock_frame s]; rfl

end PortRules

end Sys2Proof.Machine
end

section
/-!
SUPPORT. The ports as the operations leave them: one notice evaluated at all ports, one unit replaced at all ports, and the attention
lines and level notices across every operation (`AttentionKept`).
-/

namespace Sys2Proof.Machine

/-! ### All ports at once -/

/-- A notice evaluated at every port stands as its condition has it, where the condition does not look at the notice. -/
theorem atAllPorts_setNotice {n : Notice} {c : Port → State → Bool}
    (look : ∀ p q on s, c p (setNotice q n on s) = c p s) {s : State} (run : s.running = true) (p : Port) :
    ((atAllPorts (fun q t => setNotice q n (c q t) t) s).port p).pending.has n = c p s := by
  have other (p q : Port) (on : Bool) (t : State) (h : q ≠ p) : (setNotice p n on t).port q = t.port q :=
    (setNotice_spec p n on t).2.2.2.2 q h
  have self (p : Port) (on : Bool) (t : State) (ht : t.running = true) :
      ((setNotice p n on t).port p).pending.has n = on :=
    (setNotice_spec p n on t).2.2.1 ht
  unfold atAllPorts
  cases p
  · rw [other _ _ _ _ (by decide), other _ _ _ _ (by decide), self _ _ _ run]
  · rw [other _ _ _ _ (by decide), self _ _ _ (by simp [run]), look]
  · rw [self _ _ _ (by simp [run]), look, look]

/-- A unit replaced at every port, where the replacement looks at no other port. -/
theorem atAllPorts_withPort {f : Port → State → PortUnit} (look : ∀ p q u s, q ≠ p → f p (s.withPort q u) = f p s)
    (s : State) (p : Port) : (atAllPorts (fun q t => t.withPort q (f q t)) s).port p = f p s := by
  have other (p q : Port) (u : PortUnit) (t : State) (h : q ≠ p) : (t.withPort p u).port q = t.port q :=
    t.port_withPort_other u h
  unfold atAllPorts
  cases p
  · rw [other _ _ _ _ (by decide), other _ _ _ _ (by decide), State.port_withPort_self]
  · rw [other _ _ _ _ (by decide), State.port_withPort_self, look _ _ _ _ (by decide)]
  · rw [State.port_withPort_self, look _ _ _ _ (by decide), look _ _ _ _ (by decide)]

theorem State.dueTallies_congr {s t : State} (h : ∀ i, (t.entry i).duePending = (s.entry i).duePending) :
    t.dueTallies = s.dueTallies := by
  unfold State.dueTallies
  simp only [h]

theorem NoticeFrame.dueTallies {s t : State} (h : NoticeFrame s t) : t.dueTallies = s.dueTallies :=
  State.dueTallies_congr fun i => by rw [h.1]; rfl

theorem PortsKeep.readMask {s t : State} (h : PortsKeep s t) (p : Port) : (t.port p).readMask = (s.port p).readMask := by
  rw [h p]

theorem PortsKeep.alarm {s t : State} (h : PortsKeep s t) (p : Port) : (t.port p).alarm = (s.port p).alarm := by
  rw [h p]

/-- The ALARM compare looks at the time and the port's alarm. -/
theorem alarmHolds_congr {s t : State} (time : t.time = s.time) (p : Port) (alarm : (t.port p).alarm = (s.port p).alarm) :
    t.alarmHolds p = s.alarmHolds p := by
  simp only [State.alarmHolds, State.now, time, alarm]

/-! ### The line -/

/-- What `PortUnit.lineAgrees` says of a style, a line and the pending-and-enabled notices. -/
def LineFits (style : Style) (line : Line) (wanted : NoticeSet) : Prop :=
  match style, line with
  | .level, line => line = plainLine wanted
  | .pulse, .inactive => wanted = 0
  | .pulse, .active => wanted ≠ 0
  | .pulse, .gap _ => True

theorem PortUnit.lineAgrees_iff (u : PortUnit) : u.lineAgrees ↔ LineFits u.style u.line u.wanted := Iff.rfl

theorem plainLine_fits (style : Style) (wanted : NoticeSet) : LineFits style (plainLine wanted) wanted := by
  cases style with
  | level => rfl
  | pulse =>
    unfold plainLine
    split
    · next none_ => exact none_
    · next some_ => exact some_

/-- R164, R165: the line is driven into agreement, whatever it showed. -/
theorem lineAfter_fits (u : PortUnit) (e : Nat) (before : NoticeSet) (again : Bool) :
    LineFits u.style (lineAfter e before again u) u.wanted := by
  unfold lineAfter
  cases u.style with
  | level => exact plainLine_fits ..
  | pulse =>
    cases u.line with
    | gap e => exact trivial
    | inactive => exact plainLine_fits ..
    | active =>
      dsimp only
      split
      · next none_ => exact none_
      · next some_ =>
        split
        · exact trivial
        · exact some_

theorem PortUnit.lineAgrees_setNotice {u : PortUnit} (h : u.lineAgrees) (e : Nat) (n : Notice) (on : Bool) :
    (u.setNotice e n on).lineAgrees := by
  unfold PortUnit.setNotice
  split
  · exact h
  · exact lineAfter_fits { u with pending := putBit u.pending n.bit on } e u.wanted false

theorem PortUnit.lineAgrees_clearNotices (u : PortUnit) (e : Nat) (mask : NoticeSet) :
    (u.clearNotices e mask).lineAgrees :=
  lineAfter_fits { u with pending := u.pending &&& ~~~(mask &&& latchedNotices) } e u.wanted true

theorem PortUnit.lineAgrees_setEnables (u : PortUnit) (e : Nat) (enabled : NoticeSet) (style : Style) :
    (u.setEnables e enabled style).lineAgrees := by
  unfold PortUnit.setEnables
  dsimp only
  split
  · exact lineAfter_fits { u with enabled := enabled, style := style } e u.wanted false
  · exact plainLine_fits style (u.pending &&& enabled)

theorem PortUnit.lineAgrees_endGap {u : PortUnit} (h : u.lineAgrees) (e : Nat) : (u.endGap e).lineAgrees := by
  unfold PortUnit.endGap
  split
  · split
    · exact plainLine_fits u.style u.wanted
    · exact h
  · exact h

/-! ### Records and due compares in terms of notices -/

section Parts

variable {R : State → State → Prop} (refl : ∀ s, R s s) (trans : ∀ {s t u}, R s t → R t u → R s u)
include refl trans

/-- A relation across a queue replaced and the notices GAP and EVENTS holds across a record. -/
theorem produceAt_of (queue : ∀ s q, R s (s.withQueue q)) (gap : ∀ p on s, R s (setNotice p .gap on s))
    (events : ∀ p on s, R s (setNotice p .events on s)) (i : Instant) (o : Bool) (b : RecordBody) (s : State) :
    R s (produceAt i o b s) := by
  have ports {f : Port → State → State} (h : ∀ p s, R s (f p s)) (s : State) : R s (atAllPorts f s) :=
    atAllPorts_keeps (fun p _ k => trans k (h p _)) (refl s)
  have sync (p : Port) (s : State) : R s (syncEvents p s) := events ..
  have enter (r : Record) (s : State) : R s (enterRecord r s) := trans (queue ..) (ports sync _)
  have lost (h : Held) (p : Port) (s : State) : R s (loseRemoved h p s) := by
    unfold loseRemoved
    split
    · exact refl s
    · exact trans (trans (queue ..) (gap ..)) (sync ..)
  have removed (s : State) : R s (removeOldest s) := by
    unfold removeOldest
    split
    · exact refl s
    · exact trans (queue ..) (ports (lost _) _)
  have discarded (p : Port) (s : State) : R s (discardAt p s) := by
    unfold discardAt
    split
    · exact trans (queue ..) (gap ..)
    · exact refl s
  have stored (r : Record) (s : State) : R s (storeRecord r s) := by
    unfold storeRecord
    split
    · split
      · exact enter r s
      · split
        · exact ports discarded s
        · exact trans (removed s) (enter r _)
    · exact refl s
  exact trans (queue s _) (stored _ _)

/-- A relation across a change of the tally unit, a record and the notice TALLY_DUE holds across a due compare. -/
theorem evaluateDue_of (tally : ∀ i x s, R s (s.withEntry i x)) (record : ∀ i o b s, R s (produceAt i o b s))
    (due : ∀ p on s, R s (setNotice p .tallyDue on s)) (o : Bool) (i : Fin 12) (s : State) : R s (evaluateDue o i s) := by
  have reported (c : Bool) (b : RecordBody) (t : State) : R t (if c then produce o b t else t) := by
    cases c
    · exact refl t
    · exact record ..
  unfold evaluateDue
  dsimp only
  split
  · exact refl s
  · exact trans (tally ..) (trans (reported ..) (atAllPorts_keeps (fun p _ k => trans k (due p _ _)) (refl _)))

theorem compare_of (due : ∀ p on s, R s (setNotice p .tallyDue on s)) (s : State) : R s (atAllPorts syncTallyDue s) :=
  atAllPorts_keeps (fun p _ k => trans k (due p _ _)) (refl s)

end Parts

/-! ### The relation -/

/-- The line of every port agrees with its notices. -/
def State.LinesAgree (s : State) : Prop := ∀ p, (s.port p).lineAgrees

/-- EVENTS holds exactly where something is to be read. -/
def State.EventsFollow (s : State) : Prop := ∀ p, (s.port p).pending.has .events = !(s.queue.stream p).isEmpty

/-- TALLY_DUE holds exactly where a tally of the mask is due. -/
def State.DueFollows (s : State) : Prop :=
  ∀ p, (s.port p).pending.has .tallyDue = ((s.dueTallies &&& (s.port p).readMask) != 0)

/-- Nothing is pending and every line is inactive. -/
def State.PortsRest (s : State) : Prop := ∀ p, (s.port p).pending = 0 ∧ (s.port p).line = .inactive

theorem attentionFollows_iff (s : State) :
    AttentionFollows s ↔
      if s.running then s.LinesAgree ∧ s.EventsFollow ∧ s.DueFollows else s.PortsRest := by
  unfold AttentionFollows State.LinesAgree State.EventsFollow State.DueFollows State.PortsRest
  split
  · exact ⟨fun h => ⟨fun p => (h p).1, fun p => (h p).2.1, fun p => (h p).2.2⟩, fun ⟨x, y, z⟩ p => ⟨x p, y p, z p⟩⟩
  · exact Iff.rfl

theorem State.running_congr {s t : State} (h : t.supply.state = s.supply.state) : t.running = s.running := by
  simp only [State.running, h]

/-- The supply state is the same, and in the supply state `run` a property that held holds. -/
structure Kept (run : Bool) (P : State → Prop) (s t : State) : Prop where
  running : t.running = s.running
  kept : s.running = run → P s → P t

namespace Kept

variable {run : Bool} {P : State → Prop} {s t : State}

theorem refl (s : State) : Kept run P s s := ⟨rfl, fun _ => id⟩

theorem trans {u : State} (h : Kept run P s t) (k : Kept run P t u) : Kept run P s u :=
  ⟨k.running.trans h.running, fun r x => k.kept (h.running.trans r) (h.kept r x)⟩

/-- A notice, where the property is kept at the port in the supply state in which the port takes it. -/
theorem setNotice {n : Notice} (p : Port) (on : Bool) (s : State)
    (h : run = true → s.running = true → P s → P (setNotice p n on s)) : Kept run P s (setNotice p n on s) := by
  refine ⟨by simp, fun r k => ?_⟩
  cases run with
  | true => exact h rfl r k
  | false =>
    have same : Machine.setNotice p n on s = s := by simp [Machine.setNotice, r]
    rw [same]
    exact k

theorem lines_setNotice {n : Notice} (p : Port) (on : Bool) (s : State) :
    Kept true State.LinesAgree s (Machine.setNotice p n on s) := by
  refine setNotice p on s fun _ run h q => ?_
  by_cases e : q = p
  · subst e
    have unit : (Machine.setNotice q n on s).port q = (s.port q).setNotice s.elapsed n on := by
      simp [Machine.setNotice, run]
    rw [unit]
    exact PortUnit.lineAgrees_setNotice (h q) ..
  · rw [(setNotice_spec p n on s).2.2.2.2 q e]
    exact h q

/-- A notice leaves every other notice. -/
theorem has_setNotice {m n : Notice} (h : m ≠ n) (p : Port) (on : Bool) (s : State) (q : Port) :
    ((Machine.setNotice p n on s).port q).pending.has m = (s.port q).pending.has m := by
  obtain ⟨-, -, -, has, other⟩ := setNotice_spec p n on s
  by_cases e : q = p
  · subst e
    exact has m h
  · rw [other q e]

theorem events_setNotice {n : Notice} (h : n ≠ .events) (p : Port) (on : Bool) (s : State) :
    Kept true State.EventsFollow s (Machine.setNotice p n on s) := by
  refine setNotice p on s fun _ _ k q => ?_
  rw [setNotice_queue, has_setNotice h.symm]
  exact k q

theorem due_setNotice {n : Notice} (h : n ≠ .tallyDue) (p : Port) (on : Bool) (s : State) :
    Kept true State.DueFollows s (Machine.setNotice p n on s) := by
  refine setNotice p on s fun _ _ k q => ?_
  have frame := setNotice_frame p n on s
  rw [frame.dueTallies, frame.2.readMask, has_setNotice h.symm]
  exact k q

theorem rest_setNotice {n : Notice} (p : Port) (on : Bool) (s : State) :
    Kept false State.PortsRest s (Machine.setNotice p n on s) := setNotice p on s nofun

/-! ### Records -/

theorem lines_produceAt (i : Instant) (o : Bool) (b : RecordBody) (s : State) :
    Kept true State.LinesAgree s (produceAt i o b s) :=
  produceAt_of refl trans (fun _ _ => ⟨rfl, fun _ => id⟩) lines_setNotice lines_setNotice i o b s

theorem rest_produceAt (i : Instant) (o : Bool) (b : RecordBody) (s : State) :
    Kept false State.PortsRest s (produceAt i o b s) :=
  produceAt_of refl trans (fun _ _ => ⟨rfl, fun _ => id⟩) rest_setNotice rest_setNotice i o b s

theorem due_produceAt (i : Instant) (o : Bool) (b : RecordBody) (s : State) :
    Kept true State.DueFollows s (produceAt i o b s) :=
  produceAt_of refl trans (fun _ _ => ⟨rfl, fun _ => id⟩) (due_setNotice (by decide)) (due_setNotice (by decide)) i o b s

/-- EVENTS evaluated at all ports holds where something is to be read. -/
theorem syncEvents_follows {s : State} (run : s.running = true) : (atAllPorts syncEvents s).EventsFollow := by
  intro p
  have queue : (atAllPorts syncEvents s).queue = s.queue := by simp [atAllPorts]
  rw [queue]
  exact atAllPorts_setNotice (c := fun p s => !(s.queue.stream p).isEmpty) (fun p q on s => by rw [setNotice_queue]) run p

theorem events_enterRecord (r : Record) (s : State) : Kept true State.EventsFollow s (enterRecord r s) := by
  refine ⟨?_, fun run _ => syncEvents_follows run⟩
  rw [(enterRecord_frame r s).1]
  rfl

/-- R90: a discarded record leaves the streams. -/
theorem events_discardAt (p : Port) (s : State) : Kept true State.EventsFollow s (discardAt p s) := by
  unfold discardAt
  split
  · exact Kept.trans (t := s.withQueue { s.queue with
      tailGap := s.queue.tailGap.set p (addGap (s.queue.tailGap.get p) 1) }) ⟨rfl, fun _ => id⟩ (events_setNotice (by decide) ..)
  · exact refl s

theorem events_produceAt (i : Instant) (o : Bool) (b : RecordBody) (s : State) :
    Kept true State.EventsFollow s (produceAt i o b s) := by
  have stored (r : Record) (t : State) : Kept true State.EventsFollow t (storeRecord r t) := by
    unfold storeRecord
    split
    · split
      · exact events_enterRecord r t
      · split
        · exact atAllPorts_keeps (fun p _ k => k.trans (events_discardAt p _)) (refl t)
        · refine ⟨?_, fun run _ => syncEvents_follows ?_⟩
          · rw [((removeOldest_frame t).trans (enterRecord_frame r _)).1]
            rfl
          · show (removeOldest t).running = true
            rw [(removeOldest_frame t).1]
            exact run
    · exact refl t
  exact Kept.trans (t := s.withQueue { s.queue with seq := (s.queue.seq + 1) % 65536 }) ⟨rfl, fun _ => id⟩ (stored _ _)

/-! ### Due compares -/

/-- TALLY_DUE evaluated at all ports holds where a tally of the mask is due. -/
theorem syncTallyDue_follows {s : State} (run : s.running = true) : (atAllPorts syncTallyDue s).DueFollows := by
  intro p
  have frame : NoticeFrame s (atAllPorts syncTallyDue s) :=
    atAllPorts_keeps (fun p _ h => h.trans (syncTallyDue_frame p _)) (.refl s)
  rw [frame.dueTallies, frame.2.readMask]
  refine atAllPorts_setNotice (c := fun p s => (s.dueTallies &&& (s.port p).readMask) != 0) (fun p q on s => ?_) run p
  rw [(setNotice_frame ..).dueTallies, (setNotice_frame ..).2.readMask]

theorem lines_evaluateDue (o : Bool) (i : Fin 12) (s : State) : Kept true State.LinesAgree s (evaluateDue o i s) :=
  evaluateDue_of refl trans (fun _ _ _ => ⟨rfl, fun _ => id⟩) lines_produceAt lines_setNotice o i s

theorem rest_evaluateDue (o : Bool) (i : Fin 12) (s : State) : Kept false State.PortsRest s (evaluateDue o i s) :=
  evaluateDue_of refl trans (fun _ _ _ => ⟨rfl, fun _ => id⟩) rest_produceAt rest_setNotice o i s

theorem events_evaluateDue (o : Bool) (i : Fin 12) (s : State) : Kept true State.EventsFollow s (evaluateDue o i s) :=
  evaluateDue_of refl trans (fun _ _ _ => ⟨rfl, fun _ => id⟩) events_produceAt (events_setNotice (by decide)) o i s

theorem due_evaluateDue (o : Bool) (i : Fin 12) (s : State) : Kept true State.DueFollows s (evaluateDue o i s) := by
  unfold evaluateDue
  dsimp only
  split
  · exact refl s
  · refine ⟨?_, fun run _ => syncTallyDue_follows ?_⟩
    · have frame (t : State) : NoticeFrame t (atAllPorts syncTallyDue t) :=
        atAllPorts_keeps (fun p _ h => h.trans (syncTallyDue_frame p _)) (.refl t)
      rw [((produceIf_frame ..).trans (frame _)).1]
      rfl
    · rw [(produceIf_frame ..).1]
      exact run

end Kept

end Sys2Proof.Machine
end

section
/-!
SUPPORT. The attention lines and the level notices across every operation, and what follows at every step.
-/

namespace Sys2Proof.Machine

/-- A notice other than the level notices EVENTS and TALLY_DUE. -/
def Notice.Free (n : Notice) : Prop := n ≠ .events ∧ n ≠ .tallyDue

theorem Notice.free_firstOut : Notice.firstOut.Free := ⟨nofun, nofun⟩

theorem Notice.free_quality : Notice.quality.Free := ⟨nofun, nofun⟩

theorem Notice.free_handover : Notice.handover.Free := ⟨nofun, nofun⟩

theorem Notice.free_alarm : Notice.alarm.Free := ⟨nofun, nofun⟩

/-- The supply state is the same, and each part of the invariant that held holds. -/
structure AttentionKept (s t : State) : Prop where
  rest : Kept false State.PortsRest s t
  lines : Kept true State.LinesAgree s t
  events : Kept true State.EventsFollow s t
  due : Kept true State.DueFollows s t

/-- The invariant, by supply state. -/
structure AttentionOk (s : State) : Prop where
  run : s.running = true → s.LinesAgree ∧ s.EventsFollow ∧ s.DueFollows
  rest : s.running = false → s.PortsRest

theorem attentionFollows_iff_ok (s : State) : AttentionFollows s ↔ AttentionOk s := by
  rw [attentionFollows_iff]
  cases run : s.running with
  | true => exact ⟨fun h => ⟨fun _ => h, fun r => absurd (run.symm.trans r) nofun⟩, fun h => h.run run⟩
  | false => exact ⟨fun h => ⟨fun r => absurd (run.symm.trans r) nofun, fun _ => h⟩, fun h => h.rest run⟩

/-- The invariant that held holds: what is left of `AttentionKept` across a return, which evaluates everything anew. -/
structure AttentionSafe (s t : State) : Prop where
  safe : AttentionOk s → AttentionOk t

namespace AttentionKept

variable {s t : State}

theorem safe (h : AttentionKept s t) : AttentionSafe s t := by
  refine ⟨fun ⟨run, rest⟩ => ⟨fun r => ?_, fun r => ?_⟩⟩
  · have k := run (h.lines.running.symm.trans r)
    have r := h.lines.running.symm.trans r
    exact ⟨h.lines.kept r k.1, h.events.kept r k.2.1, h.due.kept r k.2.2⟩
  · have r := h.lines.running.symm.trans r
    exact h.rest.kept r (rest r)

theorem refl (s : State) : AttentionKept s s := ⟨.refl s, .refl s, .refl s, .refl s⟩

theorem trans {u : State} (h : AttentionKept s t) (k : AttentionKept t u) : AttentionKept s u :=
  ⟨h.rest.trans k.rest, h.lines.trans k.lines, h.events.trans k.events, h.due.trans k.due⟩

/-- A change that reaches no port. -/
theorem of_ports (ports : t.ports = s.ports) (supply : t.supply.state = s.supply.state)
    (stream : ∀ p, (t.queue.stream p).isEmpty = (s.queue.stream p).isEmpty) (due : t.dueTallies = s.dueTallies) :
    AttentionKept s t := by
  have port (p : Port) : t.port p = s.port p := by simp only [State.port, ports]
  have running := State.running_congr supply
  refine ⟨⟨running, fun _ h p => ?_⟩, ⟨running, fun _ h p => ?_⟩, ⟨running, fun _ h p => ?_⟩, ⟨running, fun _ h p => ?_⟩⟩
  · rw [port]; exact h p
  · rw [port]; exact h p
  · rw [port, stream]; exact h p
  · rw [port, due]; exact h p

theorem silent (s t : State) (ports : t.ports = s.ports) (queue : t.queue = s.queue) (supply : t.supply = s.supply)
    (due : ∀ i, (t.entry i).duePending = (s.entry i).duePending) : AttentionKept s t :=
  of_ports ports (by rw [supply]) (fun p => by rw [queue]) (State.dueTallies_congr due)

theorem ports : PortRules Notice.Free AttentionKept where
  refl := refl
  trans := trans
  silent := silent
  notice p _ on s ok :=
    ⟨Kept.rest_setNotice p on s, Kept.lines_setNotice p on s, Kept.events_setNotice ok.1 p on s, Kept.due_setNotice ok.2 p on s⟩
  record i o b s :=
    ⟨Kept.rest_produceAt i o b s, Kept.lines_produceAt i o b s, Kept.events_produceAt i o b s, Kept.due_produceAt i o b s⟩
  due o i s :=
    ⟨Kept.rest_evaluateDue o i s, Kept.lines_evaluateDue o i s, Kept.events_evaluateDue o i s, Kept.due_evaluateDue o i s⟩
  compare s := by
    have frame : NoticeFrame s (atAllPorts syncTallyDue s) :=
      atAllPorts_keeps (fun p _ h => h.trans (syncTallyDue_frame p _)) (.refl s)
    exact ⟨compare_of Kept.refl Kept.trans Kept.rest_setNotice s, compare_of Kept.refl Kept.trans Kept.lines_setNotice s,
      compare_of Kept.refl Kept.trans (Kept.events_setNotice (by decide)) s,
      ⟨by rw [frame.1]; rfl, fun run _ => Kept.syncTallyDue_follows run⟩⟩

/-! ### One port's unit -/

/-- A unit replaced at a port that keeps its pending notices. -/
theorem withPort_parts {p : Port} {u : PortUnit} (pending : u.pending = (s.port p).pending)
    (rest : s.running = false → (s.port p).line = .inactive → u.line = .inactive)
    (line : s.running = true → (s.port p).lineAgrees → u.lineAgrees) :
    Kept false State.PortsRest s (s.withPort p u) ∧ Kept true State.LinesAgree s (s.withPort p u) ∧
      ∀ n q, ((s.withPort p u).port q).pending.has n = (s.port q).pending.has n := by
  refine ⟨⟨rfl, fun r h q => ?_⟩, ⟨rfl, fun r h q => ?_⟩, fun n q => ?_⟩
  all_goals
    by_cases e : q = p
    · subst e
      rw [State.port_withPort_self]
      first
        | exact ⟨pending.trans (h q).1, rest r (h q).2⟩
        | exact line r (h q)
        | rw [pending]
    · rw [State.port_withPort_other _ _ e]
      try exact h q

/-- A unit replaced at a port that keeps its pending notices and its mask. -/
theorem withPort {p : Port} {u : PortUnit} (pending : u.pending = (s.port p).pending) (mask : u.readMask = (s.port p).readMask)
    (rest : s.running = false → (s.port p).line = .inactive → u.line = .inactive)
    (line : s.running = true → (s.port p).lineAgrees → u.lineAgrees) : AttentionKept s (s.withPort p u) := by
  obtain ⟨rest, lines, has⟩ := withPort_parts pending rest line
  refine ⟨rest, lines, ⟨rfl, fun _ h q => (has _ q).trans (h q)⟩, ⟨rfl, fun _ h q => ?_⟩⟩
  rw [has, h q]
  by_cases e : q = p
  · subst e
    rw [State.port_withPort_self, mask]; rfl
  · rw [State.port_withPort_other _ _ e]
    rfl

theorem answer {p : Port} {u : PortUnit}
    (same : u = { s.port p with frame := u.frame, response := u.response, refusal := u.refusal }) :
    AttentionKept s (s.withPort p u) := by
  refine withPort ?_ ?_ (fun _ => ?_) fun _ => ?_
  · rw [same]
  · rw [same]
  · rw [same]; exact id
  · rw [same]; exact id

theorem setAlarm (p : Port) (a : Option Instant) (s : State) :
    AttentionKept s (s.withPort p { s.port p with alarm := a }) :=
  withPort (by rfl) (by rfl) (fun _ => id) fun _ => id

theorem endPulseGap (p : Port) (s : State) : AttentionKept s (endPulseGap p s) := by
  have unit (u : PortUnit) (e : Nat) : (u.endGap e).pending = u.pending ∧ (u.endGap e).readMask = u.readMask ∧
      (u.line = .inactive → (u.endGap e).line = .inactive) := by
    unfold PortUnit.endGap
    split
    · next h => split <;> exact ⟨rfl, rfl, fun k => absurd (h.symm.trans k) nofun⟩
    · exact ⟨rfl, rfl, id⟩
  exact withPort (unit ..).1 (unit ..).2.1 (fun _ => (unit ..).2.2) fun _ h => PortUnit.lineAgrees_endGap h _

/-- CLEAR_NOTICES moves no level notice (R162). -/
theorem clearNotices (p : Port) (mask : NoticeSet) (run : s.running = true) :
    AttentionKept s (s.withPort p ((s.port p).clearNotices s.elapsed mask)) := by
  have level (n : Notice) (h : n = .events ∨ n = .tallyDue) :
      ((s.port p).clearNotices s.elapsed mask).pending.has n = (s.port p).pending.has n := by
    obtain rfl | rfl := h <;>
      simp [PortUnit.clearNotices, PortUnit.withPending, NoticeSet.has, Notice.bit, latchedNotices]
  have has (n : Notice) (h : n = .events ∨ n = .tallyDue) (q : Port) :
      ((s.withPort p ((s.port p).clearNotices s.elapsed mask)).port q).pending.has n = (s.port q).pending.has n := by
    by_cases e : q = p
    · subst e
      rw [State.port_withPort_self, level n h]
    · rw [State.port_withPort_other _ _ e]
  refine ⟨⟨rfl, fun r => absurd (run.symm.trans r) nofun⟩, ⟨rfl, fun r h q => ?_⟩,
    ⟨rfl, fun _ h q => (has _ (.inl rfl) q).trans (h q)⟩, ⟨rfl, fun _ h q => (has _ (.inr rfl) q).trans (Eq.trans (h q) ?_)⟩⟩
  · by_cases e : q = p
    · subst e
      rw [State.port_withPort_self]
      exact PortUnit.lineAgrees_clearNotices ..
    · rw [State.port_withPort_other _ _ e]
      exact h q
  · by_cases e : q = p
    · subst e
      rw [State.port_withPort_self]
      rfl
    · rw [State.port_withPort_other _ _ e]
      rfl

theorem setEnables (p : Port) (set : NoticeSet) (style : Style) (run : s.running = true) :
    AttentionKept s (s.withPort p ((s.port p).setEnables s.elapsed set style)) :=
  withPort rfl rfl (fun r => absurd (run.symm.trans r) nofun) fun _ _ => PortUnit.lineAgrees_setEnables ..

/-! ### The queue at one port -/

theorem EventQueue.isEmpty_stream (q : EventQueue) (p : Port) : (q.stream p).isEmpty = (q.reads p).isEmpty := by
  simp [q.reads_eq]

/-- A queue in which one port's stream has changed, with its EVENTS evaluated. -/
theorem syncEvents_one (p : Port) (q : EventQueue) (run : s.running = true)
    (other : ∀ r, r ≠ p → q.reads r = s.queue.reads r) : AttentionKept s (syncEvents p (s.withQueue q)) := by
  have silent {P : State → Prop} {b : Bool} (h : P s → P (s.withQueue q)) : Kept b P s (s.withQueue q) := ⟨rfl, fun _ => h⟩
  refine ⟨(silent id).trans (Kept.rest_setNotice ..), (silent id).trans (Kept.lines_setNotice ..), ⟨?_, fun _ h r => ?_⟩,
    (silent id).trans (Kept.due_setNotice (by decide) ..)⟩
  · rw [(syncEvents_frame ..).1]
    rfl
  · rw [syncEvents_queue]
    obtain ⟨-, -, self, -, elsewhere⟩ := setNotice_spec p .events (!(q.stream p).isEmpty) (s.withQueue q)
    by_cases e : r = p
    · subst e
      exact self run
    · rw [EventQueue.isEmpty_stream, State.withQueue_queue, other r e, ← EventQueue.isEmpty_stream]
      exact (congrArg (fun u : PortUnit => u.pending.has .events) (elsewhere r e)).trans (h r)

theorem unsubscribe (p : Port) (run : s.running = true) : AttentionKept s (unsubscribe p s) := by
  unfold Machine.unsubscribe
  split
  · exact syncEvents_one p _ run (leave_spec p s.queue.held).2
  · exact refl s

theorem deliver (p : Port) (k : Nat) (run : s.running = true) :
    AttentionKept s (syncEvents p (s.withQueue { s.queue with held := deliver p k s.queue.held })) :=
  syncEvents_one p _ run (deliver_spec p k s.queue.held).2.1

theorem joinSubscription (p : Port) (s : State) : AttentionKept s (joinSubscription p s) := by
  unfold Machine.joinSubscription
  split
  · exact refl s
  · exact of_ports rfl rfl (fun _ => rfl) rfl

theorem unsubscribeIf_frame (c : Bool) (p : Port) (s : State) :
    NoticeFrame s (if c then Machine.unsubscribe p s else s) ∧
      ∀ n, n ≠ .events → ∀ q,
        ((if c then Machine.unsubscribe p s else s).port q).pending.has n = (s.port q).pending.has n := by
  cases c
  · exact ⟨.refl s, fun _ _ _ => rfl⟩
  · unfold Machine.unsubscribe
    rw [if_pos rfl]
    split
    · exact ⟨(NoticeFrame.withQueue ..).trans (syncEvents_frame ..), fun n h q => Kept.has_setNotice h _ _ _ q⟩
    · exact ⟨.refl s, fun _ _ _ => rfl⟩

/-- SET_RIGHTS evaluates TALLY_DUE against a new mask (R158, R174). -/
theorem storeRights (q : Port) (r : Rights) (m : BitVec 12) (run : s.running = true) :
    AttentionKept s (storeRights q r m s) := by
  have left (c : Bool) (u : State) (h : u.running = true) :
      AttentionKept u (if c then Machine.unsubscribe q u else u) := by
    cases c
    · exact refl u
    · exact unsubscribe q h
  unfold Machine.storeRights
  dsimp only
  generalize stored : s.withPort q { s.port q with rights := r, readMask := m } = u
  have running : u.running = true := stored ▸ run
  generalize hc : ((s.port q).rights.events && !r.events) = c
  split
  · next same =>
    have kept : AttentionKept s u := stored ▸ withPort rfl same (fun _ => id) fun _ => id
    exact kept.trans (left c u running)
  · obtain ⟨rest, lines, has⟩ : Kept false State.PortsRest s u ∧ Kept true State.LinesAgree s u ∧
        ∀ n p, (u.port p).pending.has n = (s.port p).pending.has n :=
      stored ▸ withPort_parts rfl (fun _ => id) fun _ => id
    have events : Kept true State.EventsFollow s u := by
      refine ⟨stored ▸ rfl, fun _ h p => (has _ p).trans ((h p).trans ?_)⟩
      rw [← stored]
      rfl
    have sync := left c u running
    obtain ⟨frame, kept⟩ := unsubscribeIf_frame c q u
    generalize (if c = true then Machine.unsubscribe q u else u) = v at sync frame kept
    refine ⟨(rest.trans sync.rest).trans (Kept.rest_setNotice ..), (lines.trans sync.lines).trans (Kept.lines_setNotice ..),
      (events.trans sync.events).trans (Kept.events_setNotice (by decide) ..), ⟨?_, fun _ h p => ?_⟩⟩
    · rw [← (rest.trans sync.rest).running]
      exact setNotice_running ..
    · have after : NoticeFrame v (syncTallyDue q v) := syncTallyDue_frame q v
      obtain ⟨-, -, self, -, elsewhere⟩ := setNotice_spec q .tallyDue ((v.dueTallies &&& (v.port q).readMask) != 0) v
      rw [after.dueTallies, after.2.readMask]
      by_cases e : p = q
      · subst e
        exact self (by rw [sync.rest.running, running])
      · have there : (syncTallyDue q v).port p = v.port p := elsewhere p e
        rw [there, kept _ (by decide), has, frame.dueTallies, frame.2.readMask, h p, ← stored,
          State.port_withPort_other _ _ e]
        rfl

/-! ### Every operation -/

theorem setDue (i : Fin 12) (v : Nat) (s : State) :
    AttentionKept s (evaluateDue false i (s.withEntry i { s.entry i with dueValue := v })) := by
  have stored : AttentionKept s (s.withEntry i { s.entry i with dueValue := v }) := ports.withEntry rfl
  exact stored.trans (ports.due ..)

theorem resetFirstOut (crew : Nat) (s : State) :
    AttentionKept s (handInput inputFirstOut false (produce false (.firstOutReset crew)
      (s.withTrip { s.trip with latch := .armed, latchingBurst := 0, ranked := [], overflow := 0 }))) :=
  (ports.withTrip ..).trans ((ports.produce ..).trans (ports.handInput ..))

theorem operations : OperationRules AttentionSafe where
  refl _ := ⟨id⟩
  trans h k := ⟨k.safe ∘ h.safe⟩
  answer _ _ _ h := (answer h).safe
  notice p n on s events due := (ports.notice p n on s ⟨events, due⟩).safe
  clear p mask _ run := (clearNotices p mask run).safe
  enables p set style _ run := (setEnables p set style run).safe
  alarm p a s := (setAlarm p a s).safe
  gap p s := (endPulseGap p s).safe
  rights q r m _ run _ _ := (storeRights q r m run).safe
  freeIndex _ _ := (of_ports (by rfl) (by rfl) (fun _ => by rfl) (by rfl)).safe
  record i o b s := (ports.record i o b s).safe
  mode _ _ := (of_ports (by rfl) (by rfl) (fun _ => by rfl) (by rfl)).safe
  deliver p k _ run := (deliver p k run).safe
  join p s := (joinSubscription p s).safe
  unsubscribe p _ run := (unsubscribe p run).safe
  configure i c s _ := (ports.configureTally i c s).safe
  due i v s _ := (setDue i v s).safe
  stagePreset _ _ _ _ _ _ := (ports.withEntry (by rfl)).safe
  preset _ _ _ _ _ _ := (ports.applyPreset ..).safe
  complete i s := (ports.completeIfQualified i s).safe
  count s := (ports.tallyBoundary s).safe
  quiet _ _ := (ports.withTrip ..).safe
  closeBurst s := (ports.closeBurst Notice.free_firstOut s).safe
  resetFirstOut crew s _ _ _ := (resetFirstOut crew s).safe
  acknowledge _ _ := (ports.withTrip ..).safe
  write _ _ _ _ _ := (ports.writeEntry Notice.free_firstOut ..).safe
  sample _ _ _ := (ports.sampleLine ..).safe
  debounce _ _ := (ports.expireDebounce Notice.free_firstOut ..).safe
  window _ _ := (ports.expireWindow ..).safe
  stability _ _ := (ports.expireStability Notice.free_firstOut ..).safe
  keepRota _ _ _ := (ports.withDuty ..).safe
  applyRota _ _ := (ports.applyRota ..).safe
  take _ _ _ _ _ _ _ _ := (ports.takeDuty Notice.free_handover ..).safe
  accept _ _ _ _ _ _ _ _ := (ports.acceptHandover Notice.free_handover ..).safe
  openHandover _ _ _ := (ports.withDuty ..).safe
  release _ _ _ := (ports.withDuty ..).safe
  reclaim _ _ := (ports.withDuty ..).safe
  handoverSettings _ _ _ _ := (ports.withDuty ..).safe
  served _ _ := (ports.withDuty ..).safe
  releaseDeadline _ _ := (ports.expireRelease Notice.free_handover ..).safe
  acceptDeadline _ _ := (ports.expireAccept Notice.free_handover ..).safe
  slots _ _ := (ports.checkSlots Notice.free_handover ..).safe
  quality _ _ := (ports.moveQuality Notice.free_quality ..).safe
  unstage _ := (ports.withTime ..).safe
  stage _ _ _ _ _ _ := (ports.withTime ..).safe
  rewrite _ _ _ _ _ := (ports.rewriteTime ..).safe
  stagedSet x s _ := (trans (ports.withTime s _) (ports.rewriteTime x.date x.ms (discardStaged s))).safe
  discipline _ _ _ := (ports.withDiscipline ..).safe
  advance _ := (ports.advanceClock _).safe
  elapse _ _ := (of_ports (by rfl) (by rfl) (fun _ => by rfl) (by rfl)).safe
  boundary _ := (of_ports (by rfl) (by rfl) (fun _ => by rfl) (by rfl)).safe
  supply _ _ h := (of_ports (by rfl) h (fun _ => by rfl) (by rfl)).safe

end AttentionKept

/-! ### The supply -/

theorem NoticeSet.has_levelNotices (s : State) (p : Port) :
    (s.levelNotices p).has .events = !(s.queue.stream p).isEmpty ∧
      (s.levelNotices p).has .tallyDue = ((s.dueTallies &&& (s.port p).readMask) != 0) ∧
      (s.levelNotices p).has .alarm = s.alarmHolds p ∧
      ∀ n, n ≠ .events → n ≠ .tallyDue → n ≠ .alarm → (s.levelNotices p).has n = false := by
  unfold State.levelNotices
  dsimp only
  refine ⟨?_, ?_, ?_, fun n events due alarm => ?_⟩
  · rw [NoticeSet.has_putBit_other _ _ (by decide), NoticeSet.has_putBit_other _ _ (by decide), NoticeSet.has_putBit_self]
  · rw [NoticeSet.has_putBit_other _ _ (by decide), NoticeSet.has_putBit_self]
  · rw [NoticeSet.has_putBit_self]
  · rw [NoticeSet.has_putBit_other _ _ alarm, NoticeSet.has_putBit_other _ _ due, NoticeSet.has_putBit_other _ _ events]
    cases n <;> rfl

/-- The unit of a port at the return (R167, R168). -/
def State.returnedUnit (pins : AddressPins) (p : Port) (s : State) : PortUnit :=
  let u := { s.port p with address := addressOfPin (pinOf pins p), pending := s.levelNotices p }
  { u with line := plainLine u.wanted }

theorem returnPorts_port (pins : AddressPins) (s : State) (p : Port) :
    (atAllPorts (returnPort pins) s).port p = s.returnedUnit pins p :=
  atAllPorts_withPort (f := State.returnedUnit pins) (fun q r u s h => by
    have port : (s.withPort r u).port q = s.port q := s.port_withPort_other u h.symm
    have level : (s.withPort r u).levelNotices q = s.levelNotices q := by
      have alarm := alarmHolds_congr (t := s.withPort r u) (s := s) rfl q (by rw [port])
      unfold State.levelNotices
      rw [alarm, port]
      rfl
    unfold State.returnedUnit
    rw [port, level]) s p

/-- The return evaluates every level notice and drives every line (R167). -/
theorem attentionOk_returnPorts (pins : AddressPins) (s : State) (run : s.running = true) :
    AttentionOk (atAllPorts (returnPort pins) s) := by
  have has := NoticeSet.has_levelNotices s
  refine ⟨fun _ => ⟨fun p => ?_, fun p => ?_, fun p => ?_⟩, fun r => absurd (run.symm.trans r) nofun⟩ <;>
    rw [returnPorts_port]
  · exact plainLine_fits _ _
  · exact (has p).1
  · exact (has p).2.1

/-- The supply monitor in RUN at a return (R183). -/
def State.returned (s : State) (pins : AddressPins) : State :=
  s.withSupply { s.supply with state := .run, qualification := none, addressPins := pins }

theorem returnStages_eq (cause : PowerCause) (pins : AddressPins) (s : State) :
    returnStages cause pins s =
      dutyCheck true (pointRestore (tallyRestore (producePower cause (atAllPorts (returnPort pins) (s.returned pins))))) := rfl

theorem State.returned_running (s : State) (pins : AddressPins) : (s.returned pins).running = true := by
  simp [State.running, State.returned]

theorem attentionOk_returnStages (cause : PowerCause) (pins : AddressPins) (s : State) :
    AttentionOk (returnStages cause pins s) := by
  have ports := attentionOk_returnPorts pins (s.returned pins) (s.returned_running pins)
  have kept := AttentionKept.ports.returnBlocks Notice.free_handover cause (atAllPorts (returnPort pins) (s.returned pins))
  rw [returnStages_eq]
  exact kept.safe.safe ports

theorem closePorts_port (s : State) (p : Port) : (atAllPorts closePort s).port p = (s.port p).close :=
  atAllPorts_withPort (f := fun p s => (s.port p).close) (fun p q u s h => by rw [State.port_withPort_other _ _ h.symm]) s p

/-- In BACKUP nothing is pending and every line is inactive (R167). -/
theorem attentionOk_mainLoss (order : ClosingOrder) (low : Bool) {s : State} (run : s.running = true) :
    AttentionOk (mainLoss order low s) := by
  unfold mainLoss
  rw [if_pos run]
  refine ⟨nofun, fun _ p => ?_⟩
  show ((atAllPorts closePort _).port p).pending = 0 ∧ ((atAllPorts closePort _).port p).line = .inactive
  rw [closePorts_port]
  exact ⟨rfl, rfl⟩

theorem attentionSafe_commands : CommandRules AttentionSafe where
  toOperationRules := AttentionKept.operations
  mainLoss order low s := by
    refine ⟨fun h => ?_⟩
    cases run : s.running with
    | true => exact attentionOk_mainLoss order low run
    | false =>
      have same : mainLoss order low s = s := by simp [mainLoss, run]
      rw [same]
      exact h
  restart cause pins order s _ := ⟨fun _ => attentionOk_returnStages cause pins (closingActions order s)⟩
  outage pins high s _ :=
    ⟨fun _ => attentionOk_returnStages .outage pins (s.withSupply (s.supply.sawReset high s.elapsed))⟩
  cold pins high s :=
    ⟨fun _ => attentionOk_returnStages .cold pins (State.cold s.lines pins high s.freeIndex s.pending)⟩

/-- Settles O10: the lines and the level notices across every operation; a return evaluates them anew, whatever stood before. -/
theorem stepKeepsAttentionWithTheNotices : Obligations.StepKeepsAttentionWithTheNotices := by
  intro s t follows h
  unfold step at h
  split at h
  · cases h
    exact follows
  · refine (attentionFollows_iff_ok t).2 ((attentionSafe_commands.exec _ h).safe ?_)
    exact (attentionFollows_iff_ok _).1 follows

end Sys2Proof.Machine
end

section
/-!
SUPPORT. What the operations of the tally unit make of a tally: one equation for each operation, and one for each evaluation of every
tally.
-/

namespace Sys2Proof.Machine

/-! ### One tally -/

/-- Every tally but `i`, the inputs and the pause are as they were. -/
structure OnlyTally (i : Fin 12) (s t : State) : Prop where
  other : ∀ j, j ≠ i → t.entry j = s.entry j
  inputs : t.tally.inputs = s.tally.inputs
  paused : t.tally.paused = s.tally.paused

theorem NoticeFrame.tally_eq {s t : State} (h : NoticeFrame s t) : t.tally = s.tally := by rw [h.1]

theorem NoticeFrame.entry {s t : State} (h : NoticeFrame s t) (i : Fin 12) : t.entry i = s.entry i := by
  simp only [State.entry, h.tally_eq]

namespace OnlyTally

variable {i : Fin 12} {s t : State}

theorem refl (s : State) : OnlyTally i s s := ⟨fun _ _ => rfl, rfl, rfl⟩

theorem trans {u : State} (h : OnlyTally i s t) (k : OnlyTally i t u) : OnlyTally i s u :=
  ⟨fun j e => (k.other j e).trans (h.other j e), k.inputs.trans h.inputs, k.paused.trans h.paused⟩

theorem withEntry (i : Fin 12) (s : State) (x : Tally) : OnlyTally i s (s.withEntry i x) :=
  ⟨fun _ e => s.entry_withEntry_other x e, rfl, rfl⟩

theorem of_notice (h : NoticeFrame s t) : OnlyTally i s t :=
  ⟨fun j _ => h.entry j, by rw [h.tally_eq], by rw [h.tally_eq]⟩

end OnlyTally

theorem compare_frame (s : State) : NoticeFrame s (atAllPorts syncTallyDue s) :=
  atAllPorts_keeps (fun p _ h => h.trans (syncTallyDue_frame p _)) (.refl s)

/-- A tally with due pending evaluated (R113). -/
def Tally.compared (x : Tally) : Tally := { x with duePending := x.dueHolds }

section Entries

variable (o : Bool) (i : Fin 12) (s : State)

theorem evaluateDue_only : OnlyTally i s (evaluateDue o i s) := by
  unfold evaluateDue
  dsimp only
  split
  · exact .refl s
  · exact (OnlyTally.withEntry i s _).trans (.of_notice ((produceIf_frame ..).trans (compare_frame _)))

theorem evaluateDue_entry : (evaluateDue o i s).entry i = (s.entry i).compared := by
  unfold evaluateDue
  dsimp only
  split
  · next same => rw [Tally.compared, same]
  · rw [((produceIf_frame ..).trans (compare_frame _)).entry, State.entry_withEntry_self]
    rfl

/-! ### Presets and runs -/

/-- A tally with a preset applied (R116). -/
def Tally.preset (x : Tally) (y : StagedPreset) : Tally :=
  { x with
    lifetime := y.lifetime, starts := y.starts, presetFlag := true, staged := none
    duePending := x.config.dueEnable && decide (x.dueValue ≤ y.lifetime) }

theorem applyPreset_only (x : StagedPreset) : OnlyTally i s (applyPreset o i x s) :=
  (OnlyTally.withEntry ..).trans ((OnlyTally.of_notice (produce_frame ..)).trans
    ((evaluateDue_only ..).trans (OnlyTally.withEntry ..)))

theorem applyPreset_entry (x : StagedPreset) : (applyPreset o i x s).entry i = (s.entry i).preset x := by
  unfold applyPreset
  dsimp only
  rw [State.entry_withEntry_self, evaluateDue_entry, (produce_frame ..).entry, State.entry_withEntry_self]
  rfl

theorem completeQualification_only : OnlyTally i s (completeQualification o i s) :=
  (OnlyTally.withEntry ..).trans ((OnlyTally.of_notice (produceIf_frame ..)).trans (evaluateDue_only ..))

/-- R111: an addition that saturates a count, in the words of `Tally.started`. -/
theorem saturates_one (limit n : Nat) : saturates limit n 1 = decide (limit ≤ n) := by
  unfold saturates
  rw [Bool.eq_iff_iff]
  simp
  omega

theorem saturates_iff (limit n more : Nat) : saturates limit n more = decide (limit < n + more ∨ n = limit) := by
  unfold saturates
  rw [Bool.eq_iff_iff]
  simp

theorem completeQualification_entry :
    (completeQualification o i s).entry i = (s.entry i).started (s.entry i).qualifyCount := by
  unfold completeQualification
  dsimp only
  rw [evaluateDue_entry, (produceIf_frame ..).entry, State.entry_withEntry_self]
  simp only [Tally.compared, Tally.started, Tally.countStart, Tally.credit, Tally.dueHolds, saturates_one,
    saturates_iff lifetimeMax, saturates_iff shiftPortionMax]
  rfl

theorem enterQualifying_only : OnlyTally i s (enterQualifying o i s) := by
  unfold enterQualifying
  dsimp only
  split
  · exact (OnlyTally.withEntry ..).trans (completeQualification_only ..)
  · exact .withEntry ..

/-- A tally that enters QUALIFYING (R106). -/
def Tally.entered (x : Tally) : Tally :=
  if x.config.qualifyTime = 0 then x.started 0 else { x with run := .qualifying, qualifyCount := 0 }

theorem enterQualifying_entry : (enterQualifying o i s).entry i = (s.entry i).entered := by
  unfold enterQualifying Tally.entered
  dsimp only
  split
  · rw [completeQualification_entry, State.entry_withEntry_self]
    rfl
  · exact State.entry_withEntry_self ..

theorem applyStagedPreset_only : OnlyTally i s (applyStagedPreset o i s) := by
  unfold applyStagedPreset
  split
  · exact .refl s
  · exact applyPreset_only ..

/-- A tally whose run ends (R110). -/
def Tally.ended (x : Tally) : Tally :=
  match x.staged with
  | none => { x with run := .idle, runLength := 0 }
  | some y => { x.preset y with run := .idle, runLength := 0 }

theorem endRun_only : OnlyTally i s (endRun o i s) :=
  (OnlyTally.of_notice (produceIf_frame ..)).trans ((applyStagedPreset_only ..).trans (OnlyTally.withEntry ..))

theorem endRun_entry : (endRun o i s).entry i = (s.entry i).ended := by
  unfold endRun Tally.ended applyStagedPreset
  dsimp only
  rw [State.entry_withEntry_self, (produceIf_frame ..).entry]
  cases h : (s.entry i).staged with
  | none =>
    dsimp only
    rw [(produceIf_frame ..).entry, ← h]
  | some y =>
    dsimp only
    rw [applyPreset_entry, (produceIf_frame ..).entry]

/-- A tally whose condition is evaluated (table of R103). -/
def Tally.evaluated (x : Tally) (holds : Bool) : Tally :=
  match x.run, holds with
  | .idle, true => x.entered
  | .qualifying, false => { x with run := .idle, qualifyCount := 0 }
  | .running, false => x.ended
  | _, _ => x

theorem evaluateTally_only : OnlyTally i s (evaluateTally o i s) := by
  unfold evaluateTally
  split
  · exact enterQualifying_only ..
  · exact .withEntry ..
  · exact endRun_only ..
  · exact .refl s

theorem evaluateTally_entry : (evaluateTally o i s).entry i = (s.entry i).evaluated (s.condition i) := by
  unfold evaluateTally Tally.evaluated
  cases (s.entry i).run <;> cases s.condition i
  · rfl
  · exact enterQualifying_entry ..
  · exact State.entry_withEntry_self ..
  · rfl
  · exact endRun_entry ..
  · rfl

theorem completeIfQualified_only : OnlyTally i s (completeIfQualified i s) := by
  unfold completeIfQualified
  split
  · exact completeQualification_only ..
  · exact .refl s

variable {s} in
theorem completeIfQualified_entry (unpaused : s.tally.paused = false) : (completeIfQualified i s).entry i =
    if (s.entry i).qualified then (s.entry i).started (s.entry i).qualifyCount else s.entry i := by
  unfold completeIfQualified
  rw [unpaused]
  cases (s.entry i).qualified
  · rfl
  · exact completeQualification_entry ..

theorem countBoundary_only : OnlyTally i s (countBoundary i s) := by
  unfold countBoundary
  dsimp only
  split
  · exact .refl s
  · exact (OnlyTally.withEntry ..).trans (completeIfQualified_only ..)
  · exact (OnlyTally.withEntry ..).trans (evaluateDue_only ..)

variable {s} in
theorem countBoundary_entry (unpaused : s.tally.paused = false) : (countBoundary i s).entry i = (s.entry i).counted := by
  unfold countBoundary Tally.counted
  dsimp only
  cases run : (s.entry i).run with
  | idle => rfl
  | qualifying =>
    dsimp only
    rw [completeIfQualified_entry i (by exact unpaused), State.entry_withEntry_self]
    simp only [Tally.qualified, beq_self_eq_true, Bool.true_and, decide_eq_true_eq]
    rfl
  | running =>
    dsimp only
    rw [evaluateDue_entry, State.entry_withEntry_self]
    simp only [Tally.compared, Tally.credit, Tally.dueHolds, saturates_one, run]
    rfl

theorem restoreTally_only : OnlyTally i s (restoreTally i s) := (evaluateTally_only ..).trans (evaluateDue_only ..)

/-- The table of R121 is that of R103 with due pending evaluated after it. -/
theorem Tally.restored_eq (x : Tally) (holds : Bool) : x.restored holds = (x.evaluated holds).compared := by
  obtain ⟨config, dueValue, run, qualifyCount, runLength, lifetime, starts, shiftPortion, shiftStarts, duePending, presetFlag,
    saturatedFlag, staged⟩ := x
  unfold Tally.restored Tally.evaluated Tally.entered Tally.ended
  cases run <;> cases holds <;> cases staged <;> dsimp only
  case idle.true.none | idle.true.some => split <;> rfl
  all_goals rfl

theorem restoreTally_entry : (restoreTally i s).entry i = (s.entry i).restored (s.condition i) := by
  rw [Tally.restored_eq]
  exact (evaluateDue_entry ..).trans (congrArg Tally.compared (evaluateTally_entry ..))

theorem closeTally_only : OnlyTally i s (closeTally i s) := by
  unfold closeTally
  split
  · exact .withEntry ..
  · exact .refl s

theorem closeTally_entry : (closeTally i s).entry i = (s.entry i).closed := by
  unfold closeTally Tally.closed
  split
  · exact State.entry_withEntry_self ..
  · rfl

/-! ### SET_TALLY -/

/-- A tally with a configuration stored, a qualification that it completes, and its condition and due pending evaluated (R105). -/
def Tally.configured (x : Tally) (c : TallyConfig) (holds : Bool) : Tally :=
  let y := { x with config := c }
  ((if y.qualified then y.started y.qualifyCount else y).evaluated holds).compared

theorem configureTally_only (c : TallyConfig) : OnlyTally i s (configureTally i c s) := by
  have completed (d : Bool) (t : State) : OnlyTally i t (if d then completeQualification false i t else t) := by
    cases d
    · exact .refl t
    · exact completeQualification_only ..
  exact (OnlyTally.withEntry ..).trans ((completed ..).trans ((evaluateTally_only ..).trans (evaluateDue_only ..)))

theorem configureTally_entry (c : TallyConfig) :
    (configureTally i c s).entry i = (s.entry i).configured c (c.holds s.tally.inputs) := by
  unfold configureTally Tally.configured
  dsimp only
  rw [evaluateDue_entry, evaluateTally_entry, State.entry_withEntry_self]
  have config (x : Tally) (k : Nat) : (x.started k).config = x.config := rfl
  unfold State.condition
  split
  · rw [completeQualification_entry, (completeQualification_only ..).inputs, State.entry_withEntry_self]
    rfl
  · rw [State.entry_withEntry_self]
    rfl

end Entries

/-! ### Every tally -/

/-- An action at every tally that makes `g` of each tally it acts on, under a condition that it keeps. -/
theorem atAllTallies_entry {f : Fin 12 → State → State} {g : Fin 12 → Tally → Tally} {inputs : BitVec 36} {paused : Bool}
    (only : ∀ i s, OnlyTally i s (f i s))
    (own : ∀ i s, s.tally.inputs = inputs → s.tally.paused = paused → (f i s).entry i = g i (s.entry i))
    {s : State} (hinputs : s.tally.inputs = inputs) (hpaused : s.tally.paused = paused) :
    (∀ i, (atAllTallies f s).entry i = g i (s.entry i)) ∧ (atAllTallies f s).tally.inputs = inputs ∧
      (atAllTallies f s).tally.paused = paused := by
  have fold (l : List (Fin 12)) (nodup : l.Nodup) (t : State) (ht : t.tally.inputs = inputs) (pt : t.tally.paused = paused) :
      (∀ i, (l.foldl (fun s i => f i s) t).entry i = if i ∈ l then g i (t.entry i) else t.entry i) ∧
        (l.foldl (fun s i => f i s) t).tally.inputs = inputs ∧ (l.foldl (fun s i => f i s) t).tally.paused = paused := by
    induction l generalizing t with
    | nil => exact ⟨fun i => by simp, ht, pt⟩
    | cons j l ih =>
      obtain ⟨fresh, nodup⟩ := List.nodup_cons.1 nodup
      have step := only j t
      obtain ⟨entries, rest⟩ := ih nodup (f j t) (step.inputs.trans ht) (step.paused.trans pt)
      refine ⟨fun i => ?_, rest⟩
      rw [List.foldl_cons, entries]
      by_cases e : i = j
      · subst e
        simp [fresh, own i t ht pt]
      · simp [e, step.other i e]
  obtain ⟨entries, rest⟩ := fold (List.finRange 12) (List.nodup_finRange 12) s hinputs hpaused
  refine ⟨fun i => ?_, rest⟩
  rw [atAllTallies, entries, if_pos (List.mem_finRange i)]

theorem atAllTallies_evaluate (o : Bool) (s : State) :
    (∀ i, (atAllTallies (evaluateTally o) s).entry i =
        (s.entry i).evaluated ((s.entry i).config.holds s.tally.inputs)) ∧
      (atAllTallies (evaluateTally o) s).tally.inputs = s.tally.inputs ∧
      (atAllTallies (evaluateTally o) s).tally.paused = s.tally.paused := by
  refine atAllTallies_entry (g := fun _ x => x.evaluated (x.config.holds s.tally.inputs)) (evaluateTally_only o)
    (fun i t inputs _ => ?_) rfl rfl
  rw [evaluateTally_entry, State.condition, inputs]

/-- A bit that has its value already. -/
theorem putBit_same {w : Nat} {b : BitVec w} {k : Nat} {v : Bool} (hk : k < w) (h : b.getLsbD k = v) : putBit b k v = b := by
  refine BitVec.eq_of_getLsbD_eq fun j _ => ?_
  by_cases e : j = k
  · subst e
    rw [getLsbD_putBit_self _ _ _ hk, h]
  · exact getLsbD_putBit_other _ _ e

/-- R102, R103: a changed input is stored, and every tally is evaluated over the inputs as they now stand. -/
theorem handInput_tally {k : Nat} {v : Bool} {s : State} (unpaused : s.tally.paused = false)
    (changed : s.tally.inputs.getLsbD k ≠ v) :
    (∀ i, (handInput k v s).entry i =
        (s.entry i).evaluated ((s.entry i).config.holds (putBit s.tally.inputs k v))) ∧
      (handInput k v s).tally.inputs = putBit s.tally.inputs k v ∧ (handInput k v s).tally.paused = false := by
  unfold handInput
  rw [if_neg (by simpa [unpaused] using changed)]
  obtain ⟨entries, inputs, paused⟩ :=
    atAllTallies_evaluate false (s.withTally { s.tally with inputs := putBit s.tally.inputs k v })
  refine ⟨fun i => ?_, ?_, ?_⟩
  · rw [entries]
    rfl
  · rw [inputs]
    rfl
  · rw [paused]
    exact unpaused

theorem handInput_inputs {k : Nat} (v : Bool) {s : State} (hk : k < 36) (unpaused : s.tally.paused = false) :
    (handInput k v s).tally.inputs = putBit s.tally.inputs k v := by
  by_cases same : s.tally.inputs.getLsbD k = v
  · rw [handInput_same k v s (.inr same), putBit_same hk same]
  · exact (handInput_tally unpaused same).2.1

theorem handInput_paused (k : Nat) (v : Bool) (s : State) : (handInput k v s).tally.paused = s.tally.paused := by
  cases paused : s.tally.paused with
  | true => rw [handInput_same k v s (.inl paused), paused]
  | false =>
    by_cases same : s.tally.inputs.getLsbD k = v
    · rw [handInput_same k v s (.inr same), paused]
    · exact (handInput_tally paused same).2.2

/-- Every tally counts a boundary of an unpaused unit (R109). -/
theorem tallyBoundary_tally {s : State} (unpaused : s.tally.paused = false) :
    (∀ i, (tallyBoundary s).entry i = (s.entry i).counted) ∧ (tallyBoundary s).tally.inputs = s.tally.inputs ∧
      (tallyBoundary s).tally.paused = false := by
  rw [tallyBoundary, unpaused, if_neg Bool.false_ne_true]
  exact atAllTallies_entry (g := fun _ x => x.counted) countBoundary_only (fun i t _ paused => countBoundary_entry i paused)
    rfl unpaused

theorem tallyClosing_tally (s : State) :
    (∀ i, (tallyClosing s).entry i = (s.entry i).closed) ∧ (tallyClosing s).tally.inputs = s.tally.inputs ∧
      (tallyClosing s).tally.paused = true := by
  obtain ⟨entries, inputs, -⟩ := atAllTallies_entry (s := s) (g := fun _ x => x.closed) closeTally_only
    (fun i t _ _ => closeTally_entry i t) rfl rfl
  unfold tallyClosing
  dsimp only
  generalize atAllTallies closeTally s = t at entries inputs ⊢
  exact ⟨entries, inputs, rfl⟩

/-- Every tally is restored over the inputs as they stand (R121). -/
theorem tallyRestore_tally (s : State) :
    (∀ i, (tallyRestore s).entry i = (s.entry i).restored ((s.entry i).config.holds s.presentInputs)) ∧
      (tallyRestore s).tally.inputs = s.presentInputs ∧ (tallyRestore s).tally.paused = false := by
  obtain ⟨entries, inputs, paused⟩ := atAllTallies_entry
    (s := s.withTally { s.tally with inputs := s.presentInputs, paused := false })
    (inputs := s.presentInputs) (paused := false) (g := fun _ x => x.restored (x.config.holds s.presentInputs)) restoreTally_only
    (fun i t inputs _ => by rw [restoreTally_entry, State.condition, inputs]) rfl rfl
  unfold tallyRestore
  dsimp only
  refine ⟨fun i => ?_, ?_, ?_⟩
  · rw [(compare_frame _).entry, entries]
    rfl
  · rw [(compare_frame _).tally_eq, inputs]
  · rw [(compare_frame _).tally_eq, paused]

end Sys2Proof.Machine
end

section
/-!
SUPPORT. A tally within its limits across the operations of the tally unit, and the inputs of the tally unit bit by bit.
-/

namespace Sys2Proof.Machine

/-! ### One tally within its limits -/

namespace Tally

/-- What `Tally.coherent` asks but for due pending. -/
structure Bounded (x : Tally) : Prop where
  qualify : x.run = .qualifying → x.qualifyCount < x.config.qualifyTime * 1000
  lifetime : x.lifetime ≤ lifetimeMax
  starts : x.starts ≤ startsMax
  portion : x.shiftPortion ≤ shiftPortionMax
  shiftStarts : x.shiftStarts ≤ count16Max
  dueValue : x.dueValue ≤ lifetimeMax
  staged : ∀ y, x.staged = some y → x.run = .running ∧ y.lifetime ≤ lifetimeMax ∧ y.starts ≤ startsMax

theorem coherent_iff (x : Tally) : x.coherent ↔ x.Bounded ∧ x.duePending = x.dueHolds :=
  ⟨fun ⟨qualify, lifetime, starts, portion, shiftStarts, dueValue, due, staged⟩ =>
    ⟨⟨qualify, lifetime, starts, portion, shiftStarts, dueValue, staged⟩, due⟩,
   fun ⟨⟨qualify, lifetime, starts, portion, shiftStarts, dueValue, staged⟩, due⟩ =>
    ⟨qualify, lifetime, starts, portion, shiftStarts, dueValue, due, staged⟩⟩

/-- The run state that the unit's pause and the condition of the tally ask (R103, R120). -/
def Follows (paused holds : Bool) (x : Tally) : Prop :=
  if paused then x.run ≠ .qualifying else (x.run = .idle ↔ holds = false)

theorem coherent.bounded {x : Tally} (h : x.coherent) : x.Bounded := (x.coherent_iff.1 h).1

namespace Bounded

variable {x : Tally} (h : x.Bounded)
include h

theorem compared : x.compared.coherent := by
  obtain ⟨qualify, lifetime, starts, portion, shiftStarts, dueValue, staged⟩ := h
  exact ⟨qualify, lifetime, starts, portion, shiftStarts, dueValue, rfl, staged⟩

theorem preset {y : StagedPreset} (run : x.run ≠ .qualifying) (hlife : y.lifetime ≤ lifetimeMax) (hstarts : y.starts ≤ startsMax) :
    (x.preset y).coherent :=
  ⟨fun q => absurd q run, hlife, hstarts, h.portion, h.shiftStarts, h.dueValue, rfl, nofun⟩

theorem closed : x.closed.Bounded := by
  unfold Tally.closed
  split
  · next qualifying =>
    exact ⟨nofun, h.lifetime, h.starts, h.portion, h.shiftStarts, h.dueValue,
      fun y staged => absurd (qualifying.symm.trans (h.staged y staged).1) nofun⟩
  · exact h

theorem started (k : Nat) : (x.started k).coherent :=
  ⟨nofun, Nat.min_le_left _ _, Nat.min_le_left _ _, Nat.min_le_left _ _, Nat.min_le_left _ _, h.dueValue, rfl,
    fun y staged => ⟨rfl, (h.staged y staged).2⟩⟩

theorem entered (idle : x.run = .idle) : x.entered.Bounded := by
  unfold Tally.entered
  split
  · exact (h.started 0).bounded
  · next time =>
    exact ⟨fun _ => by show 0 < x.config.qualifyTime * 1000; omega, h.lifetime, h.starts, h.portion, h.shiftStarts,
      h.dueValue, fun y staged => absurd (idle.symm.trans (h.staged y staged).1) nofun⟩

theorem ended : x.ended.Bounded := by
  unfold Tally.ended
  split
  · next none =>
    exact ⟨nofun, h.lifetime, h.starts, h.portion, h.shiftStarts, h.dueValue, fun y k => absurd (none.symm.trans k) nofun⟩
  · next y some =>
    obtain ⟨-, hlife, hstarts⟩ := h.staged y some
    exact ⟨nofun, hlife, hstarts, h.portion, h.shiftStarts, h.dueValue, nofun⟩

theorem evaluated (holds : Bool) : (x.evaluated holds).Bounded := by
  unfold Tally.evaluated
  split
  · next idle => exact h.entered idle
  · next qualifying =>
    exact ⟨nofun, h.lifetime, h.starts, h.portion, h.shiftStarts, h.dueValue,
      fun y staged => absurd (qualifying.symm.trans (h.staged y staged).1) nofun⟩
  · exact h.ended
  · exact h

end Bounded

theorem entered_due {x : Tally} (h : x.duePending = x.dueHolds) : x.entered.duePending = x.entered.dueHolds := by
  unfold entered
  split
  · rfl
  · exact h

theorem ended_due {x : Tally} (h : x.duePending = x.dueHolds) : x.ended.duePending = x.ended.dueHolds := by
  unfold ended
  split
  · exact h
  · rfl

theorem evaluated_due {x : Tally} (h : x.duePending = x.dueHolds) (holds : Bool) :
    (x.evaluated holds).duePending = (x.evaluated holds).dueHolds := by
  unfold evaluated
  split
  · exact entered_due h
  · exact h
  · exact ended_due h
  · exact h

namespace coherent

variable {x : Tally} (h : x.coherent)
include h

theorem not_qualified : x.qualified = false := by
  unfold qualified
  rw [Bool.and_eq_false_iff, decide_eq_false_iff_not, Nat.not_le]
  by_cases run : x.run = .qualifying
  · exact .inr (h.bounded.qualify run)
  · exact .inl (by simpa using run)

theorem due : x.duePending = x.dueHolds := (x.coherent_iff.1 h).2

theorem compared : x.compared = x := by
  rw [Tally.compared, ← h.due]

theorem evaluated (holds : Bool) : (x.evaluated holds).coherent :=
  (coherent_iff _).2 ⟨h.bounded.evaluated holds, evaluated_due h.due holds⟩

theorem restored (holds : Bool) : (x.restored holds).coherent := by
  rw [restored_eq]
  exact (h.evaluated holds).bounded.compared

theorem closed : x.closed.coherent := by
  refine (coherent_iff _).2 ⟨h.bounded.closed, ?_⟩
  have due := h.due
  unfold Tally.closed
  split <;> exact due

theorem counted : x.counted.coherent := by
  have held := h.bounded
  unfold Tally.counted
  split
  · exact h
  · next qualifying =>
    split
    · exact held.started _
    · next short =>
      exact ⟨fun _ => Nat.not_le.1 short, held.lifetime, held.starts, held.portion, held.shiftStarts, held.dueValue, h.due,
        held.staged⟩
  · exact ⟨held.qualify, Nat.min_le_left _ _, held.starts, Nat.min_le_left _ _, held.shiftStarts, held.dueValue, rfl, held.staged⟩

/-- SET_TALLY: a qualification that the new time completes is not left (R105). -/
theorem configured (c : TallyConfig) (holds : Bool) : (x.configured c holds).coherent := by
  have held := h.bounded
  have completed (y : Tally) (same : y = { x with config := c }) :
      (if y.qualified then y.started y.qualifyCount else y).Bounded := by
    have due : y.dueValue ≤ lifetimeMax := same ▸ held.dueValue
    have staged : ∀ z, y.staged = some z → y.run = .running ∧ z.lifetime ≤ lifetimeMax ∧ z.starts ≤ startsMax :=
      same ▸ held.staged
    split
    · exact ⟨nofun, Nat.min_le_left _ _, Nat.min_le_left _ _, Nat.min_le_left _ _, Nat.min_le_left _ _, due,
        fun z k => ⟨rfl, (staged z k).2⟩⟩
    · next short =>
      refine ⟨fun qualifying => Nat.not_le.1 fun full => short ?_, same ▸ held.lifetime, same ▸ held.starts, same ▸ held.portion,
        same ▸ held.shiftStarts, due, staged⟩
      rw [Tally.qualified, qualifying, decide_eq_true full]
      rfl
  exact ((completed _ rfl).evaluated holds).compared

end coherent

/-! ### The run state -/

theorem entered_run (x : Tally) : x.entered.run ≠ .idle := by
  unfold entered
  split <;> nofun

theorem ended_run (x : Tally) : x.ended.run = .idle := by
  unfold ended
  split <;> rfl

theorem evaluated_run (x : Tally) (holds : Bool) : (x.evaluated holds).run = .idle ↔ holds = false := by
  unfold evaluated
  cases run : x.run <;> cases holds <;> simp [run, ended_run, entered_run]

theorem evaluated_config (x : Tally) (holds : Bool) : (x.evaluated holds).config = x.config := by
  unfold evaluated entered ended
  cases x.run <;> cases holds <;> dsimp only
  · split <;> rfl
  · split <;> rfl

theorem configured_config (x : Tally) (c : TallyConfig) (holds : Bool) : (x.configured c holds).config = c := by
  unfold configured
  dsimp only
  rw [compared, evaluated_config]
  split <;> rfl

theorem counted_config (x : Tally) : x.counted.config = x.config := by
  unfold counted
  cases x.run <;> dsimp only
  split <;> rfl

theorem counted_run (x : Tally) : x.counted.run = .idle ↔ x.run = .idle := by
  unfold counted
  cases run : x.run <;> dsimp only
  · simp [run]
  · split <;> simp [started]
  · simp

theorem closed_run (x : Tally) : x.closed.run ≠ .qualifying := by
  unfold closed
  split
  · nofun
  · assumption

end Tally

end Sys2Proof.Machine
end

section
/-!
SUPPORT. The inputs of the tally unit bit by bit, and the tallies across every operation: a tally in its limits and in the run state of
its condition, and an input that stands as its owner has it but for those whose change is still to be handed over.
-/

namespace Sys2Proof.Machine

/-! ### The inputs as their owners have them -/

/-- A vector written bit by bit. -/
theorem getLsbD_foldl_putBit {w : Nat} (f : Fin w → Bool) (l : List (Fin w)) (b : BitVec w) (n : Fin w) :
    (l.foldl (fun v n => putBit v n.val (f n)) b).getLsbD n.val = if n ∈ l then f n else b.getLsbD n.val := by
  induction l generalizing b with
  | nil => simp
  | cons m l ih =>
    rw [List.foldl_cons, ih]
    by_cases same : n = m
    · subst same
      rw [getLsbD_putBit_self _ _ _ n.isLt]
      simp only [List.mem_cons_self, if_true, ite_self]
    · rw [getLsbD_putBit_other b (f m) fun e => same (Fin.ext e)]
      simp only [List.mem_cons, same, false_or]

theorem stateVector_getLsbD (s : State) (n : Fin 32) : s.stateVector.getLsbD n.val = (s.point n).active := by
  rw [State.stateVector, getLsbD_foldl_putBit, if_pos (List.mem_finRange n)]

/-- An input as its owner has it (R102). -/
def State.source (s : State) (k : Nat) : Bool :=
  if h : k < 32 then (s.point ⟨k, h⟩).active
  else if k = inputFirstOut then s.trip.latch != .armed
  else if k = inputLocked then s.time.quality == .locked
  else if k = inputDuty then s.duty.state != .vacant
  else s.trip.burst.isSome

theorem State.source_point (s : State) (n : Fin 32) : s.source n.val = (s.point n).active := by
  simp [source]

theorem State.source_firstOut (s : State) : s.source inputFirstOut = (s.trip.latch != .armed) := by
  simp [source, inputFirstOut]

theorem State.source_locked (s : State) : s.source inputLocked = (s.time.quality == .locked) := by
  simp [source, inputLocked, inputFirstOut]

theorem State.source_duty (s : State) : s.source inputDuty = (s.duty.state != .vacant) := by
  simp [source, inputDuty, inputLocked, inputFirstOut]

theorem State.source_burst (s : State) : s.source inputBurst = s.trip.burst.isSome := by
  simp [source, inputBurst, inputDuty, inputLocked, inputFirstOut]

theorem input_cases {k : Nat} (hk : k < 36) :
    k < 32 ∨ k = inputFirstOut ∨ k = inputLocked ∨ k = inputDuty ∨ k = inputBurst := by
  simp only [inputFirstOut, inputLocked, inputDuty, inputBurst]
  omega

theorem presentInputs_getLsbD (s : State) {k : Nat} (hk : k < 36) : s.presentInputs.getLsbD k = s.source k := by
  unfold State.presentInputs State.source
  dsimp only
  obtain low | rfl | rfl | rfl | rfl := input_cases hk
  · have burst : k ≠ inputBurst := by unfold inputBurst; omega
    have duty : k ≠ inputDuty := by unfold inputDuty; omega
    have locked : k ≠ inputLocked := by unfold inputLocked; omega
    have firstOut : k ≠ inputFirstOut := by unfold inputFirstOut; omega
    rw [getLsbD_putBit_other _ _ burst, getLsbD_putBit_other _ _ duty, getLsbD_putBit_other _ _ locked,
      getLsbD_putBit_other _ _ firstOut, BitVec.getLsbD_setWidth, dif_pos low, decide_eq_true hk, Bool.true_and]
    exact stateVector_getLsbD s ⟨k, low⟩
  · rw [getLsbD_putBit_other _ _ (by decide), getLsbD_putBit_other _ _ (by decide), getLsbD_putBit_other _ _ (by decide),
      getLsbD_putBit_self _ _ _ (by decide)]
    rfl
  · rw [getLsbD_putBit_other _ _ (by decide), getLsbD_putBit_other _ _ (by decide), getLsbD_putBit_self _ _ _ (by decide)]
    rfl
  · rw [getLsbD_putBit_other _ _ (by decide), getLsbD_putBit_self _ _ _ (by decide)]
    rfl
  · rw [getLsbD_putBit_self _ _ _ (by decide)]
    rfl

theorem State.source_congr {s t : State} {k : Nat} (hk : k < 36) (points : t.points = s.points)
    (latch : k = inputFirstOut → (t.trip.latch != .armed) = (s.trip.latch != .armed))
    (locked : k = inputLocked → (t.time.quality == .locked) = (s.time.quality == .locked))
    (duty : k = inputDuty → (t.duty.state != .vacant) = (s.duty.state != .vacant))
    (burst : k = inputBurst → t.trip.burst.isSome = s.trip.burst.isSome) : t.source k = s.source k := by
  obtain low | rfl | rfl | rfl | rfl := input_cases hk
  · simp only [source, dif_pos low, State.point, points]
  · rw [source_firstOut, source_firstOut, latch rfl]
  · rw [source_locked, source_locked, locked rfl]
  · rw [source_duty, source_duty, duty rfl]
  · rw [source_burst, source_burst, burst rfl]

theorem TallyFrame.source {s t : State} (h : TallyFrame s t) (k : Nat) : t.source k = s.source k := by
  rw [h.1]
  rfl

/-- A point written moves no input but its own. -/
theorem State.source_withPoint {n : Fin 32} {k : Nat} (s : State) (x : Point) (h : k ≠ n.val) :
    (s.withPoint n x).source k = s.source k := by
  have point (low : k < 32) : (s.withPoint n x).point ⟨k, low⟩ = s.point ⟨k, low⟩ :=
    s.point_withPoint_other x fun e => h (congrArg Fin.val e)
  unfold source
  split
  · rw [point]
  · rfl

theorem State.source_withPoint_same {n : Fin 32} (s : State) {x : Point} (h : x.active = (s.point n).active) (k : Nat) :
    (s.withPoint n x).source k = s.source k := by
  by_cases e : k = n.val
  · subst e
    rw [source_point, source_point, State.point_withPoint_self, h]
  · exact s.source_withPoint x e

/-! ### The tallies and their inputs -/

/-- Every tally in its limits and in the run state that the pause and its condition ask, and every input but those in `late` as its
owner has it, while the unit is not paused. -/
structure TalliesOk (paused run : Bool) (late : List Nat) (s : State) : Prop where
  within : ∀ i, (s.entry i).coherent
  follows : ∀ i, (s.entry i).Follows paused (s.condition i)
  inputs : paused = false → ∀ k < 36, k ∉ late → s.tally.inputs.getLsbD k = s.source k
  paused : s.tally.paused = paused
  running : s.running = run

theorem talliesFollow_iff (s : State) : TalliesFollow s ↔ TalliesOk (!s.running) s.running [] s := by
  unfold TalliesFollow
  cases run : s.running with
  | true =>
    constructor
    · rintro ⟨within, paused, inputs, follows⟩
      exact ⟨within, follows, fun _ k hk _ => by rw [inputs, presentInputs_getLsbD s hk], paused, run⟩
    · rintro ⟨within, follows, inputs, paused, -⟩
      refine ⟨within, paused, BitVec.eq_of_getLsbD_eq fun k hk => ?_, follows⟩
      rw [inputs rfl k hk (List.not_mem_nil), presentInputs_getLsbD s hk]
  | false =>
    constructor
    · rintro ⟨within, paused, follows⟩
      exact ⟨within, follows, nofun, paused, run⟩
    · rintro ⟨within, follows, -, paused, -⟩
      exact ⟨within, paused, follows⟩

namespace TalliesOk

variable {paused run : Bool} {late late' : List Nat} {s t : State}

/-- The tally unit is the same, and every input whose owner moved is late. -/
theorem moved (h : TalliesOk paused run late s) (tally : t.tally = s.tally) (running : t.running = s.running)
    (source : ∀ k < 36, k ∉ late' → t.source k = s.source k) (more : ∀ k ∈ late, k ∈ late') : TalliesOk paused run late' t := by
  have entry (i : Fin 12) : t.entry i = s.entry i := by simp only [State.entry, tally]
  refine ⟨fun i => ?_, fun i => ?_, fun still k hk there => ?_, ?_, running.trans h.running⟩
  · rw [entry]
    exact h.within i
  · rw [State.condition, entry, tally]
    exact h.follows i
  · rw [tally, source k hk there]
    exact h.inputs still k hk fun k' => there (more k k')
  · rw [tally]
    exact h.paused

/-- No input's owner moved. -/
theorem same (h : TalliesOk paused run late s) (tally : t.tally = s.tally) (running : t.running = s.running)
    (source : ∀ k, t.source k = s.source k) : TalliesOk paused run late t :=
  h.moved tally running (fun k _ _ => source k) fun _ => id

theorem notice (h : TalliesOk paused run late s) (frame : NoticeFrame s t) : TalliesOk paused run late t := by
  refine h.same frame.tally_eq ?_ frame.tally.source
  rw [frame.1]
  rfl

/-- One tally moves, and its inputs stand. -/
theorem only {i : Fin 12} (h : TalliesOk paused run late s) (frame : TallyFrame s t) (only : OnlyTally i s t)
    (within : (t.entry i).coherent) (follows : (t.entry i).Follows paused ((t.entry i).config.holds s.tally.inputs)) :
    TalliesOk paused run late t := by
  refine ⟨fun j => ?_, fun j => ?_, fun still k hk there => ?_, only.paused.trans h.paused, ?_⟩
  · by_cases e : j = i
    · exact e ▸ within
    · rw [only.other j e]
      exact h.within j
  · by_cases e : j = i
    · subst e
      rw [State.condition, only.inputs]
      exact follows
    · rw [State.condition, only.other j e, only.inputs]
      exact h.follows j
  · rw [only.inputs, frame.source]
    exact h.inputs still k hk there
  · rw [frame.1]
    exact h.running

/-- A changed input handed over is late no longer (R102, R103). -/
theorem handInput {k : Nat} {v : Bool} (h : TalliesOk paused run late' s) (hk : k < 36) (owner : s.source k = v)
    (rest : ∀ j ∈ late', j ≠ k → j ∈ late) : TalliesOk paused run late (handInput k v s) := by
  have frame := handInput_frame k v s
  cases paused with
  | true =>
    rw [handInput_same k v s (.inl h.paused)]
    exact ⟨h.within, h.follows, nofun, h.paused, h.running⟩
  | false =>
    have bits (j : Nat) (hj : j < 36) (there : j ∉ late) : (putBit s.tally.inputs k v).getLsbD j = s.source j := by
      by_cases e : j = k
      · subst e
        rw [getLsbD_putBit_self _ _ _ hk, owner]
      · rw [getLsbD_putBit_other _ _ e]
        exact h.inputs rfl j hj fun m => there (rest j m e)
    by_cases same : s.tally.inputs.getLsbD k = v
    · rw [handInput_same k v s (.inr same)]
      rw [putBit_same hk same] at bits
      exact ⟨h.within, h.follows, fun _ => bits, h.paused, h.running⟩
    · obtain ⟨entry, inputs, unpaused⟩ := handInput_tally h.paused same
      refine ⟨fun i => ?_, fun i => ?_, fun _ j hj there => ?_, unpaused, ?_⟩
      · rw [entry]
        exact (h.within i).evaluated _
      · have config : ((s.entry i).evaluated ((s.entry i).config.holds (putBit s.tally.inputs k v))).config =
            (s.entry i).config := Tally.evaluated_config ..
        rw [State.condition, entry, inputs, config]
        exact Tally.evaluated_run ..
      · rw [inputs, frame.source]
        exact bits j hj there
      · rw [frame.1]
        exact h.running

/-! ### The tally unit's own requests -/

/-- One tally moves in its limits, its run state and configuration kept. -/
theorem onlyRun {i : Fin 12} (h : TalliesOk paused run late s) (frame : TallyFrame s t) (only : OnlyTally i s t)
    (within : (t.entry i).coherent) (config : (t.entry i).config = (s.entry i).config) (state : (t.entry i).run = (s.entry i).run) :
    TalliesOk paused run late t := by
  refine h.only frame only within ?_
  have follows := h.follows i
  unfold Tally.Follows at follows ⊢
  rw [config, state]
  exact follows

theorem withEntry {i : Fin 12} {x : Tally} (h : TalliesOk paused run late s) (within : x.coherent)
    (config : x.config = (s.entry i).config) (state : x.run = (s.entry i).run) : TalliesOk paused run late (s.withEntry i x) := by
  refine h.onlyRun (.withEntry ..) (.withEntry ..) ?_ ?_ ?_ <;> rw [State.entry_withEntry_self] <;> assumption

theorem setDue (h : TalliesOk paused run late s) (i : Fin 12) {v : Nat} (hv : v ≤ lifetimeMax) :
    TalliesOk paused run late (evaluateDue false i (s.withEntry i { s.entry i with dueValue := v })) := by
  have entry : (evaluateDue false i (s.withEntry i { s.entry i with dueValue := v })).entry i =
      ({ s.entry i with dueValue := v } : Tally).compared := by
    rw [evaluateDue_entry, State.entry_withEntry_self]
  obtain ⟨qualify, lifetime, starts, portion, shiftStarts, -, staged⟩ := (h.within i).bounded
  refine h.onlyRun ((TallyFrame.withEntry ..).trans (evaluateDue_frame ..)) ((OnlyTally.withEntry ..).trans (evaluateDue_only ..))
    ?_ ?_ ?_ <;> rw [entry]
  · exact Tally.Bounded.compared ⟨qualify, lifetime, starts, portion, shiftStarts, hv, staged⟩
  · rfl
  · rfl

theorem stagePreset (h : TalliesOk paused run late s) {i : Fin 12} {x : StagedPreset} (running : (s.entry i).run = .running)
    (hlife : x.lifetime ≤ lifetimeMax) (hstarts : x.starts ≤ startsMax) :
    TalliesOk paused run late (s.withEntry i { s.entry i with staged := some x }) := by
  obtain ⟨qualify, lifetime, starts, portion, shiftStarts, dueValue, due, -⟩ := h.within i
  refine h.withEntry ⟨qualify, lifetime, starts, portion, shiftStarts, dueValue, due, fun y k => ?_⟩ rfl rfl
  obtain rfl : x = y := Option.some.inj k
  exact ⟨running, hlife, hstarts⟩

theorem applyPreset (h : TalliesOk paused run late s) {i : Fin 12} {x : StagedPreset} (o : Bool) (hlife : x.lifetime ≤ lifetimeMax)
    (hstarts : x.starts ≤ startsMax) : TalliesOk paused run late (applyPreset o i x s) := by
  refine h.onlyRun (applyPreset_frame ..) (applyPreset_only ..) ?_ ?_ ?_ <;> rw [applyPreset_entry]
  · have held := (h.within i).bounded
    exact ⟨held.qualify, hlife, hstarts, held.portion, held.shiftStarts, held.dueValue, rfl, nofun⟩
  · rfl
  · rfl

/-- No qualification is left to complete (R107; log entry 5). -/
theorem completeIfQualified (h : TalliesOk paused run late s) (i : Fin 12) : completeIfQualified i s = s := by
  simp [Machine.completeIfQualified, (h.within i).not_qualified]

theorem tallyBoundary (h : TalliesOk paused run late s) : TalliesOk paused run late (tallyBoundary s) := by
  have frame := tallyBoundary_frame s
  cases paused with
  | true =>
    have same : Machine.tallyBoundary s = s := by simp [Machine.tallyBoundary, h.paused]
    rw [same]
    exact h
  | false =>
    obtain ⟨entry, inputs, unpaused⟩ := tallyBoundary_tally h.paused
    refine ⟨fun i => ?_, fun i => ?_, fun _ j hj there => ?_, unpaused, ?_⟩
    · rw [entry]
      exact (h.within i).counted
    · have config : (s.entry i).counted.config = (s.entry i).config := Tally.counted_config _
      rw [State.condition, entry, inputs, config]
      exact (Tally.counted_run _).trans (h.follows i)
    · rw [inputs, frame.source]
      exact h.inputs rfl j hj there
    · rw [frame.1]
      exact h.running

theorem configureTally (h : TalliesOk false run late s) (i : Fin 12) (c : TallyConfig) :
    TalliesOk false run late (configureTally i c s) := by
  refine h.only (configureTally_frame ..) (configureTally_only ..) ?_ ?_ <;> rw [configureTally_entry]
  · exact (h.within i).configured _ _
  · rw [Tally.configured_config]
    exact Tally.evaluated_run _ _

theorem resetShift (h : TalliesOk paused run late s) (i : Fin 12) : TalliesOk paused run late (resetShift i s) := by
  obtain ⟨qualify, lifetime, starts, -, -, dueValue, due, staged⟩ := h.within i
  unfold Machine.resetShift
  refine h.withEntry ⟨qualify, lifetime, starts, Nat.zero_le _, Nat.zero_le _, dueValue, due, staged⟩ ?_ ?_ <;> rfl

end TalliesOk

end Sys2Proof.Machine
end

section
/-!
SUPPORT. The tallies and their inputs across every operation of the other blocks, and what follows at every step.
-/

namespace Sys2Proof.Machine

namespace TalliesOk

variable {paused run : Bool} {late : List Nat} {s t : State}

theorem allTallies {f : Fin 12 → State → State}
    (each : ∀ i t, TalliesOk paused run late t → TalliesOk paused run late (f i t)) (h : TalliesOk paused run late s) :
    TalliesOk paused run late (atAllTallies f s) := atAllTallies_keeps (fun i t k => each i t k) h

theorem allPoints {f : Fin 32 → State → State}
    (each : ∀ n t, TalliesOk paused run late t → TalliesOk paused run late (f n t)) (h : TalliesOk paused run late s) :
    TalliesOk paused run late (atAllPoints f s) := atAllPoints_keeps (fun n t k => each n t k) h

/-- An owner moved that owns no input but `k`: that input is late. -/
theorem late_of (h : TalliesOk paused run late s) (k : Nat) (tally : t.tally = s.tally) (running : t.running = s.running)
    (source : ∀ j < 36, j ≠ k → t.source j = s.source j) : TalliesOk paused run (k :: late) t :=
  h.moved tally running (fun j hj there => source j hj fun e => there (by simp [e])) fun _ m => List.mem_cons_of_mem _ m

/-! ### The points and the trip unit -/

/-- A point written whose debounced state stays. -/
theorem withPoint (h : TalliesOk paused run late s) {n : Fin 32} {x : Point} (active : x.active = (s.point n).active) :
    TalliesOk paused run late (s.withPoint n x) := h.same rfl rfl (s.source_withPoint_same active)

theorem withPointLate (h : TalliesOk paused run late s) (n : Fin 32) (x : Point) :
    TalliesOk paused run (n.val :: late) (s.withPoint n x) :=
  h.late_of n.val rfl rfl fun _ _ => s.source_withPoint x

theorem withTrip (h : TalliesOk paused run late s) {x : TripUnit} (latch : (x.latch != .armed) = (s.trip.latch != .armed))
    (burst : x.burst.isSome = s.trip.burst.isSome) : TalliesOk paused run late (s.withTrip x) :=
  h.moved (by rfl) (by rfl) (fun _ hk _ => State.source_congr hk rfl (fun _ => latch) (fun _ => rfl) (fun _ => rfl) fun _ => burst)
    fun _ => id

theorem withBurst (h : TalliesOk paused run late s) {x : TripUnit} (latch : (x.latch != .armed) = (s.trip.latch != .armed)) :
    TalliesOk paused run (inputBurst :: late) (s.withTrip x) :=
  h.late_of inputBurst (by rfl) (by rfl) fun _ hk other =>
    State.source_congr hk rfl (fun _ => latch) (fun _ => rfl) (fun _ => rfl) fun e => absurd e other

theorem withLatch (h : TalliesOk paused run late s) {x : TripUnit} (burst : x.burst.isSome = s.trip.burst.isSome) :
    TalliesOk paused run (inputFirstOut :: late) (s.withTrip x) :=
  h.late_of inputFirstOut (by rfl) (by rfl) fun _ hk other =>
    State.source_congr hk rfl (fun e => absurd e other) (fun _ => rfl) (fun _ => rfl) fun _ => burst

theorem producePoint (h : TalliesOk paused run late s) (n : Fin 32) (a : Bool) (c : ChangeCause) (i : Instant) (o : Bool) :
    TalliesOk paused run (inputBurst :: late) (producePoint n a c i o s) := by
  have latch : ((s.trip.onPointRecord s.elapsed).latch != .armed) = (s.trip.latch != .armed) := by
    unfold TripUnit.onPointRecord
    dsimp only
    split <;> rfl
  exact (h.withBurst latch).notice (produceAt_frame ..)

theorem raiseIf (h : TalliesOk paused run late s) (c : Bool) (n : Notice) :
    TalliesOk paused run late (if c then raiseAtAll n s else s) := by
  cases c
  · exact h
  · exact h.notice (raiseAtAll_frame ..)

theorem latchActivation (h : TalliesOk paused run [] s) (n : Nat) (i : Instant) :
    TalliesOk paused run [] (latchActivation n i s) := by
  unfold Machine.latchActivation
  split
  · refine ((h.withLatch ?_).notice (raiseAtAll_frame ..)).handInput (by decide) ?_ (by simp)
    · rfl
    · rw [(raiseAtAll_frame ..).tally.source, State.source_firstOut]
      rfl
  · exact (h.withTrip (by rfl) (by rfl)).raiseIf _ _
  · exact h

theorem takeTripChange (h : TalliesOk paused run [] s) (n : Fin 32) (a : Bool) (i : Instant) :
    TalliesOk paused run [] (takeTripChange n a i s) := by
  unfold Machine.takeTripChange
  dsimp only
  split
  · exact (h.withTrip (by rfl) (by rfl)).latchActivation _ _
  · exact h.withTrip (by rfl) (by rfl)

/-- A confirmed change hands over its own input and, where it gives a record, the burst that this opens (R51). -/
theorem confirmChange (h : TalliesOk paused run [] s) (n : Fin 32) (a : Bool) (c : ChangeCause) (i : Instant) (o : Bool) :
    TalliesOk paused run [] (confirmChange n a c i o s) := by
  unfold Machine.confirmChange setActive
  have changed := h.withPointLate n { s.point n with active := a }
  have owner : (s.withPoint n { s.point n with active := a }).source n.val = a := by
    rw [State.source_point, State.point_withPoint_self]
  generalize s.withPoint n { s.point n with active := a } = u at changed owner
  have low : n.val < 36 := by omega
  have apart : n.val ≠ inputBurst := by unfold inputBurst; omega
  have recorded : TalliesOk paused run [] (Machine.handInput inputBurst true
      (Machine.handInput n.val a (Machine.producePoint n a c i o u))) := by
    have opened : (Machine.producePoint n a c i o u).trip.burst.isSome = true := by
      rw [Machine.producePoint, (produceAt_frame ..).1]
      unfold TripUnit.onPointRecord
      dsimp only [State.withTrip]
      split <;> rfl
    have moved : (Machine.producePoint n a c i o u).source n.val = u.source n.val := by
      rw [Machine.producePoint, (produceAt_frame ..).tally.source]
      exact State.source_congr low rfl (fun e => absurd e (by unfold inputFirstOut; omega)) (fun _ => rfl) (fun _ => rfl)
        fun e => absurd e apart
    have own : TalliesOk paused run [inputBurst] (Machine.handInput n.val a (Machine.producePoint n a c i o u)) :=
      (changed.producePoint n a c i o).handInput low (moved.trans owner) (by simp)
    refine own.handInput (by decide) ?_ (by simp)
    rw [(handInput_frame ..).source, State.source_burst, opened]
  dsimp only
  split
  · exact changed.handInput low owner (by simp)
  · exact changed.handInput low owner (by simp)
  · exact recorded
  · exact recorded.takeTripChange n a i

theorem takeEdge (h : TalliesOk paused run late s) (n : Fin 32) : TalliesOk paused run late (takeEdge n s) := by
  unfold Machine.takeEdge
  dsimp only
  split
  · exact h.withPoint (by rfl)
  · exact h.withPoint (by rfl)
  · split
    · exact h
    · exact h.withPoint (by rfl)

theorem suppressPoint (h : TalliesOk paused run late s) (n : Fin 32) (k : Nat) : TalliesOk paused run late (suppressPoint n k s) :=
  (h.notice (produce_frame ..)).withPoint (by rfl)

theorem countChange (h : TalliesOk paused run [] s) (n : Fin 32) (a : Bool) (c : ChangeCause) (i : Instant) (o : Bool) :
    TalliesOk paused run [] (countChange n a c i o s) := by
  unfold Machine.countChange setChatter
  dsimp only
  split
  · exact h.confirmChange ..
  · split
    · exact TalliesOk.confirmChange (h.withPoint (by rfl)) ..
    · split
      · exact TalliesOk.confirmChange (h.withPoint (by rfl)) ..
      · exact h.suppressPoint ..
    · exact h

theorem expireDebounce (h : TalliesOk paused run [] s) (n : Fin 32) : TalliesOk paused run [] (expireDebounce n s) := by
  unfold Machine.expireDebounce cancelDebounce
  split
  · exact h
  · split
    · exact TalliesOk.countChange (h.withPoint (by rfl)) ..
    · exact h

theorem expireWindow (h : TalliesOk paused run late s) (n : Fin 32) : TalliesOk paused run late (expireWindow n s) := by
  unfold Machine.expireWindow
  split
  · split
    · exact h.withPoint (by rfl)
    · exact h
  · exact h

theorem releasePoint (h : TalliesOk paused run [] s) (n : Fin 32) (k : Nat) : TalliesOk paused run [] (releasePoint n k s) := by
  have released : TalliesOk paused run [] (setChatter n .clear (Machine.produce false (.chatter n.val .released k) s)) :=
    (h.notice (produce_frame ..)).withPoint (by rfl)
  unfold Machine.releasePoint
  dsimp only
  split
  · exact released
  · exact released.confirmChange ..

theorem expireStability (h : TalliesOk paused run [] s) (n : Fin 32) : TalliesOk paused run [] (expireStability n s) := by
  unfold Machine.expireStability
  split
  · split
    · exact h.releasePoint ..
    · exact h
  · exact h

theorem sampleLine (h : TalliesOk paused run late s) (n : Fin 32) (high : Bool) :
    TalliesOk paused run late (sampleLine n high s) := by
  have lines : TalliesOk paused run late { s with lines := putBit s.lines n.val high } := h.same rfl rfl fun _ => rfl
  unfold Machine.sampleLine
  split
  · exact h
  · dsimp only
    split
    · exact lines.takeEdge n
    · exact lines

theorem reportRelease (h : TalliesOk paused run late s) (o : Bool) (n : Fin 32) : TalliesOk paused run late (reportRelease o n s) := by
  unfold Machine.reportRelease
  split
  · exact h.notice (produce_frame ..)
  · exact h

theorem takeFresh (h : TalliesOk paused run [] s) (n : Fin 32) (e : PointEntry) : TalliesOk paused run [] (takeFresh n e s) := by
  unfold Machine.takeFresh
  refine ((h.reportRelease false n).withPointLate n _).handInput (by omega) ?_ (by simp)
  rw [State.source_point, State.point_withPoint_self]

theorem invertLine (h : TalliesOk paused run late s) (n : Fin 32) : TalliesOk paused run late (invertLine n s) := by
  unfold Machine.invertLine cancelDebounce
  split
  · exact h
  · exact TalliesOk.takeEdge (h.withPoint (by rfl)) n

theorem stopChatter (h : TalliesOk paused run [] s) (n : Fin 32) : TalliesOk paused run [] (stopChatter n s) := by
  unfold Machine.stopChatter
  split
  · exact h
  · exact h.withPoint (by rfl)
  · exact h.releasePoint ..

theorem applySettings (h : TalliesOk paused run [] s) (n : Fin 32) (e : PointEntry) :
    TalliesOk paused run [] (applySettings n e s) := by
  have stored : TalliesOk paused run [] (s.withPoint n { s.point n with entry := e }) := h.withPoint (by rfl)
  have inverted : TalliesOk paused run [] (if e.polarity = (s.point n).entry.polarity then
      s.withPoint n { s.point n with entry := e } else
        Machine.invertLine n (s.withPoint n { s.point n with entry := e })) := by
    split
    · exact stored
    · exact stored.invertLine n
  unfold Machine.applySettings
  dsimp only
  split
  · exact inverted.stopChatter n
  · exact inverted

theorem writeEntry (h : TalliesOk paused run [] s) (n : Fin 32) (e : PointEntry) : TalliesOk paused run [] (writeEntry n e s) := by
  unfold Machine.writeEntry
  split
  · exact h.applySettings ..
  · exact h.takeFresh ..

theorem finaliseFirstOut (h : TalliesOk paused run late s) : TalliesOk paused run late (finaliseFirstOut s) := by
  unfold Machine.finaliseFirstOut
  split
  · next latch =>
    have final : TalliesOk paused run late (s.withTrip { s.trip with latch := .final }) :=
      h.withTrip (by rw [latch]; rfl) (by rfl)
    exact final.notice ((produce_frame ..).trans (raiseAtAll_frame ..))
  · exact h

theorem closeBurst (h : TalliesOk paused run [] s) : TalliesOk paused run [] (closeBurst s) := by
  unfold Machine.closeBurst
  split
  · exact h
  · refine (h.finaliseFirstOut.withBurst ?_).handInput (by decide) ?_ (by simp)
    · rfl
    · rw [State.source_burst]
      rfl

theorem resetFirstOut (h : TalliesOk paused run [] s) (crew : Nat) :
    TalliesOk paused run [] (Machine.handInput inputFirstOut false (produce false (.firstOutReset crew)
      (s.withTrip { s.trip with latch := .armed, latchingBurst := 0, ranked := [], overflow := 0 }))) := by
  refine ((h.withLatch ?_).notice (produce_frame ..)).handInput (by decide) ?_ (by simp)
  · rfl
  · rw [(produce_frame ..).tally.source, State.source_firstOut]
    rfl

/-! ### The duty unit -/

theorem withDuty (h : TalliesOk paused run late s) {d : DutyUnit} (held : (d.state != .vacant) = (s.duty.state != .vacant)) :
    TalliesOk paused run late (s.withDuty d) :=
  h.moved (by rfl) (by rfl) (fun _ hk _ => State.source_congr hk rfl (fun _ => rfl) (fun _ => rfl) (fun _ => held) fun _ => rfl)
    fun _ => id

theorem withDutyLate (h : TalliesOk paused run late s) (d : DutyUnit) : TalliesOk paused run (inputDuty :: late) (s.withDuty d) :=
  h.late_of inputDuty (by rfl) (by rfl) fun _ hk other =>
    State.source_congr hk rfl (fun _ => rfl) (fun _ => rfl) (fun e => absurd e other) fun _ => rfl

theorem handDutyHeld (h : TalliesOk paused run [inputDuty] s) : TalliesOk paused run [] (handDutyHeld s) :=
  h.handInput (by decide) s.source_duty (by simp)

theorem applyRota (h : TalliesOk paused run late s) (o : Bool) : TalliesOk paused run late (applyRota o s) := by
  unfold Machine.applyRota
  split
  · exact h
  · exact (h.withDuty (by rfl)).notice (produce_frame ..)

theorem snapshot (h : TalliesOk paused run late s) (x y : Nat) (f : HandoverFields) :
    TalliesOk paused run late (snapshot x y f s) := by
  have book : TalliesOk paused run late (s.withBook (s.book.write (s.bookRecord x y f))) := h.same rfl rfl fun _ => rfl
  exact (book.withTrip (by rfl) (by rfl)).allTallies fun i _ k => k.resetShift i

theorem takeDuty (h : TalliesOk paused run [] s) (p : Port) (crew : Nat) : TalliesOk paused run [] (takeDuty p crew s) :=
  TalliesOk.handDutyHeld ((TalliesOk.snapshot (h.notice (produceHandover_frame ..)) ..).withDutyLate _)

theorem acceptHandover (h : TalliesOk paused run late s) (p : Port) (crew : Nat) (released : s.duty.state = .released) :
    TalliesOk paused run late (acceptHandover p crew s) := by
  refine (TalliesOk.withDuty (TalliesOk.snapshot (h.notice (produceHandover_frame ..)) ..) ?_).applyRota false
  have frame (u : State) (x y : Nat) (f : HandoverFields) : (Machine.snapshot x y f u).duty = u.duty := by
    rw [Machine.snapshot, (resetShifts_frame _).1]
    rfl
  rw [frame, (produceHandover_frame ..).1]
  show _ = (s.duty.state != .vacant)
  rw [released]
  rfl

theorem expireRelease (h : TalliesOk paused run late s) (o : Bool) : TalliesOk paused run late (expireRelease o s) := by
  unfold Machine.expireRelease State.withHandover
  split
  · split
    · exact (h.withDuty (by rfl)).notice (reportHandover_frame ..)
    · exact h
  · exact h

theorem lapse (h : TalliesOk paused run [] s) (o : Bool) (released : s.duty.state = .released) :
    TalliesOk paused run [] (lapse o s) := by
  have reported (phase : HandoverPhase) (x y : Nat) (k : Option Nat) (r : Nat) :
      TalliesOk paused run [] (produceHandover o phase x y k r 0 s) ∧
        (produceHandover o phase x y k r 0 s).duty.state = .released := by
    refine ⟨h.notice (produceHandover_frame ..), ?_⟩
    rw [(produceHandover_frame ..).1]
    exact released
  unfold Machine.lapse
  dsimp only
  split
  · exact (reported ..).1.withDuty (by rw [(reported ..).2]; rfl)
  · split
    · exact (((reported ..).1.withDutyLate _).applyRota o).handDutyHeld
    · exact (reported ..).1.withDuty (by rw [(reported ..).2]; rfl)

theorem expireAccept (h : TalliesOk paused run [] s) (o : Bool) : TalliesOk paused run [] (expireAccept o s) := by
  unfold Machine.expireAccept reoffer State.withHandover
  split
  · next released _ =>
    split
    · split
      · exact (h.withDuty (by rfl)).notice (reportHandover_frame ..)
      · exact h.lapse o released
    · exact h
  · exact h

theorem slotFalls (h : TalliesOk paused run late s) (o : Bool) (due : Instant) (k : Nat) (x : Slot) (n : Nat) :
    TalliesOk paused run late (slotFalls o due k x n s) := by
  have served : TalliesOk paused run late (s.withDuty { s.duty with lastServed := some due }) := h.withDuty (by rfl)
  unfold Machine.slotFalls State.withHandover
  dsimp only
  generalize s.withDuty { s.duty with lastServed := some due } = u at served
  cases state : u.duty.state with
  | vacant => exact served
  | onDuty =>
    dsimp only
    have opened (f : HandoverFields) : TalliesOk paused run late (u.withDuty { u.duty with state := .due, handover := f }) :=
      served.withDuty (by rw [state]; rfl)
    split
    · exact (opened _).notice (reportHandover_frame ..)
    · exact (opened _).notice ((reportHandover_frame ..).trans (reportHandover_frame ..))
  | due => exact (served.withDuty (by rw [state])).notice (reportHandover_frame ..)
  | released => exact (served.withDuty (by rw [state])).notice (reportHandover_frame ..)

theorem checkSlots (h : TalliesOk paused run late s) (o : Bool) : TalliesOk paused run late (checkSlots o s) := by
  unfold Machine.checkSlots
  split
  · exact h
  · split
    · exact h.withDuty (by rfl)
    · split
      · exact h.slotFalls ..
      · exact h

/-! ### The time base -/

theorem withTime (h : TalliesOk paused run late s) {x : TimeBase} (quality : x.quality = s.time.quality) :
    TalliesOk paused run late (s.withTime x) :=
  h.moved (by rfl) (by rfl) (fun _ hk _ => State.source_congr hk rfl (fun _ => rfl)
    (fun _ => congrArg (· == Quality.locked) quality) (fun _ => rfl) fun _ => rfl) fun _ => id

theorem moveQuality (h : TalliesOk paused run [] s) (q : Quality) : TalliesOk paused run [] (moveQuality q s) := by
  have moved : TalliesOk paused run [inputLocked] (s.withTime { s.time with quality := q }) :=
    h.late_of inputLocked (by rfl) (by rfl) fun _ hk other =>
      State.source_congr hk rfl (fun _ => rfl) (fun e => absurd e other) (fun _ => rfl) fun _ => rfl
  unfold Machine.moveQuality
  dsimp only
  split
  · exact h
  · split
    · refine (moved.notice ((produce_frame ..).trans (raiseAtAll_frame ..))).handInput (by decide) ?_ (by simp)
      rw [((produce_frame ..).trans (raiseAtAll_frame ..)).tally.source, State.source_locked]
      rfl
    · exact moved.handInput (by decide) (State.source_locked _) (by simp)

theorem rewriteTime (h : TalliesOk paused run late s) (date ms : Nat) : TalliesOk paused run late (rewriteTime date ms s) := by
  refine TalliesOk.allPoints (fun n t k => ?_) (h.withTime (by rfl))
  unfold moveDebounce
  split
  · exact k
  · exact k.withPoint (by rfl)

theorem advanceClock (h : TalliesOk paused run late s) : TalliesOk paused run late (advanceClock s) := by
  have quality : (Machine.advanceClock s).time.quality = s.time.quality := by
    unfold Machine.advanceClock TimeBase.nextMs
    dsimp only
    split
    · rfl
    · split <;> rfl
  rw [advanceClock_frame s]
  exact h.moved (by rfl) (by rfl) (fun _ hk _ => State.source_congr hk rfl (fun _ => rfl)
    (fun _ => congrArg (· == Quality.locked) quality) (fun _ => rfl) fun _ => rfl) fun _ => id

end TalliesOk
end Sys2Proof.Machine
end

section
/-!
SUPPORT. The tallies across the ports and the supply, and what follows at every step.
-/

namespace Sys2Proof.Machine

/-- Acknowledging moves annunciation entries alone (R75). -/
theorem TripUnit.acknowledge_rest (l : List (Fin 32)) (x : TripUnit) :
    (l.foldl TripUnit.acknowledge x).latch = x.latch ∧ (l.foldl TripUnit.acknowledge x).burst = x.burst := by
  induction l generalizing x with
  | nil => exact ⟨rfl, rfl⟩
  | cons n l ih => exact ih _

theorem TallyFrame.running {s t : State} (h : TallyFrame s t) : t.running = s.running := h.point.running

namespace TalliesOk

variable {paused run : Bool} {late : List Nat} {s t : State}

/-! ### The ports and the queue -/

theorem withPort (h : TalliesOk paused run late s) (p : Port) (u : PortUnit) : TalliesOk paused run late (s.withPort p u) :=
  h.same rfl rfl fun _ => rfl

theorem withQueue (h : TalliesOk paused run late s) (q : EventQueue) : TalliesOk paused run late (s.withQueue q) :=
  h.same rfl rfl fun _ => rfl

theorem joinSubscription (h : TalliesOk paused run late s) (p : Port) : TalliesOk paused run late (joinSubscription p s) := by
  unfold Machine.joinSubscription
  split
  · exact h
  · exact h.withQueue _

theorem unsubscribe (h : TalliesOk paused run late s) (p : Port) : TalliesOk paused run late (unsubscribe p s) := by
  unfold Machine.unsubscribe
  split
  · exact (h.withQueue _).notice (syncEvents_frame ..)
  · exact h

theorem storeRights (h : TalliesOk paused run late s) (q : Port) (r : Rights) (m : BitVec 12) :
    TalliesOk paused run late (storeRights q r m s) := by
  have left (c : Bool) {u : State} (k : TalliesOk paused run late u) :
      TalliesOk paused run late (if c then Machine.unsubscribe q u else u) := by
    cases c
    · exact k
    · exact k.unsubscribe q
  unfold Machine.storeRights
  dsimp only
  split
  · exact left _ (h.withPort _ _)
  · exact (left _ (h.withPort _ _)).notice (syncTallyDue_frame ..)

theorem acknowledge (h : TalliesOk paused run late s) (l : List (Fin 32)) :
    TalliesOk paused run late (s.withTrip (l.foldl TripUnit.acknowledge s.trip)) := by
  obtain ⟨latch, burst⟩ := TripUnit.acknowledge_rest l s.trip
  exact h.withTrip (by rw [latch]) (by rw [burst])

/-! ### The supply -/

theorem withSupply (h : TalliesOk paused run late s) {m : SupplyMonitor} {run' : Bool} (state : (s.withSupply m).running = run') :
    TalliesOk paused run' late (s.withSupply m) :=
  ⟨h.within, h.follows, h.inputs, h.paused, state⟩

/-- The closing action pauses the unit and leaves no qualification (R120). -/
theorem tallyClosing (h : TalliesOk paused run late s) : TalliesOk true run [] (tallyClosing s) := by
  have frame : TallyFrame s (Machine.tallyClosing s) := by
    have each (i : Fin 12) (t : State) : TallyFrame t (closeTally i t) := by
      unfold closeTally
      split
      · exact .withEntry ..
      · exact .refl t
    exact (atAllTallies_keeps (P := fun u => TallyFrame s u) (fun i t k => k.trans (each i t)) (.refl s)).trans (.withTally ..)
  obtain ⟨entry, -, paused⟩ := tallyClosing_tally s
  refine ⟨fun i => ?_, fun i => ?_, nofun, paused, ?_⟩
  · rw [entry]
    exact (h.within i).closed
  · rw [entry]
    exact Tally.closed_run _
  · exact (TallyFrame.running frame).trans h.running

theorem pointClosing (h : TalliesOk paused run late s) : TalliesOk paused run late (pointClosing s) :=
  h.allPoints fun _ _ k => k.withPoint (by rfl)

/-- The closing actions in either order (R181; log entry 9). -/
theorem closingActions (h : TalliesOk false run [] s) (o : ClosingOrder) : TalliesOk true run [] (closingActions o s) := by
  have both : TalliesOk true run [] (closeBurstAndTallies o (Machine.pointClosing s)) := by
    cases o with
    | tripFirst => exact h.pointClosing.closeBurst.tallyClosing
    | tallyFirst => exact h.pointClosing.tallyClosing.closeBurst
  have staged : TalliesOk true run [] (discardStaged (closeBurstAndTallies o (Machine.pointClosing s))) :=
    both.withTime (by rfl)
  exact atAllPorts_keeps (P := fun u => TalliesOk true run [] u) (fun p u k => k.withPort p _) staged

theorem mainLoss (h : TalliesOk false true [] s) (o : ClosingOrder) (low : Bool) : TalliesOk true false [] (mainLoss o low s) := by
  have start : TalliesOk false true [] (writeStart s) := h.withSupply h.running
  unfold Machine.mainLoss
  rw [h.running, if_pos rfl]
  exact (start.closingActions o).withSupply rfl

/-- The restore action evaluates every tally over the inputs as they stand (R121). -/
theorem tallyRestore (within : ∀ i, (s.entry i).coherent) : TalliesOk false s.running [] (tallyRestore s) := by
  have frame : TallyFrame s (Machine.tallyRestore s) := by
    have each (i : Fin 12) (t : State) : TallyFrame t (restoreTally i t) :=
      (evaluateTally_frame ..).trans (evaluateDue_frame ..)
    have all (u : State) : TallyFrame u (atAllTallies restoreTally u) :=
      atAllTallies_keeps (P := fun v => TallyFrame u v) (fun i t k => k.trans (each i t)) (.refl u)
    exact (TallyFrame.withTally ..).trans ((all _).trans (compare_frame _).tally)
  obtain ⟨entry, inputs, unpaused⟩ := tallyRestore_tally s
  refine ⟨fun i => ?_, fun i => ?_, fun _ k hk _ => ?_, unpaused, ?_⟩
  · rw [entry]
    exact (within i).restored _
  · rw [State.condition, entry, inputs, Tally.restored_eq, Tally.compared]
    have config := (s.entry i).evaluated_config ((s.entry i).config.holds s.presentInputs)
    rw [config]
    exact Tally.evaluated_run _ _
  · rw [inputs, presentInputs_getLsbD s hk, frame.source]
  · exact TallyFrame.running frame

theorem pointRestore (h : TalliesOk paused run late s) : TalliesOk paused run late (pointRestore s) := by
  refine h.allPoints fun n t k => ?_
  have released : TalliesOk paused run late (setChatter n .clear (Machine.reportRelease true n t)) :=
    (k.reportRelease true n).withPoint (by rfl)
  unfold restorePoint
  dsimp only
  split
  · exact k
  · split
    · exact released
    · exact released.withPoint (by rfl)

end TalliesOk

/-- The invariant that held holds. -/
structure TalliesSafe (s t : State) : Prop where
  safe : (∃ run, TalliesOk (!run) run [] s) → ∃ run, TalliesOk (!run) run [] t

namespace TalliesSafe

variable {s t : State}

theorem of_all (h : ∀ paused run, TalliesOk paused run [] s → TalliesOk paused run [] t) : TalliesSafe s t :=
  ⟨fun ⟨run, ok⟩ => ⟨run, h (!run) run ok⟩⟩

theorem running_congr {m : SupplyMonitor} (h : m.state = s.supply.state) : (s.withSupply m).running = s.running :=
  State.running_congr h

theorem operations : OperationRules TalliesSafe where
  refl _ := ⟨id⟩
  trans h k := ⟨k.safe ∘ h.safe⟩
  answer _ p u _ := of_all fun _ _ h => h.withPort p u
  notice _ _ _ _ _ _ := of_all fun _ _ h => h.notice (setNotice_frame ..)
  clear p _ _ _ := of_all fun _ _ h => h.withPort p _
  enables p _ _ _ _ := of_all fun _ _ h => h.withPort p _
  alarm p _ _ := of_all fun _ _ h => h.withPort p _
  gap p _ := of_all fun _ _ h => h.withPort p _
  rights q r m _ _ _ _ := of_all fun _ _ h => h.storeRights q r m
  freeIndex _ _ := of_all fun _ _ h => h.same (by rfl) (by rfl) fun _ => by rfl
  record _ _ _ _ := of_all fun _ _ h => h.notice (produceAt_frame ..)
  mode _ _ := of_all fun _ _ h => h.withQueue _
  deliver _ _ _ _ := of_all fun _ _ h => (h.withQueue _).notice (syncEvents_frame ..)
  join p _ := of_all fun _ _ h => h.joinSubscription p
  unsubscribe p _ _ := of_all fun _ _ h => h.unsubscribe p
  configure i c s run := by
    refine ⟨fun ⟨r, h⟩ => ⟨true, ?_⟩⟩
    obtain rfl : true = r := run.symm.trans h.running
    exact h.configureTally i c
  due i _ _ hv := of_all fun _ _ h => h.setDue i hv
  stagePreset _ _ _ running hlife hstarts := of_all fun _ _ h => h.stagePreset running hlife hstarts
  preset _ _ _ _ hlife hstarts := of_all fun _ _ h => h.applyPreset false hlife hstarts
  complete i s := of_all fun _ _ h => by rw [h.completeIfQualified i]; exact h
  count _ := of_all fun _ _ h => h.tallyBoundary
  quiet _ _ := of_all fun _ _ h => h.withTrip (by rfl) (by rfl)
  closeBurst _ := of_all fun _ _ h => h.closeBurst
  resetFirstOut crew _ _ _ _ := of_all fun _ _ h => h.resetFirstOut crew
  acknowledge l _ := of_all fun _ _ h => h.acknowledge l
  write n e _ _ _ := of_all fun _ _ h => h.writeEntry n e
  sample n high _ := of_all fun _ _ h => h.sampleLine n high
  debounce n _ := of_all fun _ _ h => h.expireDebounce n
  window n _ := of_all fun _ _ h => h.expireWindow n
  stability n _ := of_all fun _ _ h => h.expireStability n
  keepRota _ _ _ := of_all fun _ _ h => h.withDuty (by rfl)
  applyRota o _ := of_all fun _ _ h => h.applyRota o
  take p crew _ _ _ _ _ _ := of_all fun _ _ h => h.takeDuty p crew
  accept p crew _ _ released _ _ _ := of_all fun _ _ h => h.acceptHandover p crew released
  openHandover _ _ state := of_all fun _ _ h => h.withDuty (by rw [state]; rfl)
  release _ _ state := of_all fun _ _ h => h.withDuty (by rw [state]; rfl)
  reclaim _ state := of_all fun _ _ h => h.withDuty (by rw [state]; rfl)
  handoverSettings _ _ _ _ := of_all fun _ _ h => h.withDuty (by rfl)
  served _ _ := of_all fun _ _ h => h.withDuty (by rfl)
  releaseDeadline o _ := of_all fun _ _ h => h.expireRelease o
  acceptDeadline o _ := of_all fun _ _ h => h.expireAccept o
  slots o _ := of_all fun _ _ h => h.checkSlots o
  quality q _ := of_all fun _ _ h => h.moveQuality q
  unstage _ := of_all fun _ _ h => h.withTime (by rfl)
  stage _ _ _ _ _ _ := of_all fun _ _ h => h.withTime (by rfl)
  rewrite date ms _ _ _ := of_all fun _ _ h => h.rewriteTime date ms
  stagedSet _ _ _ := of_all fun _ _ h => TalliesOk.rewriteTime (h.withTime (by rfl)) _ _
  discipline _ _ _ := of_all fun _ _ h => h.same (by rfl) (by rfl) fun _ => by rfl
  advance _ := of_all fun _ _ h => h.advanceClock
  elapse _ _ := of_all fun _ _ h => h.same (by rfl) (by rfl) fun _ => by rfl
  boundary _ := of_all fun _ _ h => h.same (by rfl) (by rfl) fun _ => by rfl
  supply _ _ state := of_all fun _ _ h => h.withSupply ((running_congr state).trans h.running)

/-- A return restores every tally from the settings and the counts alone (R121). -/
theorem returnStages (cause : PowerCause) (pins : AddressPins) (within : ∀ i, (s.entry i).coherent) :
    ∃ run, TalliesOk (!run) run [] (returnStages cause pins s) := by
  have ports : ∀ i, ((producePower cause (atAllPorts (returnPort pins) (s.returned pins))).entry i).coherent := by
    intro i
    have frame : (atAllPorts (returnPort pins) (s.returned pins)).tally = s.tally :=
      atAllPorts_keeps (P := fun u => u.tally = s.tally) (fun _ _ k => k) rfl
    rw [producePower, (produce_frame ..).entry, State.entry, frame]
    exact within i
  have running : (producePower cause (atAllPorts (returnPort pins) (s.returned pins))).running = true := by
    have frame : (atAllPorts (returnPort pins) (s.returned pins)).running = true :=
      atAllPorts_keeps (P := fun u => u.running = true) (fun _ _ k => k) (s.returned_running pins)
    rw [producePower, (produce_frame ..).1]
    exact frame
  rw [returnStages_eq]
  have restored := TalliesOk.tallyRestore ports
  rw [running] at restored
  exact (operations.dutyCheck true _).safe ⟨true, restored.pointRestore⟩

theorem commands : CommandRules TalliesSafe where
  toOperationRules := operations
  mainLoss order low s := by
    refine ⟨fun ⟨run, h⟩ => ?_⟩
    cases run with
    | true => exact ⟨false, h.mainLoss order low⟩
    | false =>
      have same : mainLoss order low s = s := by simp [mainLoss, h.running]
      rw [same]
      exact ⟨false, h⟩
  restart cause pins order s run := by
    refine ⟨fun ⟨r, h⟩ => ?_⟩
    obtain rfl : true = r := run.symm.trans h.running
    exact returnStages cause pins (h.closingActions order).within
  outage pins high s _ := by
    refine ⟨fun ⟨_, h⟩ => ?_⟩
    have seen := h.withSupply (m := s.supply.sawReset high s.elapsed) rfl
    exact returnStages .outage pins seen.within
  cold pins high s := by
    have cold (i : Fin 12) : ((State.cold s.lines pins high s.freeIndex s.pending).entry i).coherent := by
      have entry : (State.cold s.lines pins high s.freeIndex s.pending).entry i = .cold := by
        simp [State.entry, State.cold, TallyUnit.cold]
      rw [entry]
      exact ⟨nofun, by decide, by decide, by decide, by decide, by decide, by decide, nofun⟩
    exact ⟨fun _ => returnStages .cold pins cold⟩

end TalliesSafe

/-- Settles O11: the tallies and their inputs across every operation, each input handed over where its owner moves. -/
theorem stepKeepsTalliesWithTheirConditions : Obligations.StepKeepsTalliesWithTheirConditions := by
  intro s t follows h
  unfold step at h
  split at h
  · cases h
    exact follows
  · obtain ⟨run, ok⟩ := (TalliesSafe.commands.exec _ h).safe ⟨_, (talliesFollow_iff _).1 follows⟩
    refine (talliesFollow_iff t).2 ?_
    rw [ok.running]
    exact ok

end Sys2Proof.Machine
end

section
/-!
SUPPORT. A step and the reset state, and what a well-shaped frame makes of the answer of the block that serves it.
-/

namespace Sys2Proof.Machine

/-- Settles O1: both halves are the definition of a step. -/
theorem stepRunsTheFrontCommand : Obligations.StepRunsTheFrontCommand :=
  ⟨fun _ _ _ => rfl, fun s empty => by simp [step, empty]⟩

/-! ### The reset state -/

theorem clockInRange_reset : ClockInRange .reset := ⟨by decide, by decide, by decide, by decide, by decide, nofun⟩

theorem queueInOrder_reset : QueueInOrder .reset := by
  have stream (p : Port) : State.reset.queue.stream p = [⟨.powerCold, .const (some 0)⟩] := by cases p <;> rfl
  have subscribed (p : Port) : State.reset.queue.subscribed.get p = true := by cases p <;> rfl
  refine ⟨by decide, by decide, fun h hh => ?_, fun p => ⟨?_, fun last hl _ => ?_⟩⟩
  · obtain rfl : h = ⟨.powerCold, .const (some 0)⟩ := by simpa [State.reset] using hh
    exact ⟨rfl, by decide, fun p _ => subscribed p⟩
  · rw [stream]
    trivial
  · rw [stream] at hl
    obtain rfl : _ = last := Option.some.inj hl
    cases p <;> rfl

theorem latchCoherent_reset : LatchCoherent .reset :=
  ⟨fun _ => ⟨rfl, rfl, rfl⟩, nofun, fun h => absurd rfl h, .nil, by decide, by decide, by decide, nofun⟩

theorem annunciationCoherent_reset : AnnunciationCoherent .reset := by
  intro n
  have entry : State.reset.trip.entry n = .normal := by simp [State.reset, State.cold, TripUnit.cold, TripUnit.entry]
  have point : State.reset.point n = .cold := by simp [State.reset, State.cold, State.point]
  rw [entry, point]
  exact ⟨fun h => absurd rfl h, nofun, nofun, fun _ => ⟨rfl, rfl, rfl⟩⟩

theorem dutyCoherent_reset : DutyCoherent .reset :=
  ⟨fun _ => ⟨rfl, rfl⟩, fun h => absurd rfl h, fun _ => rfl, nofun, nofun, by decide, by decide, nofun,
    ⟨by decide, nofun, .nil⟩, nofun, by decide, by decide, rfl, rfl⟩

theorem bookInOrder_reset : BookInOrder .reset := ⟨by decide, trivial, nofun⟩

theorem attentionFollows_reset : AttentionFollows .reset := by
  intro p
  have run : State.reset.running = true := rfl
  rw [if_pos run]
  cases p <;> exact ⟨rfl, rfl, rfl⟩

theorem talliesFollow_reset : TalliesFollow .reset := by
  have entry (i : Fin 12) : State.reset.entry i = .cold := by simp [State.reset, State.cold, State.entry, TallyUnit.cold]
  have condition (i : Fin 12) : State.reset.condition i = false := by rw [State.condition, entry]; rfl
  refine ⟨fun i => ?_, rfl, by decide, fun i => ?_⟩
  · rw [entry]
    exact ⟨nofun, by decide, by decide, by decide, by decide, by decide, by decide, nofun⟩
  · rw [entry, condition]
    exact ⟨fun _ => rfl, fun _ => rfl⟩

/-- Settles O4: each invariant at the cold values and the one POWER record. -/
theorem resetMeetsTheInvariants : Obligations.ResetMeetsTheInvariants :=
  ⟨clockInRange_reset, queueInOrder_reset, latchCoherent_reset, annunciationCoherent_reset, dutyCoherent_reset, bookInOrder_reset,
    attentionFollows_reset, talliesFollow_reset⟩

/-! ### Frames and answers -/

/-- A frame whose length byte is right has a good shape (R170). -/
theorem frameArguments_cons {len : Byte} {args : List Byte} (length : args.length = len.toNat) (short : len.toNat ≤ 64) :
    frameArguments (len :: args) = some args := if_pos ⟨short, length⟩

theorem frameArguments_ofNat {args : List Byte} (short : args.length ≤ 64) :
    frameArguments (BitVec.ofNat 8 args.length :: args) = some args := by
  have toNat : (BitVec.ofNat 8 args.length).toNat = args.length := by
    rw [BitVec.toNat_ofNat, Nat.mod_eq_of_lt (by omega)]
  exact frameArguments_cons toNat.symm (toNat.trans_le short)

/-- What a request whose frame passes the checks of its port leaves, by the answer of its block (R171). -/
def State.reply (s : State) (p : Port) (code : Byte) : Answer → State
  | .accept t payload => t.respond p (.ok payload)
  | .refuse c d => s.refusedAt p code c d

theorem takeRequest_served {p : Port} {code : Byte} {fits : Nat → Bool} {serve : List Byte → State → Answer}
    {rest args : List Byte} {s : State} (run : s.running = true) (shape : frameArguments rest = some args)
    (fit : fits args.length = true) :
    takeRequest p code fits serve rest s = s.reply p code (serve args (s.idleFrame p)) := by
  cases answer : serve args (s.idleFrame p) with
  | accept t payload => exact takeRequest_accepted run shape fit answer
  | refuse c d => exact takeRequest_refused run shape fit answer

section Answers

variable {s t : State} {p : Port} {payload : List Byte}

theorem PortsKeep.idleFrame_other (s : State) {p q : Port} (h : q ≠ p) : (s.idleFrame p).port q = s.port q :=
  State.port_withPort_other _ _ h

theorem State.idleFrame_self (s : State) (p : Port) : (s.idleFrame p).port p = { s.port p with frame := none } :=
  State.port_withPort_self ..

theorem State.respond_self (t : State) (p : Port) (r : Response) : (t.respond p r).port p = { t.port p with response := r } :=
  State.port_withPort_self ..

theorem State.respond_other (t : State) {p q : Port} (r : Response) (h : q ≠ p) : (t.respond p r).port q = t.port q :=
  State.port_withPort_other _ _ h

theorem State.okAt_self (s : State) (p : Port) (payload : List Byte) :
    (s.okAt p payload).port p = { s.port p with frame := none, response := .ok payload } := State.port_withPort_self ..

theorem State.okAt_other (s : State) {p q : Port} (payload : List Byte) (h : q ≠ p) : (s.okAt p payload).port q = s.port q :=
  State.port_withPort_other _ _ h

/-- The answer moves no notice. -/
theorem State.pending_respond (t : State) (p q : Port) (r : Response) : ((t.respond p r).port q).pending = (t.port q).pending := by
  by_cases e : q = p
  · subst e
    rw [t.respond_self]
  · rw [t.respond_other r e]

theorem State.pending_idleFrame (s : State) (p q : Port) : ((s.idleFrame p).port q).pending = (s.port q).pending := by
  by_cases e : q = p
  · subst e
    rw [s.idleFrame_self]
  · rw [PortsKeep.idleFrame_other s e]

/-- A block that moves nothing of the ports but notices and lines, and then answers (R171). -/
theorem PortsAnswer.of_keep (h : PortsKeep (s.idleFrame p) t) : PortsAnswer s (t.respond p (.ok payload)) p payload := by
  intro q
  by_cases e : q = p
  · subst e
    rw [t.respond_self, h q, s.idleFrame_self, s.okAt_self]
  · rw [t.respond_other _ e, h q, PortsKeep.idleFrame_other s e, s.okAt_other _ e]

/-- A block that moves nothing of the ports, and then answers. -/
theorem State.respond_of_ports (h : t.ports = (s.idleFrame p).ports) :
    t.respond p (.ok payload) = ({ t with ports := s.ports } : State).okAt p payload := by
  have unit : t.port p = { s.port p with frame := none } := by
    rw [← s.idleFrame_self]
    simp only [State.port, h]
  have port : ({ t with ports := s.ports } : State).port p = s.port p := rfl
  have set (u v : PortUnit) : (s.ports.set p u).set p v = s.ports.set p v := congrArg State.ports (s.withPort_withPort p u v)
  rw [State.respond, State.okAt, unit, port]
  unfold State.withPort
  rw [h]
  exact congrArg (fun ports => ({ t with ports := ports } : State)) (set ..)

end Answers

end Sys2Proof.Machine
end

section
/-!
SUPPORT. The cold start (R184): each stage of its return finds nothing to restore.
-/

namespace Sys2Proof.Machine

/-- EVENTS becomes pending and enabled at a cold port (R100, R164). -/
theorem PortUnit.setNotice_events_cold {u : PortUnit} (e : Nat) (pending : u.pending = 0) (enabled : u.enabled = 0x7F)
    (style : u.style = .level) : u.setNotice e .events true = u.withEvents := by
  have absent : ¬ u.pending.has .events = true := by rw [pending]; decide
  have raised : putBit u.pending Notice.events.bit true = 0x40 := by rw [pending]; decide
  have wanted : plainLine (0x40 &&& u.enabled) = .active := by rw [enabled]; decide
  rw [PortUnit.setNotice, if_neg absent, PortUnit.withPending, raised, lineAfter, style]
  dsimp only
  rw [PortUnit.wanted, wanted, ← style]
  rfl

/-- A record with a reader and room enters the queue (R88). -/
theorem storeRecord_enters {r : Record} {s : State} (any : s.queue.anySubscribed = true)
    (room : s.queue.held.length < queueRoom) : storeRecord r s = enterRecord r s := by
  rw [storeRecord, if_pos any, if_pos room]

/-- Every block at its cold values, whatever the queue and the ports hold (R184). -/
structure State.IsCold (s : State) : Prop where
  entry : ∀ i, s.entry i = .cold
  inputs : s.tally.inputs = 0
  unpaused : s.tally.paused = false
  point : ∀ n, s.point n = .cold
  latch : s.trip.latch = .armed
  burst : s.trip.burst = none
  quality : s.time.quality = .unset
  duty : s.duty.state = .vacant

section Stages

variable {s : State} (h : s.IsCold)
include h

theorem State.IsCold.dueTallies : s.dueTallies = 0 := by
  simp only [State.dueTallies, h.entry]
  decide

theorem State.IsCold.presentInputs : s.presentInputs = 0 := by
  have vector : s.stateVector = 0 := by
    simp only [State.stateVector, h.point]
    decide
  simp only [State.presentInputs, vector, h.latch, h.burst, h.quality, h.duty]
  decide

theorem State.IsCold.restoreTally (i : Fin 12) : restoreTally i s = s := by
  have idle : evaluateTally true i s = s := by
    unfold evaluateTally State.condition
    rw [h.entry]
    rfl
  unfold Machine.restoreTally
  rw [idle, evaluateDue, h.entry, if_pos (by decide)]

theorem State.IsCold.syncTallyDue (p : Port) (none : (s.port p).pending.has .tallyDue = false) : syncTallyDue p s = s := by
  have same : (s.port p).setNotice s.elapsed .tallyDue false = s.port p := by rw [PortUnit.setNotice, if_pos none]
  have masked (m : BitVec 12) : (0 &&& m != 0) = false := by simp
  unfold Machine.syncTallyDue setNotice
  rw [h.dueTallies, masked]
  split
  · exact (congrArg (s.withPort p) same).trans (s.withPort_port p)
  · rfl

/-- The restore action of the tally unit finds every tally cold (R121). -/
theorem State.IsCold.tallyRestore (none : ∀ p, (s.port p).pending.has .tallyDue = false) : tallyRestore s = s := by
  have inputs : s.withTally { s.tally with inputs := s.presentInputs, paused := false } = s := by
    rw [h.presentInputs, ← h.inputs, ← h.unpaused]
    rfl
  have tallies : atAllTallies Machine.restoreTally s = s := atAllTallies_keeps (P := fun t => t = s)
    (fun i t k => by rw [k]; exact h.restoreTally i) rfl
  rw [Machine.tallyRestore, inputs, tallies, atAllPorts, h.syncTallyDue _ (none _), h.syncTallyDue _ (none _),
    h.syncTallyDue _ (none _)]

theorem State.IsCold.pointRestore : pointRestore s = s := by
  refine atAllPoints_keeps (P := fun t => t = s) (fun n t k => ?_) rfl
  have off : Point.cold.entry.mode = .off := rfl
  rw [k, restorePoint, h.point, if_pos off]

theorem State.IsCold.dutyCheck (o : Bool) : dutyCheck o s = s := by
  have release : expireRelease o s = s := by rw [expireRelease, h.duty]
  have accept : expireAccept o s = s := by rw [expireAccept, h.duty]
  unfold Machine.dutyCheck
  dsimp only
  rw [release, accept, h.quality, if_pos rfl, ite_self]

end Stages

section Cold

variable (lines : BitVec 32) (pins : AddressPins) (high : Bool) (free : Nat) (waiting : List Instr)

theorem State.isCold_cold : (State.cold lines pins high free waiting).IsCold where
  entry i := by simp [State.entry, State.cold, TallyUnit.cold]
  inputs := rfl
  unpaused := rfl
  point n := by simp [State.point, State.cold]
  latch := rfl
  burst := rfl
  quality := rfl
  duty := rfl

theorem cold_levelNotices (p : Port) : (State.cold lines pins high free waiting).levelNotices p = 0 := by
  have stream : (State.cold lines pins high free waiting).queue.stream p = [] := rfl
  have alarm : (State.cold lines pins high free waiting).alarmHolds p = false := by cases p <;> rfl
  have masked (m : BitVec 12) : (0 &&& m != 0) = false := by simp
  unfold State.levelNotices
  rw [(State.isCold_cold ..).dueTallies, stream, alarm, masked]
  decide

theorem cold_returnPorts :
    atAllPorts (returnPort pins) (State.cold lines pins high free waiting) = State.cold lines pins high free waiting := by
  have unit (p : Port) : { (State.cold lines pins high free waiting).port p with
      address := addressOfPin (pinOf pins p), pending := 0, line := .inactive } =
        (State.cold lines pins high free waiting).port p := by
    cases p <;> rfl
  have enabled (p : Port) : ((State.cold lines pins high free waiting).port p).enabled = 0x7F := by cases p <;> rfl
  have line (p : Port) : plainLine (0 &&& ((State.cold lines pins high free waiting).port p).enabled) = .inactive := by
    rw [enabled]
    decide
  have port (p : Port) : returnPort pins p (State.cold lines pins high free waiting) = State.cold lines pins high free waiting := by
    unfold returnPort PortUnit.wanted
    dsimp only
    rw [cold_levelNotices, line]
    exact (congrArg (State.withPort _ p) (unit p)).trans (State.withPort_port _ p)
  rw [atAllPorts, port, port, port]

/-- The state that the cold start leaves (R184, R186). -/
def State.coldStarted : State :=
  { State.cold lines pins high free waiting with
    queue := { EventQueue.cold with held := [⟨.powerCold, .const (some 0)⟩], seq := 1 }
    ports := ⟨(coldPorts pins).a.withEvents, (coldPorts pins).b.withEvents, (coldPorts pins).c.withEvents⟩ }

theorem cold_power : producePower .cold (State.cold lines pins high free waiting) =
    State.coldStarted lines pins high free waiting := by
  have sync (p : Port) (s : State) (run : s.running = true) (queue : (!(s.queue.stream p).isEmpty) = true)
      (unit : s.port p = (State.cold lines pins high free waiting).port p) :
      syncEvents p s = s.withPort p ((State.cold lines pins high free waiting).port p).withEvents := by
    rw [syncEvents, setNotice, if_pos run, queue, unit, PortUnit.setNotice_events_cold] <;> cases p <;> rfl
  have room : (0 : Nat) < queueRoom := by decide
  have entered : producePower .cold (State.cold lines pins high free waiting) =
      enterRecord .powerCold ((State.cold lines pins high free waiting).withQueue { EventQueue.cold with seq := 1 }) := by
    have now : (State.cold lines pins high free waiting).now = .zero := by
      rw [State.now]
      exact congrArg (Instant.mk 0 0) (by decide : 0 / microsecondUnits = 0)
    rw [producePower, if_pos rfl, produce, produceAt, now]
    exact storeRecord_enters (s := (State.cold lines pins high free waiting).withQueue { EventQueue.cold with seq := 1 })
      (r := .powerCold) rfl room
  rw [entered, enterRecord, atAllPorts, sync .a, sync .b, sync .c] <;> rfl

/-- R184: the cold start. -/
theorem coldStart_eq (s : State) :
    coldStart pins high s = State.coldStarted s.lines pins high s.freeIndex s.pending := by
  have started : (State.coldStarted s.lines pins high s.freeIndex s.pending).IsCold := by
    obtain ⟨entry, inputs, unpaused, point, latch, burst, quality, duty⟩ :=
      State.isCold_cold s.lines pins high s.freeIndex s.pending
    exact ⟨entry, inputs, unpaused, point, latch, burst, quality, duty⟩
  have same : (State.cold s.lines pins high s.freeIndex s.pending).returned pins =
    State.cold s.lines pins high s.freeIndex s.pending := rfl
  rw [coldStart, returnStages_eq, same, cold_returnPorts, cold_power, started.tallyRestore, started.pointRestore,
    started.dutyCheck]
  intro p
  have pending : ((State.coldStarted s.lines pins high s.freeIndex s.pending).port p).pending = 0x40 := by cases p <;> rfl
  rw [pending]
  decide

end Cold

/-- Settles O3: the stages of the return on the cold state. -/
theorem coldStartTakesColdValues : Obligations.ColdStartTakesColdValues := by
  refine ⟨fun s pins high e backup lost qualifying reached => ?_, rfl⟩
  have cold : expireQualification pins high s = coldStart pins high s := by
    simp [expireQualification, qualifying, backup, lost, State.reached, reached]
  exact congrArg Host.Outcome.next (cold.trans (coldStart_eq pins high s))

end Sys2Proof.Machine
end

section
/-!
SUPPORT. The ticks below and at the modulus, the requests that store one setting, and the edges of a point.
-/

namespace Sys2Proof.Machine

/-! ### The tick -/

theorem State.increment_eq (s : State) : s.increment = (1000000000 + s.trim).toNat := rfl

theorem tick_running {s u : State} (settled : settle s = u) (run : u.retentionRuns = true) : tick s = advanceClock u := by
  rw [tick, settled, if_pos run]

theorem tick_still {s u : State} (settled : settle s = u) (lost : u.retentionRuns = false) : tick s = countUntrimmed u := by
  rw [tick, settled, if_neg (by simp [lost])]

/-- R2: a tick below the modulus. -/
theorem advanceClock_below {s : State} (below : s.time.q + (1000000000 + s.trim).toNat < 4096000000000) :
    advanceClock s =
      { s with
        elapsed := s.elapsed + (1000000000 + s.trim).toNat
        time := { s.time with q := s.time.q + (1000000000 + s.trim).toNat } } := by
  unfold advanceClock
  dsimp only
  have below : s.time.q + s.increment < millisecondUnits := below
  rw [if_pos below]
  rfl

/-- R3: the time base past a boundary. -/
theorem TimeBase.nextMs_eq (t : TimeBase) :
    t.nextMs = { t with
      ms := if t.ms + 1 = 86400000 then 0 else t.ms + 1
      date := if t.ms + 1 = 86400000 then if t.date = 65535 then 0 else t.date + 1 else t.date } := by
  unfold TimeBase.nextMs dateAfter dayMs
  split <;> rfl

/-- R3: a tick at the modulus carries, and its boundary waits. -/
theorem advanceClock_carries {s : State} (carries : 4096000000000 ≤ s.time.q + (1000000000 + s.trim).toNat) :
    advanceClock s =
      { s with
        elapsed := s.elapsed + (1000000000 + s.trim).toNat
        boundaryAt := some (s.elapsed + (1000000000 + s.trim).toNat)
        boundaryWaits := true
        time := { s.time with
          q := s.time.q + (1000000000 + s.trim).toNat - 4096000000000
          ms := if s.time.ms + 1 = 86400000 then 0 else s.time.ms + 1
          date :=
            if s.time.ms + 1 = 86400000 then if s.time.date = 65535 then 0 else s.time.date + 1
            else s.time.date } } := by
  unfold advanceClock
  dsimp only
  have carries : ¬ s.time.q + s.increment < millisecondUnits := Nat.not_lt.2 carries
  rw [if_neg carries, TimeBase.nextMs_eq]
  rfl

/-- Settles O12: the four forms of a tick, after what has come due. -/
theorem tickAddsTheTrimmedIncrement : Obligations.TickAddsTheTrimmedIncrement := by
  intro s u settled
  refine ⟨fun run below => ?_, fun run carries => ?_, fun lost qualifies => ?_, fun lost idle => ?_⟩ <;>
    refine congrArg Host.Outcome.next ?_
  · exact (tick_running settled run).trans (advanceClock_below below)
  · exact (tick_running settled run).trans (advanceClock_carries carries)
  · rw [tick_still settled lost, countUntrimmed, if_pos qualifies]
    rfl
  · rw [tick_still settled lost, countUntrimmed, if_neg (by simp [idle])]

/-! ### The staged set -/

section StagedSet

variable {p : Port} {date : BitVec 16} {ms : BitVec 32} {s : State}

/-- Settles O16: both modes store a time base and answer from it. -/
theorem stagedSetIsStoredOrWithdrawn : Obligations.StagedSetIsStoredOrWithdrawn := by
  intro p date ms s run right
  have right : ((s.idleFrame p).port p).rights.time = true := by rw [s.rights_idleFrame, right]
  refine ⟨fun inDay => ?_, ?_⟩
  · have whole : ms.toNat / 1000 * 1000 = ms.toNat - ms.toNat % 1000 := by omega
    have answer : serveSetTime p (setTimeArguments date ms 1) (s.idleFrame p) =
        stageSet p date.toNat ms.toNat (s.idleFrame p) := serveSetTime_atMark right
    have inDay : ¬ dayMs ≤ ms.toNat := Nat.not_le.2 inDay
    rw [stageSet, if_neg inDay, whole] at answer
    refine congrArg Host.Outcome.next
      ((takeRequest_accepted run (frameArguments_setTimeFrame date ms 1) rfl answer).trans ?_)
    exact State.respond_of_ports rfl
  · have answer : serveSetTime p (setTimeArguments date ms 2) (s.idleFrame p) = withdrawSet (s.idleFrame p) :=
      serveSetTime_withdraw right
    refine congrArg Host.Outcome.next
      ((takeRequest_accepted run (frameArguments_setTimeFrame date ms 2) rfl answer).trans ?_)
    exact State.respond_of_ports rfl

end StagedSet

/-! ### The handover settings -/

theorem lapseActionOf_eq (action : Byte) :
    lapseActionOf action.toNat =
      if 1 < action.toNat then none else some (if action = 0 then .revert else .standing) := by
  by_cases zero : action = 0
  · subst zero; rfl
  · by_cases one : action = 1
    · subst one; rfl
    · have above : 1 < action.toNat := by bv_omega
      rw [if_pos above]
      unfold lapseActionOf
      split
      · omega
      · omega
      · rfl

/-- A field of one byte. -/
theorem argField_byte {args : List Byte} {k : Nat} {b : Byte} (h : args[k]? = some b) : argField args k 1 = b.toNat := by
  obtain ⟨hk, rfl⟩ := List.getElem?_eq_some_iff.1 h
  rw [argField, List.drop_eq_getElem_cons hk, List.take_succ_cons, List.take_zero]
  exact Nat.zero_add _

section SetHandover

variable {p : Port} {release accept limit action crew : Byte} {s : State}

/-- SET_HANDOVER, check by check (R144). -/
theorem serveSetHandover_eq :
    serveSetHandover p [release, accept, limit, action, crew] s =
      if (s.port p).rights.config = false then .refuse .denied 0
      else if 1 < action.toNat then .refuse .range action.toNat
      else if 15 < crew.toNat then .refuse .range crew.toNat
      else
        let settings : HandoverSettings :=
          ⟨max 1 (min 240 release.toNat), max 1 (min 30 accept.toNat), min 7 limit.toNat,
            if action = 0 then .revert else .standing, crew.toNat⟩
        .accept (s.withDuty { s.duty with settings := settings }) settings.bytes := by
  have field (k : Nat) (b : Byte) (h : [release, accept, limit, action, crew][k]? = some b) := argField_byte h
  unfold serveSetHandover clamp
  rw [field 0 release rfl, field 1 accept rfl, field 2 limit rfl, field 3 action rfl, field 4 crew rfl, lapseActionOf_eq,
    Nat.zero_max]
  cases (s.port p).rights.config
  · rfl
  · by_cases unknown : 1 < action.toNat
    · simp only [unknown, if_true]
      rfl
    · simp only [unknown, if_false]
      rfl

end SetHandover

/-- Settles O50: the checks of R144 in order, and then the five settings. -/
theorem handoverSettingsAreClampedAndStored : Obligations.HandoverSettingsAreClampedAndStored := by
  intro p release accept limit action crew s run
  have outcome : exec (.setHandover p [5, release, accept, limit, action, crew]) s = .next (s.reply p 0x36 _) :=
    congrArg Host.Outcome.next (takeRequest_served run rfl rfl)
  rw [serveSetHandover_eq, s.rights_idleFrame] at outcome
  dsimp only
  split
  · next denied => rw [outcome, if_pos denied, State.reply]
  next permitted =>
  split
  · next unknown => rw [outcome, if_neg permitted, if_pos unknown, State.reply]
  next known =>
  split
  · next high => rw [outcome, if_neg permitted, if_neg known, if_pos high, State.reply]
  next inRange =>
  rw [outcome, if_neg permitted, if_neg known, if_neg inRange]
  exact congrArg Host.Outcome.next (State.respond_of_ports rfl)

end Sys2Proof.Machine
end
section
/-!
SUPPORT. Marks that are not measured (R21, R22, R25), edges of a line (R41, R43, R48), and the place of an activation in the ranked
list (R69, R70).
-/

namespace Sys2Proof.Machine

/-! ### Marks that are not measured -/

theorem takeMark_untaken {s : State} (h : s.takesMark = false) : takeMark s = s := by simp [takeMark, h]

theorem takeMark_accepted {s : State} (taken : s.takesMark = true) (accepted : s.acceptsMark = true) :
    takeMark s = acceptMark s := by
  simp [takeMark, taken, accepted]

/-- R22: a rejected mark only counts. -/
theorem takeMark_rejected {s : State} (taken : s.takesMark = true) (rejected : s.acceptsMark = false) :
    takeMark s =
      { s with discipline := { s.discipline with rejectedMarks :=
          if s.discipline.rejectedMarks < 65535 then s.discipline.rejectedMarks + 1 else 65535 } } := by
  rw [takeMark, if_pos taken, if_neg (by simp [rejected])]
  rfl

/-- No staged set is applied at an accepted mark (R15). -/
theorem acceptMark_unstaged {s : State} (h : s.time.staged = none ∨ s.trip.burst.isSome = true) :
    acceptMark s =
      if s.time.quality = .unset then setLastMark (restartMarkTimers s)
      else measureMark s.discipline.missingMark.isSome (restartMarkTimers s) := by
  unfold acceptMark
  dsimp only
  split
  · next x staged closed =>
    have staged : s.time.staged = some x := staged
    have closed : s.trip.burst = none := closed
    simp [staged, closed] at h
  · rfl

/-- R15: a staged set is applied at an accepted mark while no burst is open. -/
theorem acceptMark_staged {s : State} {x : StagedSet} (staged : s.time.staged = some x) (closed : s.trip.burst = none) :
    acceptMark s = applyStagedSet x (restartMarkTimers s) := by
  have staged' : (restartMarkTimers s).time.staged = some x := staged
  have closed' : (restartMarkTimers s).trip.burst = none := closed
  unfold acceptMark
  simp only [staged', closed']

/-- Settles O17: the three ways a mark ends without being measured. -/
theorem unmeasuredMarksTouchOnlyTheDiscipline : Obligations.UnmeasuredMarksTouchOnlyTheDiscipline := by
  refine ⟨fun s h => ?_, fun s at_ last run fresh early => ?_, fun s taken accepted unset unstaged => ?_⟩
  · refine congrArg Host.Outcome.next (takeMark_untaken ?_)
    rcases h with h | h <;> simp [State.takesMark, h]
  · have taken : s.takesMark = true := by simp [State.takesMark, run, fresh]
    have rejected : s.acceptsMark = false := by
      simp only [State.acceptsMark, last, decide_eq_false_iff_not, Nat.not_le]
      exact early
    exact congrArg Host.Outcome.next (takeMark_rejected taken rejected)
  · refine congrArg Host.Outcome.next ?_
    rw [takeMark_accepted taken accepted, acceptMark_unstaged unstaged, if_pos unset]
    rfl

/-! ### Edges -/

/-- The logical level of a line (R41), spelled out by polarity. -/
theorem Polarity.level_eq (p : Polarity) (high : Bool) :
    p.level high = match p with | .activeHigh => high | .activeLow => !high := by
  cases p <;> rfl

/-- What an edge makes of a point whose line now has a logical level (R41, R43, R48). -/
def Point.edged (x : Point) (level : Bool) (now : Instant) (elapsed : Nat) : Point :=
  match x.chatter with
  | .suppressed edges _ =>
    { x with
      chatter := .suppressed (if edges < 65535 then edges + 1 else 65535)
        (elapsed + x.entry.chatterWindow * 1000 * 4096000000000) }
  | _ =>
    if x.debouncing.isSome then { x with debouncing := none }
    else if level = x.active then x
    else { x with debouncing := some ⟨now, elapsed + x.entry.debounce * 4096000000000, false⟩ }

theorem Point.edged_unsuppressed {x : Point} (h : ∀ edges w, x.chatter ≠ .suppressed edges w) (level : Bool)
    (now : Instant) (elapsed : Nat) :
    x.edged level now elapsed =
      if x.debouncing.isSome then { x with debouncing := none }
      else if level = x.active then x
      else { x with debouncing := some ⟨now, elapsed + x.entry.debounce * 4096000000000, false⟩ } := by
  unfold Point.edged
  split
  · next edges w suppressed => exact absurd suppressed (h edges w)
  · rfl

theorem takeEdge_eq (n : Fin 32) (s : State) :
    takeEdge n s = s.withPoint n ((s.point n).edged (s.lineActive n) s.now s.elapsed) := by
  unfold takeEdge
  dsimp only
  split
  · next edges expiry suppressed =>
    rw [Point.edged, suppressed]
    rfl
  · next d waiting unsuppressed =>
    rw [Point.edged_unsuppressed fun e w h => unsuppressed e w h, if_pos (by rw [waiting]; rfl)]
    rfl
  · next idle unsuppressed =>
    have awake : ¬ (s.point n).debouncing.isSome = true := by simp [idle]
    rw [Point.edged_unsuppressed fun e w h => unsuppressed e w h, if_neg awake]
    split
    · exact (s.withPoint_point n).symm
    · rfl

/-- Settles O23: the line is sampled, and a change of a watched one is an edge. -/
theorem edgeActsThroughTheDebounce : Obligations.EdgeActsThroughTheDebounce := by
  intro n high s
  refine ⟨fun same => ?_, fun changed unwatched => ?_, fun changed run watched => ?_⟩ <;>
    refine congrArg Host.Outcome.next ?_ <;> unfold sampleLine
  · rw [if_pos same]
  · have unwatched : ¬ (s.running && (s.point n).entry.mode != .off) = true := by
      rcases unwatched with h | h <;> simp [h]
    rw [if_neg changed]
    exact if_neg unwatched
  · have watched : (s.running && (s.point n).entry.mode != .off) = true := by simp [run, watched]
    have level : ({ s with lines := putBit s.lines n.val high } : State).lineActive n =
        match (s.point n).entry.polarity with | .activeHigh => high | .activeLow => !high := by
      rw [← Polarity.level_eq, State.lineActive]
      exact congrArg _ (getLsbD_putBit_self _ _ _ n.isLt)
    rw [if_neg changed]
    refine (if_pos watched).trans ((takeEdge_eq n _).trans ?_)
    rw [level]
    rfl

/-! ### The ranked list -/

/-- Settles O30: the place by `rankInto_between`, the order of entry the number of activations before it. -/
theorem activationIsRankedByItsInstant : Obligations.ActivationIsRankedByItsInstant := by
  intro t n i sorted _
  obtain ⟨before, later, split, earlier, after, placed⟩ :=
    rankInto_between ⟨n, i, t.ranked.length + t.overflow⟩ sorted
  exact ⟨before, later, t.ranked.length + t.overflow, split, earlier, after, congrArg (List.take 16) placed,
    sorted.rank n i, rfl, rfl, rfl, rfl⟩

end Sys2Proof.Machine
end
section
/-!
SUPPORT. The requests about a port's own notices and alarm (R158 to R165): a port unit replaced and answered, the line after a change
of the pending-and-enabled notices, and the compare of the alarm.
-/

namespace Sys2Proof.Machine

/-! ### Frames that the port refuses -/

section Refused

variable {p : Port} {code : Byte} {fits : Nat → Bool} {serve : List Byte → State → Answer} {rest : List Byte} {s : State}

/-- R170, check 1. -/
theorem takeRequest_misshaped (run : s.running = true) (shape : frameArguments rest = none) :
    takeRequest p code fits serve rest s = s.refusedAt p code .frame (min 255 (1 + rest.length)) := by
  simpa [run, shape] using takeRequest_cases p code fits serve rest s

/-- R170, check 3. -/
theorem takeRequest_unfit {args : List Byte} (run : s.running = true) (shape : frameArguments rest = some args)
    (fit : fits args.length = false) :
    takeRequest p code fits serve rest s = s.refusedAt p code .frame args.length := by
  simpa [run, shape, fit] using takeRequest_cases p code fits serve rest s

/-- No request is taken in BACKUP (R168, R178). -/
theorem takeRequest_backup (backup : s.running = false) : takeRequest p code fits serve rest s = s := by
  simpa [backup] using takeRequest_cases p code fits serve rest s

end Refused

/-! ### A port unit replaced and answered -/

section Replaced

variable (s : State) (p : Port) (u : PortUnit)

theorem State.respond_withPort (r : Response) : (s.withPort p u).respond p r = s.withPort p { u with response := r } := by
  simp [State.respond]

theorem State.okAt_withPort (payload : List Byte) :
    (s.withPort p u).okAt p payload = s.withPort p { u with frame := none, response := .ok payload } := by
  simp [State.okAt]

theorem State.withPort_idleFrame : (s.idleFrame p).withPort p u = s.withPort p u := by
  simp [State.idleFrame]

end Replaced

/-! ### The top notice -/

/-- R163: the top notice is the lowest bit of the set. -/
theorem topNotice_spec (wanted : NoticeSet) :
    if wanted = 0 then topNotice wanted = 0xFF
    else topNotice wanted < 7 ∧ wanted.getLsbD (topNotice wanted) = true ∧
      ∀ j, j < topNotice wanted → wanted.getLsbD j = false := by
  unfold topNotice
  cases found : (List.range 7).find? fun k => wanted.getLsbD k with
  | none =>
    have zero : wanted = 0 := BitVec.eq_of_getLsbD_eq fun k hk => by
      simpa using List.find?_eq_none.1 found k (List.mem_range.2 hk)
    rw [if_pos zero]
    rfl
  | some k =>
    obtain ⟨bit, mem, lower⟩ := List.find?_range_eq_some.1 found
    have nonzero : wanted ≠ 0 := by
      rintro rfl
      simp at bit
    rw [if_neg nonzero]
    exact ⟨List.mem_range.1 mem, bit, fun j hj => by simpa using lower j hj⟩

theorem beBytes_one (v : Nat) : beBytes 1 v = [BitVec.ofNat 8 v] := by simp [beBytes]

theorem Line.code_eq (l : Line) : l.code = if l = .active then 1 else 0 := by
  cases l <;> simp [Line.code]

/-- Settles O52: READ_NOTICES answers from the port unit; the lowest bit of the pending-and-enabled set stands highest. -/
theorem topNoticeIsTheHighestPendingAndEnabled : Obligations.TopNoticeIsTheHighestPendingAndEnabled := by
  intro p s run
  refine ⟨fun arg => congrArg Host.Outcome.next (takeRequest_unfit (args := [arg]) run rfl rfl),
    topNotice (s.port p).wanted, topNotice_spec (s.port p).wanted, ?_⟩
  have outcome : exec (.readNotices p [0]) s =
      .next (s.reply p 0x40 (serveReadNotices p [] (s.idleFrame p))) :=
    congrArg Host.Outcome.next (takeRequest_served run rfl rfl)
  have unit : (s.idleFrame p).port p = { s.port p with frame := none } := s.idleFrame_self p
  rw [outcome, serveReadNotices, State.reply, State.respond_idleFrame, unit]
  refine congrArg (fun l => Host.Outcome.next (s.okAt p l)) ?_
  rw [noticesPayload, noticeByte, noticeByte, beBytes_one, beBytes_one, beBytes_one, Line.code_eq]
  rfl

/-! ### The line -/

/-- The notices that a change of one notice makes pending and enabled (R165). -/
theorem gained_iff (pending enabled : NoticeSet) {n : Notice} {on : Bool} (changed : pending.has n ≠ on) :
    (putBit pending n.bit on &&& enabled) &&& ~~~(pending &&& enabled) ≠ 0 ↔ on = true ∧ enabled.has n = true := by
  have bit (k : Nat) (hk : k < 7) :
      ((putBit pending n.bit on &&& enabled) &&& ~~~(pending &&& enabled)).getLsbD k =
        ((putBit pending n.bit on).getLsbD k && enabled.getLsbD k && !(pending.getLsbD k && enabled.getLsbD k)) := by
    simp [hk]
  have other (k : Nat) (h : k ≠ n.bit) : (putBit pending n.bit on).getLsbD k = pending.getLsbD k :=
    getLsbD_putBit_other _ _ h
  have self : (putBit pending n.bit on).getLsbD n.bit = on := getLsbD_putBit_self _ _ _ n.bit_lt
  constructor
  · intro nonzero
    by_contra none
    refine nonzero (BitVec.eq_of_getLsbD_eq fun k hk => ?_)
    rw [bit k hk]
    by_cases h : k = n.bit
    · subst h
      rw [self]
      rcases on with _ | _
      · simp
      · have disabled : enabled.getLsbD n.bit = false := by simpa [NoticeSet.has] using none
        simp [disabled]
    · rw [other k h]
      cases pending.getLsbD k <;> cases enabled.getLsbD k <;> simp
  · rintro ⟨rfl, enabled_n⟩ zero
    have unset : pending.getLsbD n.bit = false := by simpa [NoticeSet.has] using changed
    have set : enabled.getLsbD n.bit = true := enabled_n
    have gained := bit n.bit n.bit_lt
    rw [zero, self, unset, set] at gained
    simp at gained

/-- The line with no gap, spelled out (R164). -/
theorem plainLine_eq (wanted : NoticeSet) : plainLine wanted = if wanted = 0 then .inactive else .active := rfl

/-- How the line moves, by style and line (R164 to R166). -/
theorem lineAfter_eq (elapsed : Nat) (before : NoticeSet) (again : Bool) (u : PortUnit) :
    lineAfter elapsed before again u =
      match u.style, u.line with
      | .level, _ => if u.wanted = 0 then .inactive else .active
      | .pulse, .gap e => .gap e
      | .pulse, .inactive => if u.wanted = 0 then .inactive else .active
      | .pulse, .active =>
        if u.wanted = 0 then .inactive
        else if again = false ∧ u.wanted &&& ~~~before = 0 then .active else .gap (elapsed + 50 * 4096000000) := by
  unfold lineAfter
  cases u.style <;> cases u.line
  · rfl
  · rfl
  · rfl
  · rfl
  · dsimp only
    congr 1
    cases again
    · by_cases same : u.wanted &&& ~~~before = 0
      · simp [same]
      · simp only [Bool.false_or, bne_iff_ne, ne_eq, same, not_false_eq_true, if_true, and_false, if_false]
        rfl
    · rfl
  · rfl

theorem PortUnit.withPending_line (u : PortUnit) (elapsed : Nat) (again : Bool) (pending : NoticeSet) :
    (u.withPending elapsed again pending).line =
      match u.style, u.line with
      | .level, _ => if pending &&& u.enabled = 0 then .inactive else .active
      | .pulse, .gap e => .gap e
      | .pulse, .inactive => if pending &&& u.enabled = 0 then .inactive else .active
      | .pulse, .active =>
        if pending &&& u.enabled = 0 then .inactive
        else if again = false ∧ (pending &&& u.enabled) &&& ~~~(u.pending &&& u.enabled) = 0 then .active
        else .gap (elapsed + 50 * 4096000000) :=
  lineAfter_eq ..

/-- The port unit after a notice that stood otherwise is set (R157, R158). -/
theorem PortUnit.setNotice_changed {u : PortUnit} {n : Notice} {on : Bool} (e : Nat) (changed : u.pending.has n ≠ on) :
    u.setNotice e n on = u.withPending e false (putBit u.pending n.bit on) :=
  if_neg changed

theorem setNotice_changed {p : Port} {n : Notice} {on : Bool} {s : State} (run : s.running = true)
    (changed : (s.port p).pending.has n ≠ on) :
    setNotice p n on s = s.withPort p ((s.port p).withPending s.elapsed false (putBit (s.port p).pending n.bit on)) := by
  rw [setNotice, if_pos run, PortUnit.setNotice_changed _ changed]

/-- A raise of a pending notice moves nothing, and a port in BACKUP takes none. -/
theorem setNotice_unmoved {p : Port} {n : Notice} {on : Bool} {s : State}
    (h : s.running = false ∨ (s.port p).pending.has n = on) : setNotice p n on s = s := by
  unfold setNotice
  split
  · next run =>
    have same : (s.port p).pending.has n = on := h.resolve_left (by simp [run])
    rw [PortUnit.setNotice, if_pos same, State.withPort_port]
  · rfl

/-- Settles O55: a changed notice drives the line through `lineAfter`, which the style and the line decide. -/
theorem pulseGapEndDrivesTheLine : Obligations.PulseGapEndDrivesTheLine := by
  refine ⟨fun p n on s => ⟨setNotice_unmoved, fun run changed => ?_⟩, fun p s => ⟨?_, ?_, ?_⟩⟩
  · have unit : (setNotice p n on s).port p =
        (s.port p).withPending s.elapsed false (putBit (s.port p).pending n.bit on) := by
      rw [setNotice_changed run changed, State.port_withPort_self]
    rw [unit]
    have line := (s.port p).withPending_line s.elapsed false (putBit (s.port p).pending n.bit on)
    refine ⟨by rw [setNotice_changed run changed]; rfl, fun m => ?_, fun level => ?_, fun e pulse gap => ?_,
      fun pulse inactive => ?_, fun pulse active => ?_⟩
    · split
      · next same => subst same; exact NoticeSet.has_putBit_self ..
      · next other => exact NoticeSet.has_putBit_other _ _ other
    · simp only [level] at line
      exact line
    · simp only [pulse, gap] at line
      exact line
    · simp only [pulse, inactive] at line
      exact line
    · have gained := gained_iff (s.port p).pending (s.port p).enabled changed
      simp only [pulse, active, true_and] at line
      refine line.trans ?_
      refine if_congr Iff.rfl rfl ?_
      by_cases more : on = true ∧ (s.port p).enabled.has n = true
      · exact (if_neg (gained.2 more)).trans (if_pos more).symm
      · exact (if_pos (not_not.1 fun h => more (gained.1 h))).trans (if_neg more).symm
  · intro e gap ended
    refine congrArg Host.Outcome.next ?_
    rw [endPulseGap, PortUnit.endGap, gap]
    dsimp only
    rw [if_pos ended]
    rfl
  · intro e gap early
    refine congrArg Host.Outcome.next ?_
    rw [endPulseGap, PortUnit.endGap, gap]
    dsimp only
    rw [if_neg (Nat.not_le.2 early), State.withPort_port]
  · rintro (line | line) <;>
    · refine congrArg Host.Outcome.next ?_
      rw [endPulseGap, PortUnit.endGap, line]
      exact s.withPort_port p

end Sys2Proof.Machine
end
section
/-!
SUPPORT. CLEAR_NOTICES and SET_NOTICES (R161, R162), SET_ALARM and the compare of the alarm (R159, R160).
-/

namespace Sys2Proof.Machine

/-! ### CLEAR_NOTICES and SET_NOTICES -/

section NoticeRequests

variable {p : Port} {s : State}

/-- A port unit replaced by a request and answered there. -/
theorem State.respond_replaced (s : State) (p : Port) {u v : PortUnit} {payload : List Byte}
    (same : v = { u with frame := none }) :
    ((s.idleFrame p).withPort p v).respond p (.ok payload) = (s.withPort p u).okAt p payload := by
  rw [State.respond_withPort, State.okAt_withPort, State.withPort_idleFrame, same]

/-- The marks of a CLEAR_NOTICES mask that name latched notices (R162). -/
theorem latched_marks (mask : Nat) :
    BitVec.ofNat 7 mask &&& latchedNotices = BitVec.ofNat 7 (mask % 16) := by
  apply BitVec.eq_of_toNat_eq
  have low : latchedNotices.toNat = 2 ^ 4 - 1 := rfl
  rw [BitVec.toNat_and, low, Nat.and_two_pow_sub_one_eq_mod, BitVec.toNat_ofNat, BitVec.toNat_ofNat]
  omega

/-- The port unit after CLEAR_NOTICES (R162, R164 to R166). -/
theorem PortUnit.clearNotices_eq (u : PortUnit) (elapsed mask : Nat) :
    u.clearNotices elapsed (BitVec.ofNat 7 mask) =
      let pending := u.pending &&& ~~~(BitVec.ofNat 7 (mask % 16))
      { u with
        pending := pending
        line :=
          match u.style, u.line with
          | .level, _ => if pending &&& u.enabled = 0 then .inactive else .active
          | .pulse, .gap e => .gap e
          | .pulse, .inactive => if pending &&& u.enabled = 0 then .inactive else .active
          | .pulse, .active =>
            if pending &&& u.enabled = 0 then .inactive else .gap (elapsed + 50 * 4096000000) } := by
  have line := u.withPending_line elapsed true (u.pending &&& ~~~(BitVec.ofNat 7 (mask % 16)))
  rw [PortUnit.clearNotices, latched_marks]
  refine (congrArg (fun l => { u with pending := u.pending &&& ~~~(BitVec.ofNat 7 (mask % 16)), line := l }) line).trans ?_
  cases u.style <;> cases u.line <;> simp

/-- The port unit after SET_NOTICES (R161, R164, R165; log entry 20). -/
theorem PortUnit.setEnables_eq (u : PortUnit) (elapsed : Nat) (enabled : NoticeSet) (style : Style) :
    u.setEnables elapsed enabled style =
      let plain : Line := if u.pending &&& enabled = 0 then .inactive else .active
      { u with
        enabled := enabled
        style := style
        line :=
          if style ≠ u.style then plain
          else match u.style, u.line with
            | .level, _ => plain
            | .pulse, .gap e => .gap e
            | .pulse, .inactive => plain
            | .pulse, .active =>
              if u.pending &&& enabled = 0 then .inactive
              else if (u.pending &&& enabled) &&& ~~~(u.pending &&& u.enabled) = 0 then .active
              else .gap (elapsed + 50 * 4096000000) } := by
  have line := lineAfter_eq elapsed u.wanted false { u with enabled := enabled, style := style }
  unfold PortUnit.setEnables
  dsimp only
  rw [line]
  by_cases same : style = u.style
  · subst same
    simp only [PortUnit.wanted, if_true, ne_eq, not_true_eq_false, if_false, true_and]
    rfl
  · simp only [same, if_false, ne_eq, not_false_eq_true, if_true, plainLine_eq, PortUnit.wanted]

/-- The style that a byte names (R188). -/
theorem styleOf_eq (style : Byte) :
    styleOf style.toNat = if 1 < style.toNat then none else some (if style = 0 then .level else .pulse) := by
  by_cases zero : style = 0
  · subst zero; rfl
  · by_cases one : style = 1
    · subst one; rfl
    · have above : 1 < style.toNat := by bv_omega
      rw [if_pos above]
      unfold styleOf
      split
      · omega
      · omega
      · rfl

theorem Style.code_of_byte {style : Byte} (known : ¬ 1 < style.toNat) :
    (if style = 0 then Style.level else Style.pulse).code = style := by
  have : style = 0 ∨ style = 1 := by bv_omega
  rcases this with rfl | rfl <;> rfl

theorem exec_clearNotices (mask : Byte) (run : s.running = true) :
    exec (.clearNotices p [1, mask]) s =
      .next ((s.withPort p ((s.port p).clearNotices s.elapsed (BitVec.ofNat 7 mask.toNat))).okAt p
        (noticeByte ((s.port p).clearNotices s.elapsed (BitVec.ofNat 7 mask.toNat)).pending)) := by
  refine congrArg Host.Outcome.next ((takeRequest_served (args := [mask]) run rfl rfl).trans ?_)
  rw [serveClearNotices, s.idleFrame_self, argField_oneByte, State.reply]
  exact s.respond_replaced p rfl

theorem exec_setNotices (enable style : Byte) (run : s.running = true) :
    exec (.setNotices p [2, enable, style]) s =
      if 1 < style.toNat then .next (s.refusedAt p 0x41 .range style.toNat)
      else
        let u := (s.port p).setEnables s.elapsed (BitVec.ofNat 7 enable.toNat)
          (if style = 0 then .level else .pulse)
        .next ((s.withPort p u).okAt p (noticeByte u.enabled ++ [u.style.code] ++ noticeByte u.pending)) := by
  have served : takeRequest p 0x41 (exactly 2) (serveSetNotices p) [2, enable, style] s =
      s.reply p 0x41 (serveSetNotices p [enable, style] (s.idleFrame p)) := takeRequest_served run rfl rfl
  refine (congrArg Host.Outcome.next served).trans ?_
  rw [serveSetNotices, argField_byte (b := style) rfl, argField_byte (b := enable) rfl, styleOf_eq]
  by_cases unknown : 1 < style.toNat
  · rw [if_pos unknown, if_pos unknown]
    rfl
  · rw [if_neg unknown, if_neg unknown]
    dsimp only
    rw [s.idleFrame_self]
    exact congrArg Host.Outcome.next (s.respond_replaced p rfl)

end NoticeRequests

/-- Settles O53: both requests replace the port unit alone, and `lineAfter` gives its line. -/
theorem noticeRequestsMoveTheLine : Obligations.NoticeRequestsMoveTheLine := by
  refine ⟨fun p mask s run => ?_, fun p enable style s run => ?_⟩
  · rw [exec_clearNotices mask run, PortUnit.clearNotices_eq]
    dsimp only
    rw [noticeByte, beBytes_one] <;> rfl
  · rw [exec_setNotices enable style run]
    dsimp only
    split
    · rfl
    · next known =>
      rw [PortUnit.setEnables_eq]
      dsimp only
      rw [Style.code_of_byte known, noticeByte, noticeByte, beBytes_one, beBytes_one]
      rfl

/-! ### The alarm -/

/-- The compare of an alarm at an instant (R159): none in UNSET. -/
def alarmCompare (quality : Quality) (now : Instant) : Option Instant → Bool
  | none => false
  | some a => decide (quality ≠ .unset) && decide (now.circleFrom a ≤ 32768 * 86400000 * 1000)

theorem State.alarmHolds_eq (s : State) (p : Port) :
    s.alarmHolds p = alarmCompare s.time.quality s.now (s.port p).alarm := by
  unfold State.alarmHolds alarmCompare
  cases (s.port p).alarm with
  | none => rfl
  | some a => cases s.time.quality <;> rfl

/-- What the compare of a port's alarm does in RUN: its notice follows, its line moves, and nothing else differs. -/
theorem evaluateAlarm_spec {s : State} (p : Port) (run : s.running = true) :
    evaluateAlarm p s = { s with ports := s.ports.set p ((evaluateAlarm p s).port p) } ∧
      (evaluateAlarm p s).port p = { s.port p with
        pending := ((evaluateAlarm p s).port p).pending, line := ((evaluateAlarm p s).port p).line } ∧
      ((evaluateAlarm p s).port p).pending.has .alarm = alarmCompare s.time.quality s.now (s.port p).alarm ∧
      ∀ m, m ≠ .alarm → ((evaluateAlarm p s).port p).pending.has m = (s.port p).pending.has m := by
  obtain ⟨_, ports, holds, others, _⟩ := setNotice_spec p .alarm (s.alarmHolds p) s
  refine ⟨?_, ports p, (holds run).trans (s.alarmHolds_eq p), others⟩
  have replaced : evaluateAlarm p s = s.withPort p ((s.port p).setNotice s.elapsed .alarm (s.alarmHolds p)) := if_pos run
  rw [replaced, State.port_withPort_self]
  rfl

section SetAlarm

variable {p : Port} {args : List Byte} {s : State}

/-- The alarm that a SET_ALARM frame names (R160). -/
def alarmOf (args : List Byte) : Option Instant :=
  if argField args 0 1 = 0 then none else some ⟨argField args 1 2, argField args 3 4, 0⟩

/-- SET_ALARM, check by check (R160). -/
theorem serveSetAlarm_eq :
    serveSetAlarm p args s =
      if argField args 0 1 ≠ 0 ∧ 86400000 ≤ argField args 3 4 then .refuse .range 0
      else
        let t := setAlarmTo p (alarmOf args) s
        .accept t (optInstantBytes (alarmOf args) ++ flagByte ((t.port p).pending.has .alarm)) := by
  unfold serveSetAlarm alarmOf onOff
  by_cases off : argField args 0 1 = 0
  · simp [off]
  · have on : (argField args 0 1 != 0) = true := by simpa using off
    rw [if_pos on]
    by_cases late : 86400000 ≤ argField args 3 4
    · rw [if_pos (show dayMs ≤ argField args 3 4 from late), if_pos ⟨off, late⟩]
    · rw [if_neg (show ¬ dayMs ≤ argField args 3 4 from late), if_neg fun h => late h.2, if_neg off]

end SetAlarm

/-- Settles O54: SET_ALARM stores and compares; ALARM_REACHED compares at the tick of a boundary. -/
theorem alarmFollowsItsCompare : Obligations.AlarmFollowsItsCompare := by
  refine ⟨fun p args s run length => ?_, fun p s elsewhere => ?_, fun p s run boundary => ?_⟩
  · have served : exec (.setAlarm p (7 :: args)) s =
        .next (s.reply p 0x43 (serveSetAlarm p args (s.idleFrame p))) :=
      congrArg Host.Outcome.next
        (takeRequest_served run (frameArguments_cons length (by decide)) (by simp [exactly, length]))
    rw [serveSetAlarm_eq] at served
    dsimp only
    split
    · next late => rw [served, if_pos late, State.reply]
    next inDay =>
    rw [if_neg inDay] at served
    have stored : (s.idleFrame p).withPort p { (s.idleFrame p).port p with alarm := alarmOf args } =
        s.withPort p { s.port p with frame := none, alarm := alarmOf args } := by
      rw [s.idleFrame_self, State.withPort_idleFrame]
    have running : (s.withPort p { s.port p with frame := none, alarm := alarmOf args }).running = true := run
    obtain ⟨whole, unit, holds, others⟩ := evaluateAlarm_spec p running
    have set : setAlarmTo p (alarmOf args) (s.idleFrame p) =
        evaluateAlarm p (s.withPort p { s.port p with frame := none, alarm := alarmOf args }) :=
      congrArg (evaluateAlarm p) stored
    rw [set] at served
    refine ⟨_, served, ?_⟩
    generalize evaluateAlarm p (s.withPort p { s.port p with frame := none, alarm := alarmOf args }) = t at *
    rw [State.port_withPort_self] at unit holds others
    have compared : (t.port p).pending.has .alarm =
        match alarmOf args with
        | none => false
        | some a => decide (s.time.quality ≠ .unset) && decide (s.now.circleFrom a ≤ 32768 * 86400000 * 1000) :=
      holds
    rw [State.reply, State.respond_self]
    refine ⟨?_, ?_, compared, others⟩
    · rw [whole]
      simp [State.respond, State.withPort]
    · rw [unit]
      dsimp only
      rw [compared]
      rfl
  · refine congrArg Host.Outcome.next ?_
    have elsewhere : s.atBoundary = false := by simpa [State.atBoundary] using elsewhere
    rw [elsewhere]
    rfl
  · have boundary : s.atBoundary = true := by simp [State.atBoundary, boundary]
    have outcome : exec (.alarmReached p) s = .next (evaluateAlarm p s) :=
      congrArg Host.Outcome.next (if_pos boundary)
    obtain ⟨whole, _, holds, others⟩ := evaluateAlarm_spec p run
    refine ⟨_, outcome, whole, (evaluateAlarm_frame p s).2, ?_, others, fun same => ?_⟩
    · rw [holds]
      rfl
    · exact setNotice_unmoved (.inr (same.symm.trans (s.alarmHolds_eq p).symm))

end Sys2Proof.Machine
end
section
/-!
SUPPORT. What the operations of the blocks leave of the tallies' settings (R104, R114), and which notices they leave at the ports.
-/

namespace Sys2Proof.Machine

/-! ### A notice that no record and no due compare sets -/

/-- A notice stands at every port as it stood. -/
structure NoticeKept (n : Notice) (s t : State) : Prop where
  has : ∀ q, (t.port q).pending.has n = (s.port q).pending.has n

namespace NoticeKept

variable {n : Notice}

theorem refl (s : State) : NoticeKept n s s := ⟨fun _ => rfl⟩

theorem trans {s t u : State} (h : NoticeKept n s t) (k : NoticeKept n t u) : NoticeKept n s u :=
  ⟨fun q => (k.has q).trans (h.has q)⟩

theorem of_ports {s t : State} (h : t.ports = s.ports) : NoticeKept n s t :=
  ⟨fun q => by rw [State.port, h]; rfl⟩

theorem setNotice {m : Notice} (other : n ≠ m) (p : Port) (on : Bool) (s : State) :
    NoticeKept n s (setNotice p m on s) :=
  ⟨Kept.has_setNotice other p on s⟩

theorem produceAt (gap : n ≠ .gap) (events : n ≠ .events) (i : Instant) (o : Bool) (b : RecordBody) (s : State) :
    NoticeKept n s (produceAt i o b s) :=
  produceAt_of refl trans (fun _ _ => of_ports rfl) (setNotice gap) (setNotice events) i o b s

/-- A notice that is none of GAP, EVENTS and TALLY_DUE stands across whatever sets other notices alone. -/
theorem rules (gap : n ≠ .gap) (events : n ≠ .events) (due : n ≠ .tallyDue) : PortRules (n ≠ ·) (NoticeKept n) where
  refl := refl
  trans := trans
  silent _ _ ports _ _ _ := of_ports ports
  notice p _ on s other := setNotice other p on s
  record := produceAt gap events
  due := evaluateDue_of refl trans (fun _ _ _ => of_ports rfl) (produceAt gap events) (setNotice due)
  compare := compare_of refl trans (setNotice due)

end NoticeKept

/-! ### The settings of the tallies -/

/-- Every tally keeps its settings, and the unit stays as it is, paused or not. -/
structure SettingsKept (s t : State) : Prop where
  settings : TalliesKeepSettings s t
  paused : t.tally.paused = s.tally.paused

theorem ended_settings (x : Tally) : x.ended.config = x.config ∧ x.ended.dueValue = x.dueValue := by
  unfold Tally.ended Tally.preset
  split <;> exact ⟨rfl, rfl⟩

theorem entered_settings (x : Tally) : x.entered.config = x.config ∧ x.entered.dueValue = x.dueValue := by
  unfold Tally.entered Tally.started
  split <;> exact ⟨rfl, rfl⟩

theorem evaluated_settings (x : Tally) (holds : Bool) :
    (x.evaluated holds).config = x.config ∧ (x.evaluated holds).dueValue = x.dueValue := by
  unfold Tally.evaluated
  split
  · exact entered_settings x
  · exact ⟨rfl, rfl⟩
  · exact ended_settings x
  · exact ⟨rfl, rfl⟩

theorem closed_settings (x : Tally) : x.closed.config = x.config ∧ x.closed.dueValue = x.dueValue := by
  unfold Tally.closed
  split <;> exact ⟨rfl, rfl⟩

theorem restored_settings (x : Tally) (holds : Bool) :
    (x.restored holds).config = x.config ∧ (x.restored holds).dueValue = x.dueValue := by
  rw [Tally.restored_eq]
  exact evaluated_settings x holds

/-- The restore action leaves every tally its settings. -/
theorem tallyRestore_settings (s : State) : TalliesKeepSettings s (tallyRestore s) := by
  intro i
  rw [(tallyRestore_tally s).1 i]
  exact restored_settings ..

/-- The closing action leaves every tally its settings. -/
theorem tallyClosing_settings (s : State) : TalliesKeepSettings s (tallyClosing s) := by
  intro i
  rw [(tallyClosing_tally s).1 i]
  exact closed_settings _

theorem TalliesKeepSettings.trans {s t u : State} (h : TalliesKeepSettings s t) (k : TalliesKeepSettings t u) :
    TalliesKeepSettings s u :=
  fun i => ⟨(k i).1.trans (h i).1, (k i).2.trans (h i).2⟩

namespace SettingsKept

theorem of_tally {s t : State} (h : t.tally = s.tally) : SettingsKept s t :=
  ⟨fun i => by rw [State.entry, h]; exact ⟨rfl, rfl⟩, congrArg TallyUnit.paused h⟩

theorem refl (s : State) : SettingsKept s s := of_tally rfl

theorem trans {s t u : State} (h : SettingsKept s t) (k : SettingsKept t u) : SettingsKept s u :=
  ⟨h.settings.trans k.settings, k.paused.trans h.paused⟩

theorem withTime (s : State) (x : TimeBase) : SettingsKept s (s.withTime x) := of_tally rfl

theorem withTrip (s : State) (x : TripUnit) : SettingsKept s (s.withTrip x) := of_tally rfl

theorem withDuty (s : State) (x : DutyUnit) : SettingsKept s (s.withDuty x) := of_tally rfl

theorem withPoint (s : State) (n : Fin 32) (x : Point) : SettingsKept s (s.withPoint n x) := of_tally rfl

theorem notice {s t : State} (h : NoticeFrame s t) : SettingsKept s t := of_tally h.tally_eq

theorem allPoints {f : Fin 32 → State → State} (h : ∀ n s, SettingsKept s (f n s)) (s : State) :
    SettingsKept s (atAllPoints f s) :=
  atAllPoints_keeps (fun n _ k => k.trans (h n _)) (refl s)

theorem handInput (k : Nat) (v : Bool) (s : State) : SettingsKept s (handInput k v s) := by
  by_cases same : s.tally.paused = true ∨ s.tally.inputs.getLsbD k = v
  · rw [handInput_same k v s same]
    exact refl s
  · obtain ⟨unpaused, changed⟩ := not_or.1 same
    obtain ⟨entries, -, -⟩ := handInput_tally (Bool.eq_false_of_not_eq_true unpaused) changed
    refine ⟨fun i => ?_, handInput_paused k v s⟩
    rw [entries i]
    exact evaluated_settings ..

/-! ### The points and the trip unit -/

theorem raiseIf (c : Bool) (n : Notice) (s : State) : SettingsKept s (if c then raiseAtAll n s else s) := by
  cases c
  · exact refl s
  · exact notice (raiseAtAll_frame ..)

theorem latchActivation (n : Nat) (i : Instant) (s : State) : SettingsKept s (latchActivation n i s) := by
  unfold Machine.latchActivation
  split
  · exact (withTrip ..).trans ((notice (raiseAtAll_frame ..)).trans (handInput ..))
  · exact (withTrip ..).trans (raiseIf ..)
  · exact refl s

theorem takeTripChange (n : Fin 32) (a : Bool) (i : Instant) (s : State) :
    SettingsKept s (takeTripChange n a i s) := by
  unfold Machine.takeTripChange
  dsimp only
  split
  · exact (withTrip ..).trans (latchActivation ..)
  · exact withTrip ..

theorem producePoint (n : Fin 32) (a : Bool) (c : ChangeCause) (i : Instant) (o : Bool) (s : State) :
    SettingsKept s (producePoint n a c i o s) :=
  (withTrip ..).trans (notice (produceAt_frame ..))

theorem confirmChange (n : Fin 32) (a : Bool) (c : ChangeCause) (i : Instant) (o : Bool) (s : State) :
    SettingsKept s (confirmChange n a c i o s) := by
  have active : SettingsKept s (setActive n a s) := withPoint ..
  have handed (s : State) : SettingsKept s (Machine.handInput inputBurst true
      (Machine.handInput n.val a (Machine.producePoint n a c i o s))) :=
    (producePoint ..).trans ((handInput ..).trans (handInput ..))
  unfold Machine.confirmChange
  dsimp only
  split
  · exact active.trans (handInput ..)
  · exact active.trans (handInput ..)
  · exact active.trans (handed _)
  · exact active.trans ((handed _).trans (takeTripChange ..))

theorem takeEdge (n : Fin 32) (s : State) : SettingsKept s (takeEdge n s) := by
  rw [takeEdge_eq]
  exact withPoint ..

theorem setChatter (n : Fin 32) (c : Chatter) (s : State) : SettingsKept s (setChatter n c s) := withPoint ..

theorem releasePoint (n : Fin 32) (k : Nat) (s : State) : SettingsKept s (releasePoint n k s) := by
  have released : SettingsKept s (Machine.setChatter n .clear (produce false (.chatter n.val .released k) s)) :=
    (notice (produce_frame ..)).trans (setChatter ..)
  unfold Machine.releasePoint
  dsimp only
  split
  · exact released
  · exact released.trans (confirmChange ..)

theorem reportRelease (o : Bool) (n : Fin 32) (s : State) : SettingsKept s (reportRelease o n s) := by
  unfold Machine.reportRelease
  split
  · exact notice (produce_frame ..)
  · exact refl s

theorem invertLine (n : Fin 32) (s : State) : SettingsKept s (invertLine n s) := by
  unfold Machine.invertLine
  split
  · exact refl s
  · exact (withPoint s n _).trans (takeEdge n _)

theorem stopChatter (n : Fin 32) (s : State) : SettingsKept s (stopChatter n s) := by
  unfold Machine.stopChatter
  split
  · exact refl s
  · exact setChatter ..
  · exact releasePoint ..

theorem applySettings (n : Fin 32) (e : PointEntry) (s : State) : SettingsKept s (applySettings n e s) := by
  have stored : SettingsKept s (s.withPoint n { s.point n with entry := e }) := withPoint ..
  have inverted (c : Prop) [Decidable c] (t : State) : SettingsKept t (if c then t else Machine.invertLine n t) := by
    split
    · exact refl t
    · exact invertLine ..
  unfold Machine.applySettings
  dsimp only
  split
  · exact stored.trans ((inverted ..).trans (stopChatter ..))
  · exact stored.trans (inverted ..)

theorem takeFresh (n : Fin 32) (e : PointEntry) (s : State) : SettingsKept s (takeFresh n e s) :=
  (reportRelease ..).trans ((withPoint ..).trans (handInput ..))

theorem writeEntry (n : Fin 32) (e : PointEntry) (s : State) : SettingsKept s (writeEntry n e s) := by
  unfold Machine.writeEntry
  split
  · exact applySettings ..
  · exact takeFresh ..

theorem restorePoint (n : Fin 32) (s : State) : SettingsKept s (restorePoint n s) := by
  have released : SettingsKept s (Machine.setChatter n .clear (Machine.reportRelease true n s)) :=
    (reportRelease ..).trans (setChatter ..)
  unfold Machine.restorePoint
  dsimp only
  split
  · exact refl s
  · split
    · exact released
    · exact released.trans (withPoint ..)

theorem closeBurst (s : State) : SettingsKept s (closeBurst s) := by
  have final : SettingsKept s (finaliseFirstOut s) := by
    unfold finaliseFirstOut
    split
    · exact (withTrip ..).trans ((notice (produce_frame ..)).trans (notice (raiseAtAll_frame ..)))
    · exact refl s
  unfold Machine.closeBurst
  split
  · exact refl s
  · exact final.trans ((withTrip ..).trans (handInput ..))

/-! ### The duty unit -/

theorem produceHandover (o : Bool) (phase : HandoverPhase) (x y : Nat) (k : Option Nat) (r z : Nat) (s : State) :
    SettingsKept s (produceHandover o phase x y k r z s) :=
  notice (produceHandover_frame ..)

theorem reportHandover (o : Bool) (phase : HandoverPhase) (k : Nat) (s : State) :
    SettingsKept s (reportHandover o phase k s) :=
  notice (reportHandover_frame ..)

theorem applyRota (o : Bool) (s : State) : SettingsKept s (applyRota o s) := by
  unfold Machine.applyRota
  split
  · exact refl s
  · exact (withDuty ..).trans (notice (produce_frame ..))

theorem expireRelease (o : Bool) (s : State) : SettingsKept s (expireRelease o s) := by
  unfold Machine.expireRelease
  split
  · split
    · exact (withDuty ..).trans (reportHandover ..)
    · exact refl s
  · exact refl s

theorem lapse (o : Bool) (s : State) : SettingsKept s (lapse o s) := by
  unfold Machine.lapse
  dsimp only
  split
  · exact (produceHandover ..).trans (withDuty ..)
  · split
    · exact (produceHandover ..).trans ((withDuty ..).trans ((applyRota ..).trans (handInput ..)))
    · exact (produceHandover ..).trans (withDuty ..)

theorem expireAccept (o : Bool) (s : State) : SettingsKept s (expireAccept o s) := by
  unfold Machine.expireAccept
  split
  · split
    · split
      · exact (withDuty ..).trans (reportHandover ..)
      · exact lapse ..
    · exact refl s
  · exact refl s

theorem slotFalls (o : Bool) (due : Instant) (k : Nat) (x : Slot) (n : Nat) (s : State) :
    SettingsKept s (slotFalls o due k x n s) := by
  unfold Machine.slotFalls
  dsimp only
  split
  · exact withDuty ..
  · split
    · exact (withDuty ..).trans (reportHandover ..)
    · exact (withDuty ..).trans ((reportHandover ..).trans (reportHandover ..))
  · exact (withDuty ..).trans (reportHandover ..)
  · exact (withDuty ..).trans (reportHandover ..)

theorem checkSlots (o : Bool) (s : State) : SettingsKept s (checkSlots o s) := by
  unfold Machine.checkSlots
  split
  · exact refl s
  · split
    · exact withDuty ..
    · split
      · exact slotFalls ..
      · exact refl s

theorem dutyCheck (o : Bool) (s : State) : SettingsKept s (dutyCheck o s) := by
  have deadlines : SettingsKept s (Machine.expireAccept o (Machine.expireRelease o s)) :=
    (expireRelease ..).trans (expireAccept ..)
  unfold Machine.dutyCheck
  dsimp only
  split
  · split
    · exact deadlines
    · exact deadlines.trans ((checkSlots ..).trans (expireRelease ..))
  · exact refl s

/-! ### The time base -/

theorem handInstant (s : State) : SettingsKept s (handInstant s) :=
  (dutyCheck ..).trans
    (atAllPorts_keeps (fun p _ h => h.trans (notice (evaluateAlarm_frame p _))) (refl _))

theorem moveDebounce (amount : Int) (n : Fin 32) (s : State) : SettingsKept s (moveDebounce amount n s) := by
  unfold Machine.moveDebounce
  split
  · exact refl s
  · exact withPoint ..

theorem rewriteTime (date ms : Nat) (s : State) : SettingsKept s (rewriteTime date ms s) :=
  (withTime ..).trans (allPoints (moveDebounce _) _)

theorem moveQuality (q : Quality) (s : State) : SettingsKept s (moveQuality q s) := by
  unfold Machine.moveQuality
  dsimp only
  split
  · exact refl s
  · split
    · exact (withTime ..).trans
        ((notice (produce_frame ..)).trans ((notice (raiseAtAll_frame ..)).trans (handInput ..)))
    · exact (withTime ..).trans (handInput ..)

theorem moveQualityBySet (q : Quality) (s : State) : SettingsKept s (moveQualityBySet q s) := by
  unfold Machine.moveQualityBySet
  split
  · exact (moveQuality ..).trans (withDuty ..)
  · exact moveQuality ..

end SettingsKept

end Sys2Proof.Machine
end
section
/-!
SUPPORT. A move of the quality (R9, R10): its record, its notice and the input of the tallies; and with it the timers of the
discipline unit (R23, R35), its settings (R36), and a mark that slews (R26 to R32).
-/

namespace Sys2Proof.Machine

/-! ### A move of the quality -/

section MoveQuality

variable {new : Quality} {s : State}

/-- A transition in RUN (R9): the record and the notice, and then the input of the tallies. -/
theorem moveQuality_run (changed : new ≠ s.time.quality) (run : s.running = true) :
    moveQuality new s =
      handInput inputLocked (new == .locked)
        (raiseAtAll .quality
          (produce false (.quality s.time.quality new) (s.withTime { s.time with quality := new }))) := by
  have run' : (s.withTime { s.time with quality := new }).running = true := run
  unfold moveQuality
  rw [if_neg changed]
  exact congrArg (handInput inputLocked (new == .locked)) (if_pos run')

/-- A transition in BACKUP (R10) leaves no record. -/
theorem moveQuality_backup (changed : new ≠ s.time.quality) (backup : s.running = false) :
    moveQuality new s = handInput inputLocked (new == .locked) (s.withTime { s.time with quality := new }) := by
  have run' : ¬ (s.withTime { s.time with quality := new }).running = true := by
    rw [show (s.withTime { s.time with quality := new }).running = s.running from rfl, backup]
    decide
  unfold moveQuality
  rw [if_neg changed]
  exact congrArg (handInput inputLocked (new == .locked)) (if_neg run')

/-- The queue after the QUALITY record of a transition (R9). -/
def State.qualityReport (s : State) (new : Quality) : EventQueue :=
  s.queue.report s.now new s.burstNumber false (.quality s.time.quality new)

theorem moveQuality_reports (changed : new ≠ s.time.quality) (run : s.running = true) :
    (s.qualityReport new).Reports (moveQuality new s).queue := by
  have record : (raiseAtAll .quality
      (produce false (.quality s.time.quality new) (s.withTime { s.time with quality := new }))).queue =
      s.qualityReport new :=
    (raiseAtAll_queue ..).trans (produceAt_queue ..)
  rw [moveQuality_run changed run, ← record]
  exact (handInput_records ..).reports

theorem moveQuality_raised (changed : new ≠ s.time.quality) (run : s.running = true) :
    RaisedAtAll .quality (moveQuality new s) := by
  have run' : (produce false (.quality s.time.quality new) (s.withTime { s.time with quality := new })).running = true :=
    (produce_frame ..).tally.running.trans run
  rw [moveQuality_run changed run]
  intro q
  rw [((NoticeKept.rules (n := .quality) (by decide) (by decide) (by decide)).handInput ..).has q]
  exact raiseAtAll_raised _ _ run' q

/-- A transition that leaves the input of the tallies as it was gives the QUALITY record alone. -/
theorem moveQuality_unheard (changed : new ≠ s.time.quality) (run : s.running = true)
    (same : s.tally.inputs.getLsbD 33 = (new == .locked)) :
    (moveQuality new s).queue = s.qualityReport new ∧ (moveQuality new s).tally = s.tally := by
  have frame : NoticeFrame (s.withTime { s.time with quality := new }) (raiseAtAll .quality
      (produce false (.quality s.time.quality new) (s.withTime { s.time with quality := new }))) :=
    (produce_frame ..).trans (raiseAtAll_frame ..)
  have tally := frame.tally_eq
  rw [moveQuality_run changed run, handInput_same _ _ _ (.inr (by rw [tally]; exact same))]
  exact ⟨(raiseAtAll_queue ..).trans (produceAt_queue ..), tally⟩

/-- A silent transition of a paused tally unit moves the quality alone (R10, R120). -/
theorem moveQuality_paused (backup : s.running = false) (paused : s.tally.paused = true) :
    moveQuality new s = s.withTime { s.time with quality := new } := by
  by_cases same : new = s.time.quality
  · subst same
    exact moveQuality_same s
  · rw [moveQuality_backup same backup]
    exact handInput_same _ _ _ (.inl paused)

/-- Nothing but the quality, the tallies, the queue, the pending notices and the lines differs. -/
theorem moveQuality_eq (new : Quality) (s : State) :
    moveQuality new s =
      { s with
        time := { s.time with quality := new }
        queue := (moveQuality new s).queue
        tally := (moveQuality new s).tally
        ports := (moveQuality new s).ports } := by
  have frame := (moveQuality_frame new s).1
  rw [moveQuality_time] at frame
  exact frame

end MoveQuality

/-! ### The timers -/

/-- The quality that a missed mark leaves (R23). -/
def Quality.missed : Quality → Quality
  | .acquiring => .free
  | .locked => .holdover
  | q => q

/-- The discipline unit after a missed mark (R23). -/
def Discipline.missed (d : Discipline) (q : Quality) : Discipline :=
  { d with
    missingMark := none
    slewTrim := 0
    lockCounter := if q = .acquiring then 0 else d.lockCounter
    unlockCounter := if q = .locked then 0 else d.unlockCounter }

theorem missMark_eq (s : State) :
    missMark s = moveQuality s.time.quality.missed (s.withDiscipline (s.discipline.missed s.time.quality)) := by
  unfold missMark Quality.missed Discipline.missed
  dsimp only [State.withDiscipline_time]
  cases quality : s.time.quality with
  | acquiring | locked => rfl
  | unset | free | holdover =>
    all_goals
      refine Eq.symm (Eq.trans ?_ (moveQuality_same _))
      rw [State.withDiscipline_time, quality]
      rfl

theorem holdoverPassed_iff {s : State} {at_ : Nat} (last : s.discipline.lastMarkAt = some at_) :
    s.holdoverPassed = true ↔ at_ + s.discipline.settings.holdoverLimit * 1000 * 4096000000000 ≤ s.elapsed := by
  rw [State.holdoverPassed, last]
  exact decide_eq_true_iff

/-- Settles O21: a missed mark and the end of HOLDOVER are moves of the quality. -/
theorem disciplineTimersMoveTheQuality : Obligations.DisciplineTimersMoveTheQuality := by
  refine ⟨fun s expiry waiting retained => ⟨fun early => ?_, fun due => ?_⟩,
    fun s at_ last retained => ⟨fun h => ?_, fun holdover reached => ?_⟩⟩
  · refine congrArg Host.Outcome.next ?_
    have early : s.reached expiry = false := by simpa [State.reached] using early
    simp [expireMissingMark, waiting, early]
  · have due : s.reached expiry = true := by simpa [State.reached] using due
    have outcome : exec .missingMarkTimeout s =
        .next (moveQuality s.time.quality.missed (s.withDiscipline (s.discipline.missed s.time.quality))) := by
      refine congrArg Host.Outcome.next ?_
      rw [← missMark_eq]
      simp [expireMissingMark, waiting, retained, due]
    refine ⟨_, outcome, (moveQuality_frame ..).1, moveQuality_time .., (moveQuality_frame ..).2,
      (SettingsKept.moveQuality ..).settings, ?_, fun changed run => ?_⟩
    · rintro (same | ⟨backup, paused⟩)
      · have same : s.time.quality.missed = (s.withDiscipline (s.discipline.missed s.time.quality)).time.quality := same
        rw [same, moveQuality_same]
        exact ⟨rfl, rfl, rfl⟩
      · have backup : (s.withDiscipline (s.discipline.missed s.time.quality)).running = false := backup
        have paused : (s.withDiscipline (s.discipline.missed s.time.quality)).tally.paused = true := paused
        rw [moveQuality_paused backup paused]
        exact ⟨rfl, rfl, rfl⟩
    · have changed : s.time.quality.missed ≠
        (s.withDiscipline (s.discipline.missed s.time.quality)).time.quality := changed
      have run : (s.withDiscipline (s.discipline.missed s.time.quality)).running = true := run
      have record : (s.withDiscipline (s.discipline.missed s.time.quality)).qualityReport s.time.quality.missed =
          s.qualityReport s.time.quality.missed := rfl
      have reports := moveQuality_reports changed run
      rw [record] at reports
      exact ⟨reports, moveQuality_raised changed run⟩
  · refine congrArg Host.Outcome.next (if_neg ?_)
    rintro ⟨holdover, _, passed⟩
    refine h.elim (fun h => h holdover) fun h => h ?_
    exact (holdoverPassed_iff last).1 passed
  · have passed : s.holdoverPassed = true := (holdoverPassed_iff last).2 reached
    have outcome : exec .holdoverLimitExpiry s = .next (moveQuality .free s) :=
      congrArg Host.Outcome.next (if_pos ⟨holdover, retained, passed⟩)
    have changed : Quality.free ≠ s.time.quality := by rw [holdover]; decide
    refine ⟨_, outcome, moveQuality_eq .., (moveQuality_frame ..).2, (SettingsKept.moveQuality ..).settings,
      fun backup paused => ?_, fun run => ⟨moveQuality_raised changed run, ?_⟩⟩
    · rw [moveQuality_paused backup paused]
      exact ⟨rfl, rfl, rfl⟩
    · rw [← holdover]
      exact ⟨moveQuality_reports changed run, moveQuality_unheard changed run⟩

/-! ### The settings -/

theorem endHoldover_unpassed {s : State} (h : s.time.quality = .holdover → s.holdoverPassed = false) :
    endHoldover s = s :=
  if_neg fun k => by simp [h k.1] at k

/-- Settles O22: the settings are stored, and a HOLDOVER whose new limit has passed ends. -/
theorem disciplineSettingsAreClampedAndStored : Obligations.DisciplineSettingsAreClampedAndStored := by
  intro p args s run length
  have served : exec (.setDiscipline p (10 :: args)) s =
      .next (s.reply p 0x04 (serveSetDiscipline p args (s.idleFrame p))) :=
    congrArg Host.Outcome.next
      (takeRequest_served run (frameArguments_cons length (by decide)) (by simp [exactly, length]))
  rw [serveSetDiscipline, s.rights_idleFrame] at served
  dsimp only
  refine ⟨fun denied => ?_, fun permitted unpassed => ?_, fun permitted holdover passed => ?_⟩
  · rw [served, denied]
    rfl
  · have kept := endHoldover_unpassed
      (s := storeDiscipline (disciplineSettingsOf args) (s.idleFrame p)) unpassed
    rw [served, if_pos permitted, kept]
    exact congrArg Host.Outcome.next (State.respond_of_ports rfl)
  · have ended : endHoldover (storeDiscipline (disciplineSettingsOf args) (s.idleFrame p)) =
        moveQuality .free (storeDiscipline (disciplineSettingsOf args) (s.idleFrame p)) :=
      if_pos ⟨holdover, by simp [State.retentionRuns, show (storeDiscipline (disciplineSettingsOf args)
        (s.idleFrame p)).running = true from run], passed⟩
    have changed : Quality.free ≠ (storeDiscipline (disciplineSettingsOf args) (s.idleFrame p)).time.quality := by
      rw [show (storeDiscipline (disciplineSettingsOf args) (s.idleFrame p)).time.quality = .holdover from holdover]
      decide
    have run' : (storeDiscipline (disciplineSettingsOf args) (s.idleFrame p)).running = true := run
    have same := moveQuality_eq .free (storeDiscipline (disciplineSettingsOf args) (s.idleFrame p))
    have keep := (moveQuality_frame .free (storeDiscipline (disciplineSettingsOf args) (s.idleFrame p))).2
    have settings := (SettingsKept.moveQuality .free (storeDiscipline (disciplineSettingsOf args) (s.idleFrame p))).settings
    have reports := moveQuality_reports changed run'
    have raised := moveQuality_raised changed run'
    have unheard := moveQuality_unheard changed run'
    rw [if_pos permitted, ended] at served
    have quality : s.time.quality = .holdover := holdover
    generalize moveQuality .free (storeDiscipline (disciplineSettingsOf args) (s.idleFrame p)) = t at *
    have payload : disciplinePayload t =
        disciplinePayload (storeDiscipline (disciplineSettingsOf args) (s.idleFrame p)) := by
      rw [same]
      rfl
    dsimp only at served
    rw [payload] at served
    have record : (storeDiscipline (disciplineSettingsOf args) (s.idleFrame p)).qualityReport .free =
        s.queue.report s.now .free s.burstNumber false (.quality .holdover .free) := by
      rw [← quality]
      rfl
    rw [record] at reports unheard
    refine ⟨_, served, ?_, PortsAnswer.of_keep keep, settings, fun q => ?_, reports, unheard⟩
    · refine (congrArg (State.respond · p _) same).trans ?_
      rfl
    · rw [State.reply, State.pending_respond]
      exact raised q

end Sys2Proof.Machine
end
section
/-!
SUPPORT. A mark that slews (R26, R27, R29 to R34).
-/

namespace Sys2Proof.Machine

/-- The quality and the counters after a mark that slews (R31, R32): from FREE and HOLDOVER the count begins again. -/
def markCount (d : Discipline) (q : Quality) (e : Int) : Quality × Nat × Nat :=
  let fresh := decide (q = .free ∨ q = .holdover)
  let inside := decide (e.natAbs ≤ d.settings.lockWindow)
  let lock := if fresh then 0 else d.lockCounter
  let unlock := if fresh then 0 else d.unlockCounter
  if q = .locked then
    if inside then (.locked, lock, 0) else if 3 ≤ unlock then (.acquiring, 0, 0) else (.locked, lock, unlock + 1)
  else if inside then if 3 ≤ lock then (.locked, 0, 0) else (.acquiring, lock + 1, unlock) else (.acquiring, 0, unlock)

theorem countLock_acquiring (d : DisciplineSettings) (lock unlock : Nat) (e : Int) :
    countLock d .acquiring lock unlock e =
      if decide (e.natAbs ≤ d.lockWindow) then if 3 ≤ lock then (.locked, 0, 0) else (.acquiring, lock + 1, unlock)
      else (.acquiring, 0, unlock) :=
  if_congr Iff.rfl (if_congr (Nat.succ_le_succ_iff (a := 3)) rfl rfl) rfl

theorem countLock_locked (d : DisciplineSettings) (lock unlock : Nat) (e : Int) :
    countLock d .locked lock unlock e =
      if decide (e.natAbs ≤ d.lockWindow) then (.locked, lock, 0)
      else if 3 ≤ unlock then (.acquiring, 0, 0) else (.locked, lock, unlock + 1) :=
  if_congr Iff.rfl rfl (if_congr (Nat.succ_le_succ_iff (a := 3)) rfl rfl)

/-- What a mark that slews makes of the discipline unit but for its last mark (R29, R30). -/
def Discipline.slewed (d : Discipline) (q : Quality) (deferred consecutive : Bool) (e : Int) : Discipline :=
  { d with
    slewTrim := slewOf e
    freqTrim := learn d.settings consecutive d.freqTrim e
    stepPending := deferred
    lockCounter := (markCount d q e).2.1
    unlockCounter := (markCount d q e).2.2 }

theorem slewMark_eq (deferred consecutive : Bool) (e : Int) {s : State} (set : s.time.quality ≠ .unset) :
    slewMark deferred consecutive e s =
      setLastMark (moveQuality (markCount s.discipline s.time.quality e).1
        (s.withDiscipline (s.discipline.slewed s.time.quality deferred consecutive e))) := by
  have counted : markCount s.discipline s.time.quality e =
      countLock s.discipline.settings
        (if s.time.quality == .free || s.time.quality == .holdover then Quality.acquiring else s.time.quality)
        (if s.time.quality == .free || s.time.quality == .holdover then 0 else s.discipline.lockCounter)
        (if s.time.quality == .free || s.time.quality == .holdover then 0 else s.discipline.unlockCounter) e := by
    unfold markCount
    cases quality : s.time.quality with
    | unset => exact absurd quality set
    | locked => exact (countLock_locked ..).symm
    | free | acquiring | holdover => all_goals exact (countLock_acquiring ..).symm
  unfold slewMark Discipline.slewed
  rw [counted]

/-- A mark that leaves a discipline unit and then moves the quality (R24, R34). -/
theorem setLastMark_moveQuality (d : Discipline) (new : Quality) {s : State} (run : s.running = true) :
    let t := setLastMark (moveQuality new (s.withDiscipline d))
    t = { s with
      time := t.time, discipline := t.discipline, queue := t.queue, tally := t.tally, ports := t.ports } ∧
      PortsKeep s t ∧ TalliesKeepSettings s t ∧ t.time = { s.time with quality := new } ∧
      t.discipline = { d with lastMark := some s.now } ∧
      if new = s.time.quality then t.queue = s.queue ∧ t.ports = s.ports ∧ t.tally = s.tally
      else (s.qualityReport new).Reports t.queue ∧ RaisedAtAll .quality t := by
  have moved := moveQuality_eq new (s.withDiscipline d)
  have keep : PortsKeep (s.withDiscipline d) (moveQuality new (s.withDiscipline d)) := (moveQuality_frame ..).2
  have settings := (SettingsKept.moveQuality new (s.withDiscipline d)).settings
  have record : (s.withDiscipline d).qualityReport new = s.qualityReport new := rfl
  have outcome : if new = s.time.quality then moveQuality new (s.withDiscipline d) = s.withDiscipline d
      else (s.qualityReport new).Reports (moveQuality new (s.withDiscipline d)).queue ∧
        RaisedAtAll .quality (moveQuality new (s.withDiscipline d)) := by
    split
    · next same => subst same; exact moveQuality_same (s.withDiscipline d)
    · next changed => exact ⟨record ▸ moveQuality_reports changed run, moveQuality_raised changed run⟩
  dsimp only
  generalize moveQuality new (s.withDiscipline d) = m at *
  refine ⟨by rw [moved]; rfl, keep, settings, by rw [moved]; rfl, by rw [moved]; rfl, ?_⟩
  split
  · next same =>
    rw [if_pos same] at outcome
    subst outcome
    exact ⟨rfl, rfl, rfl⟩
  · next changed =>
    rw [if_neg changed] at outcome
    exact outcome

/-- A measured mark that does not step slews (R27, R29). -/
theorem measureMark_slews {consecutive : Bool} {s : State} {e : Int} (offset : offsetOf s.now = e)
    (burst : s.discipline.settings.stepDue e = true → s.trip.burst.isSome = true) :
    measureMark consecutive s =
      slewMark (s.discipline.settings.stepDue e) consecutive e
        (s.withDiscipline { s.discipline with lastOffset := e }) := by
  unfold measureMark
  rw [offset]
  by_cases due : s.discipline.settings.stepDue e = true
  · exact (if_pos due).trans ((if_pos (burst due)).trans (by rw [due]))
  · exact (if_neg due).trans (by rw [Bool.eq_false_of_not_eq_true due])

/-- The offset of a reading (R26). -/
theorem offsetOf_now {s : State} {e u : Int} (below : u = ((s.time.ms % 1000 * 1000 + s.time.q / 4096000000 : Nat) : Int))
    (nearest : e = if u < 500000 then u else u - 1000000) : offsetOf s.now = e := by
  have offset : offsetOf s.now =
      let u := s.time.ms % 1000 * 1000 + s.time.q / 4096000000
      if u < 500000 then (u : Int) else (u : Int) - 1000000 := rfl
  rw [offset, nearest, below]
  exact if_congr Int.ofNat_lt.symm rfl rfl

theorem stepDue_eq (d : DisciplineSettings) (e : Int) :
    d.stepDue e = (d.stepEnable && decide (((d.stepLimit * 1000 : Nat) : Int) ≤ e.natAbs)) := by
  rw [DisciplineSettings.stepDue, DisciplineSettings.stepLimitUs]
  congr 1
  exact decide_eq_decide.2 Int.ofNat_le.symm

/-- The frequency trim that a mark learns (R30). -/
theorem learn_eq (d : DisciplineSettings) (consecutive : Bool) (f e : Int) :
    learn d consecutive f e =
      if consecutive = true ∧ e.natAbs < d.stepLimit * 1000 then
        max (-200000) (min 200000 (f - (e * 1000).tdiv d.loopDivisor))
      else f := by
  unfold learn
  refine if_congr ?_ rfl rfl
  rw [Bool.and_eq_true, decide_eq_true_iff]
  rfl

/-- The discipline unit after a mark that slews, but for its last mark. -/
def State.slewed (s : State) (e : Int) : Discipline :=
  ({ (restartMarkTimers s).discipline with lastOffset := e } : Discipline).slewed s.time.quality
    (s.discipline.settings.stepDue e) s.discipline.missingMark.isSome e

/-- A mark that is measured and does not step (R24). -/
theorem takeMark_slews {s : State} {e : Int} (taken : s.takesMark = true) (accepted : s.acceptsMark = true)
    (set : s.time.quality ≠ .unset) (unstaged : s.time.staged = none ∨ s.trip.burst.isSome = true)
    (offset : offsetOf s.now = e) (burst : s.discipline.settings.stepDue e = true → s.trip.burst.isSome = true) :
    takeMark s =
      setLastMark (moveQuality (markCount s.discipline s.time.quality e).1 (s.withDiscipline (s.slewed e))) := by
  rw [takeMark_accepted taken accepted, acceptMark_unstaged unstaged, if_neg set,
    measureMark_slews (s := restartMarkTimers s) offset burst]
  exact slewMark_eq _ _ _ set

/-- Settles O18: a mark that slews sets the trims and the counters, and then moves the quality. -/
theorem slewMarkSetsTheTrims : Obligations.SlewMarkSetsTheTrims := by
  intro s e u taken accepted set unstaged below nearest
  dsimp only
  rw [← stepDue_eq]
  intro burst
  have run : s.running = true := (Bool.and_eq_true_iff.1 taken).1
  obtain ⟨frame, keep, settings, time, discipline, outcome⟩ :=
    setLastMark_moveQuality (s.slewed e) (markCount s.discipline s.time.quality e).1 run
  refine ⟨_, congrArg Host.Outcome.next
    (takeMark_slews taken accepted set unstaged (offsetOf_now below nearest) burst), frame, keep, settings, time, ?_, outcome⟩
  rw [← learn_eq]
  exact discipline

end Sys2Proof.Machine
end
section
/-!
SUPPORT. What a check of the duty unit rests on (R127 to R130, R137 to R139): its deadlines and slots in equations, the checks that
find nothing due, and that the duty unit it leaves depends on the time, the duty unit and the supply state alone.
-/

namespace Sys2Proof.Machine

/-! ### Deadlines -/

section Deadlines

variable {o : Bool} {s : State} {d : Instant}

/-- No release deadline in force has passed (R137). -/
def State.ReleaseWaits (s : State) : Prop :=
  ∀ d, s.duty.state = .due → s.duty.handover.releaseDeadline = some d → s.now.atOrAfter d = false

/-- No accept deadline in force has passed (R138). -/
def State.AcceptWaits (s : State) : Prop :=
  ∀ d, s.duty.state = .released → s.duty.handover.acceptDeadline = some d → s.now.atOrAfter d = false

theorem expireRelease_waits (h : s.ReleaseWaits) : expireRelease o s = s := by
  unfold expireRelease
  split
  · next d state deadline => exact if_neg (by simp [h d state deadline])
  · rfl

theorem expireRelease_passes (state : s.duty.state = .due) (deadline : s.duty.handover.releaseDeadline = some d)
    (passed : s.now.atOrAfter d = true) :
    expireRelease o s = reportHandover o .overdue 0
      (s.withHandover { s.duty.handover with overdue := true, releaseDeadline := none }) := by
  simp only [expireRelease, state, deadline, passed, if_true]

theorem expireAccept_waits (h : s.AcceptWaits) : expireAccept o s = s := by
  unfold expireAccept
  split
  · next d state deadline => exact if_neg (by simp [h d state deadline])
  · rfl

theorem expireAccept_passes (state : s.duty.state = .released) (deadline : s.duty.handover.acceptDeadline = some d)
    (passed : s.now.atOrAfter d = true) :
    expireAccept o s =
      if s.duty.handover.reoffers < s.duty.settings.reofferLimit then reoffer o s else lapse o s := by
  simp only [expireAccept, state, deadline, passed, if_true]

/-- The state decides which deadline is in force. -/
theorem State.ReleaseWaits.of_state (h : s.duty.state ≠ .due) : s.ReleaseWaits := fun _ state => absurd state h

theorem State.AcceptWaits.of_state (h : s.duty.state ≠ .released) : s.AcceptWaits := fun _ state => absurd state h

end Deadlines

/-! ### The check -/

theorem dutyCheck_backup {s : State} (o : Bool) (backup : s.running = false) : dutyCheck o s = s := by
  simp [dutyCheck, backup]

/-- A check in RUN (R127). -/
theorem dutyCheck_run {s : State} (o : Bool) (run : s.running = true) :
    dutyCheck o s =
      let t := expireAccept o (expireRelease o s)
      if t.time.quality = .unset then t else expireRelease o (checkSlots o t) := by
  unfold dutyCheck
  exact if_pos run

/-- A check that finds no deadline passed goes on to the slots (R127, R128). -/
theorem dutyCheck_slots {s : State} (o : Bool) (run : s.running = true) (release : s.ReleaseWaits)
    (accept : s.AcceptWaits) (set : s.time.quality ≠ .unset) :
    dutyCheck o s = expireRelease o (checkSlots o s) := by
  rw [dutyCheck_run o run, expireRelease_waits release, expireAccept_waits accept]
  exact if_neg set

/-- A check in UNSET that finds no deadline passed does nothing (R128). -/
theorem dutyCheck_unset {s : State} (o : Bool) (run : s.running = true) (release : s.ReleaseWaits)
    (accept : s.AcceptWaits) (unset : s.time.quality = .unset) : dutyCheck o s = s := by
  rw [dutyCheck_run o run, expireRelease_waits release, expireAccept_waits accept]
  exact if_pos unset

theorem checkSlots_served {o : Bool} {s : State} {due served : Instant} {k : Nat} {x : Slot}
    (recent : mostRecentSlot s.duty.rota s.now = some (due, k, x)) (last : s.duty.lastServed = some served) :
    checkSlots o s =
      if due.laterThan served then slotFalls o due k x (skippedCount s.duty.rota served due) s else s := by
  simp only [checkSlots, recent, last]

theorem checkSlots_unserved {o : Bool} {s : State} {due : Instant} {k : Nat} {x : Slot}
    (recent : mostRecentSlot s.duty.rota s.now = some (due, k, x)) (last : s.duty.lastServed = none) :
    checkSlots o s = s.withDuty { s.duty with lastServed := some due } := by
  simp only [checkSlots, recent, last]

theorem checkSlots_empty {o : Bool} {s : State} (none : mostRecentSlot s.duty.rota s.now = .none) :
    checkSlots o s = s := by
  simp only [checkSlots, none]

/-- A check that finds nothing due changes nothing. -/
theorem dutyCheck_nothing {s : State} (o : Bool) (h : NothingFallsDue s) : dutyCheck o s = s := by
  obtain ⟨release, accept, slots⟩ := h
  cases run : s.running with
  | false => exact dutyCheck_backup o run
  | true =>
    by_cases unset : s.time.quality = .unset
    · exact dutyCheck_unset o run release accept unset
    · have still : checkSlots o s = s := by
        cases recent : mostRecentSlot s.duty.rota s.now with
        | none => exact checkSlots_empty recent
        | some x =>
          obtain ⟨served, last, early⟩ := slots.resolve_left unset x recent
          rw [checkSlots_served recent last, early]
          rfl
      rw [dutyCheck_slots o run release accept unset, still, expireRelease_waits release]

/-! ### What the duty unit after a check rests on -/

/-- The two states look the same to the duty unit. -/
structure DutyAlike (s t : State) : Prop where
  time : t.time = s.time
  duty : t.duty = s.duty
  running : t.running = s.running

namespace DutyAlike

variable {s t u : State}

theorem refl (s : State) : DutyAlike s s := ⟨rfl, rfl, rfl⟩

theorem symm (h : DutyAlike s t) : DutyAlike t s := ⟨h.time.symm, h.duty.symm, h.running.symm⟩

theorem trans (h : DutyAlike s t) (k : DutyAlike t u) : DutyAlike s u :=
  ⟨k.time.trans h.time, k.duty.trans h.duty, k.running.trans h.running⟩

theorem of_tally (h : TallyFrame s t) : DutyAlike s t := ⟨by rw [h.1], by rw [h.1], h.running⟩

theorem of_notice (h : NoticeFrame s t) : DutyAlike s t := of_tally h.tally

theorem now (h : DutyAlike s t) : t.now = s.now := by rw [State.now, h.time]; rfl

theorem withDuty (h : DutyAlike s t) (d : DutyUnit) : DutyAlike (s.withDuty d) (t.withDuty d) := ⟨h.time, rfl, h.running⟩

/-- What changes nothing that the duty unit looks at keeps two states alike. -/
theorem map_tally {s' t' : State} (h : DutyAlike s t) (f : TallyFrame s s') (g : TallyFrame t t') : DutyAlike s' t' :=
  (of_tally f).symm.trans (h.trans (of_tally g))

variable (o : Bool) (h : DutyAlike s t)
include h

theorem produceHandover (phase : HandoverPhase) (x y : Nat) (k : Option Nat) (r z : Nat) :
    DutyAlike (produceHandover o phase x y k r z s) (produceHandover o phase x y k r z t) :=
  h.map_tally (produceHandover_frame ..).tally (produceHandover_frame ..).tally

theorem reportHandover (phase : HandoverPhase) (k : Nat) :
    DutyAlike (reportHandover o phase k s) (reportHandover o phase k t) :=
  h.map_tally (reportHandover_frame ..).tally (reportHandover_frame ..).tally

theorem withHandover (x : HandoverFields) : DutyAlike (s.withHandover x) (t.withHandover x) := by
  rw [State.withHandover, State.withHandover, h.duty]
  exact h.withDuty _

theorem handDutyHeld : DutyAlike (handDutyHeld s) (handDutyHeld t) :=
  h.map_tally (handDutyHeld_frame _) (handDutyHeld_frame _)

theorem applyRota : DutyAlike (applyRota o s) (applyRota o t) := by
  unfold Machine.applyRota
  rw [h.duty, h.now]
  split
  · exact h
  · exact (h.withDuty _).map_tally (produce_frame ..).tally (produce_frame ..).tally

theorem expireRelease : DutyAlike (expireRelease o s) (expireRelease o t) := by
  unfold Machine.expireRelease
  rw [h.duty, h.now]
  split
  · split
    · exact (h.withHandover _).reportHandover o ..
    · exact h
  · exact h

theorem reoffer : DutyAlike (reoffer o s) (reoffer o t) := by
  unfold Machine.reoffer
  rw [h.duty, h.now]
  exact (h.withHandover _).reportHandover o ..

theorem lapse : DutyAlike (lapse o s) (lapse o t) := by
  have reported (phase : HandoverPhase) (y : Nat) := h.produceHandover o phase s.duty.crew y s.duty.handover.slot
    s.duty.handover.reoffers 0
  unfold Machine.lapse
  dsimp only
  rw [h.duty]
  split
  · rw [(reported ..).duty]
    exact (reported ..).withDuty _
  · rw [(reported ..).duty]
    split
    · exact (((reported ..).withDuty _).applyRota o).handDutyHeld
    · exact (reported ..).withDuty _

theorem expireAccept : DutyAlike (expireAccept o s) (expireAccept o t) := by
  unfold Machine.expireAccept
  rw [h.duty, h.now]
  split
  · split
    · split
      · exact h.reoffer o
      · exact h.lapse o
    · exact h
  · exact h

theorem slotFalls (due : Instant) (k : Nat) (x : Slot) (n : Nat) :
    DutyAlike (slotFalls o due k x n s) (slotFalls o due k x n t) := by
  unfold Machine.slotFalls
  dsimp only [State.withDuty_duty]
  rw [h.duty]
  split
  · exact h.withDuty _
  · have opened := ((h.withDuty { s.duty with lastServed := some due }).withDuty
      { s.duty with
        lastServed := some due, state := .due
        handover := ⟨some k, x.crew, some (due.addMs (s.duty.settings.releaseWindow * 60000)), none, false, 0⟩
      }).reportHandover o .due n
    split
    · exact opened
    · exact opened.reportHandover o ..
  · exact ((h.withDuty _).withHandover _).reportHandover o ..
  · exact ((h.withDuty _).withHandover _).reportHandover o ..

theorem checkSlots : DutyAlike (checkSlots o s) (checkSlots o t) := by
  unfold Machine.checkSlots
  rw [h.duty, h.now]
  split
  · exact h
  · split
    · exact h.withDuty _
    · split
      · exact h.slotFalls o ..
      · exact h

theorem dutyCheck : DutyAlike (dutyCheck o s) (dutyCheck o t) := by
  have deadlines := (h.expireRelease o).expireAccept o
  unfold Machine.dutyCheck
  dsimp only
  rw [h.running, deadlines.time]
  split
  · split
    · exact deadlines
    · exact (deadlines.checkSlots o).expireRelease o
  · exact h

end DutyAlike

/-! ### The compare of the alarms -/

theorem DutyFrame.time {s t : State} (h : DutyFrame s t) : t.time = s.time := by rw [h.1]

theorem DutyFrame.running {s t : State} (h : DutyFrame s t) : t.running = s.running := by rw [h.1]; rfl

/-- The compare of every port's alarm changes nothing but the pending notices and the lines. -/
theorem evaluateAlarms_eq (s : State) :
    atAllPorts evaluateAlarm s = { s with ports := (atAllPorts evaluateAlarm s).ports } := by
  have one (p : Port) (t : State) (h : t = { s with ports := t.ports }) :
      evaluateAlarm p t = { s with ports := (evaluateAlarm p t).ports } := by
    have moved : evaluateAlarm p t = { t with ports := (evaluateAlarm p t).ports } :=
      (setNotice_spec p .alarm (t.alarmHolds p) t).1
    exact moved.trans (by rw [h])
  exact atAllPorts_keeps (P := fun t => t = { s with ports := t.ports }) one rfl

end Sys2Proof.Machine
end

section
/-!
SUPPORT. The records and the tally unit that the operations of one tally leave, and the claims about the tally unit built on them.
-/

namespace Sys2Proof.Machine

/-! ### Requests of a fixed length -/

/-- A request of the length it takes is served by its block (R169, R170). -/
theorem takeRequest_exactly {p : Port} {code : Byte} {n : Nat} {serve : List Byte → State → Answer} {args : List Byte}
    {s : State} (run : s.running = true) (length : args.length = n) (short : n ≤ 64) :
    takeRequest p code (exactly n) serve (BitVec.ofNat 8 n :: args) s = s.reply p code (serve args (s.idleFrame p)) := by
  subst length
  exact takeRequest_served run (frameArguments_ofNat short) (by simp [exactly])

theorem TallyFrame.answered {s t : State} {p : Port} (h : TallyFrame (s.idleFrame p) t) (r : Response) :
    t.respond p r =
      { s with tally := (t.respond p r).tally, queue := (t.respond p r).queue, ports := (t.respond p r).ports } :=
  (congrArg (State.respond · p r) h.1).trans rfl

theorem tallyIndex_val (i : Fin 12) : tallyIndex i.val = some i := dif_pos i.isLt

theorem tallyIndex_above {n : Nat} (h : 11 < n) : tallyIndex n = none := dif_neg (by omega)

/-! ### The tally unit where one tally moves -/

theorem TallyUnit.ext_entries {a b : TallyUnit} (entries : a.entries = b.entries) (inputs : a.inputs = b.inputs)
    (paused : a.paused = b.paused) : a = b := by
  cases a
  cases b
  cases entries
  cases inputs
  cases paused
  rfl

/-- Where one tally moves, the tally unit is the same with another entry for it. -/
theorem OnlyTally.tally_eq {i : Fin 12} {s t : State} (h : OnlyTally i s t) :
    t.tally = { s.tally with entries := s.tally.entries.set i.val (t.entry i) i.isLt } := by
  refine TallyUnit.ext_entries (Vector.ext fun k hk => ?_) h.inputs h.paused
  rw [Vector.getElem_set]
  split
  · next same => subst same; rfl
  · next other => exact h.other ⟨k, hk⟩ fun e => other (congrArg Fin.val e).symm

/-! ### The records of one tally -/

theorem EventQueue.Reports.of_eq {q r : EventQueue} (h : r = q) : q.Reports r := h ▸ .refl r

theorem produce_queue (o : Bool) (b : RecordBody) (s : State) : (produce o b s).queue = s.reported o b := produceAt_queue ..

theorem produceIf_queue (c o : Bool) (b : RecordBody) (s : State) :
    (if c then produce o b s else s).queue = if c then s.reported o b else s.queue := by
  cases c
  · rfl
  · exact produce_queue ..

/-- A record of a state that differs in its tallies and its queue alone has the header of the first state. -/
theorem TallyFrame.reported {s t : State} (h : TallyFrame s t) (o : Bool) (b : RecordBody) :
    t.reported o b = t.queue.report s.now s.time.quality s.burstNumber o b := by
  rw [h.1]
  rfl

theorem evaluateDue_queue (o : Bool) (i : Fin 12) (s : State) :
    (evaluateDue o i s).queue =
      if (s.entry i).dueHolds && !(s.entry i).duePending then s.reported o (.tallyDue i.val (s.entry i).lifetime)
      else s.queue := by
  unfold evaluateDue
  dsimp only
  split
  · next same => simp [same]
  · next moved =>
    have compared (t : State) : (atAllPorts syncTallyDue t).queue = t.queue :=
      atAllPorts_keeps (P := fun u => u.queue = t.queue) (fun p u h => (setNotice_queue p _ _ u).trans h) rfl
    rw [compared, produceIf_queue]
    cases holds : (s.entry i).dueHolds <;> cases pending : (s.entry i).duePending
    · exact absurd (holds.trans pending.symm) moved
    · rfl
    · rfl
    · exact absurd (holds.trans pending.symm) moved

theorem completeQualification_queue (o : Bool) (i : Fin 12) (s : State) :
    (if (s.entry i).config.recordTransitions then s.reported o (.tallyRun i.val) else s.queue).Reports
      (completeQualification o i s).queue := by
  have later := fun t : State => (evaluateDue_records o i t).reports
  unfold completeQualification
  dsimp only
  refine EventQueue.Reports.trans (.of_eq ?_) (later _)
  rw [produceIf_queue]
  rfl

theorem applyPreset_queue (o : Bool) (i : Fin 12) (x : StagedPreset) (s : State) :
    (s.reported o (.tallyPreset i.val x.crew (s.entry i).lifetime x.lifetime (s.entry i).starts x.starts)).Reports
      (applyPreset o i x s).queue := by
  have later := fun t : State => (evaluateDue_records o i t).reports
  unfold applyPreset
  refine EventQueue.Reports.trans (.of_eq ?_) (later _)
  rw [produce_queue]
  rfl

/-- Settles O38: a qualification that completes makes of the tally what `Tally.started` says, its TALLY_RUN record first. -/
theorem qualificationStartsTheRun : Obligations.QualificationStartsTheRun := by
  intro i s unpaused qualifying
  have test : ((s.entry i).qualified && !s.tally.paused) =
      decide ((s.entry i).config.qualifyTime * 1000 ≤ (s.entry i).qualifyCount) := by
    simp [Tally.qualified, qualifying, unpaused]
  have run : exec (.qualificationComplete i) s = .next (completeIfQualified i s) := rfl
  rw [run, completeIfQualified, test]
  refine ⟨fun early => ?_, fun reached => ?_⟩
  · rw [if_neg (by simpa using early)]
  · rw [if_pos (by simpa using reached)]
    have frame := completeQualification_frame false i s
    have only := completeQualification_only false i s
    have reports := completeQualification_queue false i s
    refine ⟨_, rfl, frame.1, frame.2, only.other, only.inputs, only.paused.trans unpaused,
      completeQualification_entry false i s, fun recorded => ?_, fun unrecorded => ?_⟩
    · rwa [if_pos recorded] at reports
    · rwa [unrecorded] at reports

/-! ### SET_TALLY and SET_DUE -/

theorem tallyConfigOf_drop (args : List Byte) :
    tallyConfigOf (args.drop 1) =
      ⟨argField args 1 1 != 0, BitVec.ofNat 36 (argField args 2 5), BitVec.ofNat 36 (argField args 7 5),
        min 60 (argField args 12 1), argField args 13 1 != 0, argField args 14 1 != 0⟩ := by
  simp [tallyConfigOf, argField, onOff, clamp]

/-- The run state that a written configuration leaves a tally in (R105). -/
theorem Tally.configured_state (x : Tally) (c : TallyConfig) (holds : Bool) :
    (x.configured c holds).run =
      if holds = false then .idle
      else if decide (x.run = .qualifying ∧ c.qualifyTime * 1000 ≤ x.qualifyCount) then .running
      else if x.run = .idle then if c.qualifyTime = 0 then .running else .qualifying
      else x.run := by
  cases holds with
  | false => exact (Tally.evaluated_run _ false).2 rfl
  | true =>
    unfold Tally.configured Tally.qualified Tally.compared
    cases run : x.run with
    | idle => simp [Tally.evaluated, Tally.entered, Tally.started]; split <;> rfl
    | qualifying =>
      by_cases reached : c.qualifyTime * 1000 ≤ x.qualifyCount <;> simp [Tally.evaluated, Tally.started, reached]
    | running => simp [Tally.evaluated]

theorem Tally.configured_running {x : Tally} (c : TallyConfig) (run : x.run = .running) :
    x.configured c true = { x with config := c, duePending := c.dueEnable && decide (x.dueValue ≤ x.lifetime) } := by
  simp [Tally.configured, Tally.qualified, Tally.evaluated, Tally.compared, Tally.dueHolds, run]

theorem Tally.configured_due (x : Tally) (c : TallyConfig) (holds : Bool) :
    (x.configured c holds).dueValue = x.dueValue ∧
      (x.configured c holds).duePending = (c.dueEnable && decide (x.dueValue ≤ (x.configured c holds).lifetime)) := by
  have settings (y : Tally) (h : y.config = c ∧ y.dueValue = x.dueValue) :
      ((y.evaluated holds).compared).dueValue = x.dueValue ∧ ((y.evaluated holds).compared).duePending =
        (c.dueEnable && decide (x.dueValue ≤ ((y.evaluated holds).compared).lifetime)) := by
    have kept := evaluated_settings y holds
    simp [Tally.compared, Tally.dueHolds, kept, h]
  unfold Tally.configured
  dsimp only
  split
  · exact settings _ ⟨rfl, rfl⟩
  · exact settings _ ⟨rfl, rfl⟩

section SetTally

variable {p : Port} {args : List Byte} {s : State} (run : s.running = true) (length : args.length = 15)
include run length

theorem exec_setTally : exec (.setTally p (15 :: args)) s =
    .next (s.reply p 0x29 (serveSetTally p args (s.idleFrame p))) :=
  congrArg Host.Outcome.next (takeRequest_exactly run length (by decide))

/-- An accepted SET_TALLY makes of the tally what `Tally.configured` says. -/
theorem exec_setTally_stored {i : Fin 12} {c : TallyConfig} (permitted : (s.port p).rights.config = true)
    (index : argField args 0 1 = i.val) (stored : tallyConfigOf (args.drop 1) = c) :
    ∃ u, exec (.setTally p (15 :: args)) s = .next (u.respond p (.ok (beBytes 1 i.val ++ c.bytes))) ∧
      TallyFrame (s.idleFrame p) u ∧ OnlyTally i (s.idleFrame p) u ∧ s.queue.Reports u.queue ∧
      u.entry i = (s.entry i).configured c (c.holds s.tally.inputs) := by
  have served := exec_setTally (p := p) run length
  rw [serveSetTally, s.rights_idleFrame, if_pos permitted, index, tallyIndex_val, stored] at served
  exact ⟨configureTally i c (s.idleFrame p), served, configureTally_frame i c _, configureTally_only i _ c,
    (configureTally_records i c _).reports, configureTally_entry i _ c⟩

end SetTally

/-- Settles O40: `Tally.configured` is what the written configuration makes of the tally. -/
theorem tallyConfigurationIsStoredAndActs : Obligations.TallyConfigurationIsStoredAndActs := by
  intro p args s run length
  refine ⟨fun denied => ?_, fun permitted above => ?_, fun i permitted index => ?_⟩
  · rw [exec_setTally run length, serveSetTally, s.rights_idleFrame, denied]
    rfl
  · rw [exec_setTally run length, serveSetTally, s.rights_idleFrame, if_pos permitted, tallyIndex_above above]
    rfl
  · obtain ⟨u, served, frame, only, reports, entry⟩ :=
      exec_setTally_stored run length permitted index (tallyConfigOf_drop args)
    have due := (s.entry i).configured_due (tallyConfigOf (args.drop 1))
      ((tallyConfigOf (args.drop 1)).holds s.tally.inputs)
    have answered (payload : List Byte) : (u.respond p (.ok payload)).entry i = u.entry i := rfl
    rw [tallyConfigOf_drop args] at due
    refine ⟨_, served, frame.answered _, .of_keep frame.2, only.other, reports, only.inputs, only.paused, ?_⟩
    rw [answered, entry]
    refine ⟨Tally.configured_config .., due.1, due.2, Tally.configured_state .., fun running holds => ?_⟩
    rw [holds, Tally.configured_running _ running]
    exact ⟨rfl, rfl⟩

/-- Settles O41: the due value is stored and due pending compared with it at once. -/
theorem dueValueIsStoredAndCompared : Obligations.DueValueIsStoredAndCompared := by
  intro p args s run length
  have served : exec (.setDue p (7 :: args)) s = .next (s.reply p 0x2A (serveSetDue p args (s.idleFrame p))) :=
    congrArg Host.Outcome.next (takeRequest_exactly run length (by decide))
  rw [serveSetDue, s.rights_idleFrame] at served
  dsimp only
  refine ⟨fun denied => ?_, fun permitted above => ?_, fun i permitted index => ?_⟩
  · rw [served, denied]
    rfl
  · rw [served, if_pos permitted, tallyIndex_above above]
    rfl
  · have clamped : clamp 0 lifetimeMax (argField args 1 6) = min 3599999999999 (argField args 1 6) := by
      simp [clamp, lifetimeMax]
    rw [if_pos permitted, index, tallyIndex_val, clamped] at served
    dsimp only at served
    generalize min 3599999999999 (argField args 1 6) = value at *
    generalize stored : (s.idleFrame p).withEntry i { (s.idleFrame p).entry i with dueValue := value } = u at served
    have written : TallyFrame (s.idleFrame p) u := stored ▸ TallyFrame.withEntry ..
    have frame := written.trans (evaluateDue_frame false i u)
    have alone : OnlyTally i (s.idleFrame p) u := stored ▸ OnlyTally.withEntry ..
    have only := alone.trans (evaluateDue_only false i u)
    have before : u.entry i = { s.entry i with dueValue := value } := stored ▸ State.entry_withEntry_self ..
    have after := evaluateDue_entry false i u
    have queue := evaluateDue_queue false i u
    rw [before] at after queue
    rw [after] at served
    refine ⟨_, served, frame.answered _, .of_keep frame.2, only.tally_eq.trans ?_, queue.trans ?_⟩
    · rw [after]
      rfl
    · rw [written.reported, written.1, ← stored]
      rfl

/-! ### PRESET_TALLY -/

/-- The crew on duty passes the duty-bound check at its port (R142). -/
theorem dutyBound_passes {p : Port} {crew : Nat} {s : State} (right : (s.port p).rights.duty = true) (low : 1 ≤ crew)
    (high : crew ≤ 15) (state : s.duty.state = .onDuty ∨ s.duty.state = .due) (port : s.duty.port = some p)
    (holder : s.duty.crew = crew) : dutyBound p crew (s.idleFrame p) = none := by
  have held : ¬ (s.duty.state = .vacant ∨ s.duty.state = .released) := by
    rintro (e | e) <;> simp [e] at state
  have authority : ¬ (s.duty.port ≠ some p ∨ s.duty.crew ≠ crew) := by simp [port, holder]
  have known : isCrew crew = true := by simp [isCrew, low, high]
  unfold dutyBound
  rw [s.rights_idleFrame, right, known]
  exact (if_neg held).trans (if_neg authority)

/-- Settles O42: the preset waits in RUNNING, and `Tally.preset` is what it makes of the tally otherwise. -/
theorem presetIsStagedOrApplied : Obligations.PresetIsStagedOrApplied := by
  intro p args s run length right low high state port holder
  have served : exec (.presetTally p (12 :: args)) s = .next (s.reply p 0x2B (servePresetTally p args (s.idleFrame p))) :=
    congrArg Host.Outcome.next (takeRequest_exactly run length (by decide))
  rw [servePresetTally, dutyBound_passes right low high state port holder] at served
  dsimp only at served ⊢
  refine ⟨fun above => ?_, fun i index => ?_⟩
  · rw [served, tallyIndex_above above]
    rfl
  · have life : clamp 0 lifetimeMax (argField args 2 6) = min 3599999999999 (argField args 2 6) := by
      simp [clamp, lifetimeMax]
    have starts : clamp 0 startsMax (argField args 8 4) = min 999999 (argField args 8 4) := by simp [clamp, startsMax]
    rw [index, tallyIndex_val, life, starts] at served
    dsimp only at served
    have same : (s.idleFrame p).entry i = s.entry i := rfl
    generalize min 3599999999999 (argField args 2 6) = newLife at *
    generalize min 999999 (argField args 8 4) = newStarts at *
    rw [same] at served
    refine ⟨fun running => ?_, fun stopped => ?_⟩
    · rw [served, running]
      exact congrArg Host.Outcome.next (State.respond_of_ports rfl)
    · have test : ((s.entry i).run == RunState.running) = false := by simp [stopped]
      rw [test] at served
      have frame := applyPreset_frame false i ⟨newLife, newStarts, argField args 0 1⟩ (s.idleFrame p)
      have only := applyPreset_only false i (s.idleFrame p) ⟨newLife, newStarts, argField args 0 1⟩
      have entry := applyPreset_entry false i (s.idleFrame p) ⟨newLife, newStarts, argField args 0 1⟩
      refine ⟨_, served, frame.answered _, .of_keep frame.2, only.tally_eq.trans ?_, ?_⟩
      · rw [entry]
        rfl
      · exact applyPreset_queue false i ⟨newLife, newStarts, argField args 0 1⟩ (s.idleFrame p)

end Sys2Proof.Machine
end

section
/-!
SUPPORT. An evaluation of every tally seen from one of them: the tallies before it, its own turn, and the tallies after it. On this the
claim about a changed input is built.
-/

namespace Sys2Proof.Machine

/-! ### The turn of one tally -/

/-- What the turns of other tallies leave of a state as tally `i` sees it. -/
structure OtherTurns (i : Fin 12) (s t : State) : Prop where
  frame : TallyFrame s t
  reports : s.queue.Reports t.queue
  entry : t.entry i = s.entry i
  inputs : t.tally.inputs = s.tally.inputs
  paused : t.tally.paused = s.tally.paused

theorem OtherTurns.refl (i : Fin 12) (s : State) : OtherTurns i s s := ⟨.refl s, .refl _, rfl, rfl, rfl⟩

theorem OtherTurns.trans {i : Fin 12} {s t u : State} (h : OtherTurns i s t) (k : OtherTurns i t u) : OtherTurns i s u :=
  ⟨h.frame.trans k.frame, h.reports.trans k.reports, k.entry.trans h.entry, k.inputs.trans h.inputs, k.paused.trans h.paused⟩

/-- An action that touches one tally, its records and the ports. -/
structure TurnRules (f : Fin 12 → State → State) : Prop where
  frame : ∀ i s, TallyFrame s (f i s)
  reports : ∀ i (s : State), s.queue.Reports (f i s).queue
  only : ∀ i s, OnlyTally i s (f i s)

namespace TurnRules

variable {f : Fin 12 → State → State} (rules : TurnRules f)
include rules

theorem others {i : Fin 12} {l : List (Fin 12)} (h : i ∉ l) (s : State) :
    OtherTurns i s (l.foldl (fun s j => f j s) s) := by
  induction l generalizing s with
  | nil => exact .refl i s
  | cons j l ih =>
    rw [List.mem_cons, not_or] at h
    have only := rules.only j s
    have turn : OtherTurns i s (f j s) :=
      ⟨rules.frame j s, rules.reports j s, only.other i h.1, only.inputs, only.paused⟩
    exact turn.trans (ih h.2 _)

/-- The turn of tally `i` in an action taken at every tally: the others go before it and after it. -/
theorem turn (i : Fin 12) (s : State) :
    ∃ t, OtherTurns i s t ∧ (f i t).queue.Reports (atAllTallies f s).queue := by
  obtain ⟨before, after, split⟩ := List.append_of_mem (List.mem_finRange i)
  have distinct := List.nodup_finRange 12
  rw [split] at distinct
  have unseen : i ∉ before := fun h => (List.nodup_append.1 distinct).2.2 i h i (by simp) rfl
  have unseen' : i ∉ after := (List.nodup_cons.1 (List.nodup_append.1 distinct).2.1).1
  refine ⟨_, rules.others unseen s, ?_⟩
  rw [atAllTallies, split, List.foldl_append, List.foldl_cons]
  exact (rules.others unseen' _).reports

/-- Where every other tally stays still, the action is the turn of one tally alone. -/
theorem alone {i : Fin 12} {s : State}
    (still : ∀ j t, j ≠ i → t.entry j = s.entry j → t.tally.inputs = s.tally.inputs → f j t = t) :
    atAllTallies f s = f i s := by
  have fold (l : List (Fin 12)) (distinct : l.Nodup) (u : State) (inputs : u.tally.inputs = s.tally.inputs)
      (same : ∀ j, j ≠ i → u.entry j = s.entry j) :
      l.foldl (fun s j => f j s) u = if i ∈ l then f i u else u := by
    induction l generalizing u with
    | nil => rfl
    | cons j l ih =>
      rw [List.nodup_cons] at distinct
      rw [List.foldl_cons]
      by_cases e : j = i
      · subst e
        have only := rules.only j u
        rw [ih distinct.2 _ (only.inputs.trans inputs) fun k hk => (only.other k hk).trans (same k hk), if_neg distinct.1,
          if_pos List.mem_cons_self]
      · rw [still j u e (same j e) inputs, ih distinct.2 u inputs same]
        simp [Ne.symm e]
  exact (fold _ (List.nodup_finRange 12) s rfl fun _ _ => rfl).trans (if_pos (List.mem_finRange i))

end TurnRules

theorem evaluateTally_turns (o : Bool) : TurnRules (evaluateTally o) :=
  ⟨evaluateTally_frame o, fun i s => (evaluateTally_records o i s).reports, evaluateTally_only o⟩

/-! ### Evaluating a condition -/

/-- An evaluation that leaves the tally as it was does nothing at all. -/
theorem evaluateTally_still {o : Bool} {i : Fin 12} {s : State}
    (h : (s.entry i).evaluated (s.condition i) = s.entry i) : evaluateTally o i s = s := by
  have settled := (s.entry i).evaluated_run (s.condition i)
  rw [h] at settled
  unfold evaluateTally
  cases run : (s.entry i).run <;> cases holds : s.condition i
  · rfl
  · simp [run, holds] at settled
  · simp [run, holds] at settled
  · rfl
  · simp [run, holds] at settled
  · rfl

theorem evaluateTally_ends {o : Bool} {i : Fin 12} {s : State} (run : (s.entry i).run = .running)
    (holds : s.condition i = false) : evaluateTally o i s = endRun o i s := by
  unfold evaluateTally
  rw [run, holds]

/-- The queue after the TALLY_STOP record of a run that is recorded (R110). -/
def State.stopped (s : State) (o : Bool) (i : Fin 12) : EventQueue :=
  if (s.entry i).config.recordTransitions then s.reported o (.tallyStop i.val (s.entry i).runLength) else s.queue

theorem endRun_queue_unstaged {o : Bool} {i : Fin 12} {s : State} (staged : (s.entry i).staged = none) :
    (endRun o i s).queue = s.stopped o i := by
  have frame := produceIf_frame (s.entry i).config.recordTransitions o (.tallyStop i.val (s.entry i).runLength) s
  have queue := produceIf_queue (s.entry i).config.recordTransitions o (.tallyStop i.val (s.entry i).runLength) s
  unfold endRun applyStagedPreset
  dsimp only
  generalize (if (s.entry i).config.recordTransitions then produce o (.tallyStop i.val (s.entry i).runLength) s else s) = t
    at *
  rw [frame.entry, staged]
  exact queue

theorem endRun_queue_staged {o : Bool} {i : Fin 12} {s : State} {y : StagedPreset} (staged : (s.entry i).staged = some y) :
    ((s.stopped o i).report s.now s.time.quality s.burstNumber o
      (.tallyPreset i.val y.crew (s.entry i).lifetime y.lifetime (s.entry i).starts y.starts)).Reports
        (endRun o i s).queue := by
  have frame := produceIf_frame (s.entry i).config.recordTransitions o (.tallyStop i.val (s.entry i).runLength) s
  have queue := produceIf_queue (s.entry i).config.recordTransitions o (.tallyStop i.val (s.entry i).runLength) s
  unfold endRun applyStagedPreset
  dsimp only
  generalize (if (s.entry i).config.recordTransitions then produce o (.tallyStop i.val (s.entry i).runLength) s else s) = t
    at *
  rw [frame.entry, staged]
  have preset := applyPreset_queue o i y t
  rwa [frame.tally.reported, frame.entry, queue] at preset

theorem OtherTurns.stopped {i : Fin 12} {s t : State} (h : OtherTurns i s t) (o : Bool) :
    t.stopped o i =
      if (s.entry i).config.recordTransitions then
        t.queue.report s.now s.time.quality s.burstNumber o (.tallyStop i.val (s.entry i).runLength)
      else t.queue := by
  rw [State.stopped, h.entry, h.frame.reported]

/-- The records of a run that ends in an evaluation of every tally (R110). -/
theorem atAllTallies_evaluate_stops {o : Bool} {i : Fin 12} {s : State} (run : (s.entry i).run = .running)
    (holds : s.condition i = false) :
    let stopped := fun q : EventQueue =>
      if (s.entry i).config.recordTransitions then
        q.report s.now s.time.quality s.burstNumber o (.tallyStop i.val (s.entry i).runLength)
      else q
    ∃ before : EventQueue, s.queue.Reports before ∧ match (s.entry i).staged with
      | none => (stopped before).Reports (atAllTallies (evaluateTally o) s).queue
      | some y => ((stopped before).report s.now s.time.quality s.burstNumber o
          (.tallyPreset i.val y.crew (s.entry i).lifetime y.lifetime (s.entry i).starts y.starts)).Reports
            (atAllTallies (evaluateTally o) s).queue := by
  intro stopped
  obtain ⟨t, others, later⟩ := (evaluateTally_turns o).turn i s
  have stop : t.stopped o i = stopped t.queue := others.stopped o
  have condition : t.condition i = false := by rw [State.condition, others.entry, others.inputs]; exact holds
  rw [evaluateTally_ends (others.entry ▸ run) condition] at later
  refine ⟨t.queue, others.reports, ?_⟩
  split
  · next staged =>
    rw [endRun_queue_unstaged (by rw [others.entry, staged]), stop] at later
    exact later
  · next y staged =>
    have ended := endRun_queue_staged (o := o) (s := t) (by rw [others.entry, staged])
    have now : t.now = s.now := by rw [others.frame.1]; rfl
    have quality : t.time = s.time := by rw [others.frame.1]
    have burst : t.burstNumber = s.burstNumber := by rw [others.frame.1]; rfl
    rw [stop, others.entry, now, quality, burst] at ended
    exact ended.trans later

section Evaluated

variable {x : Tally}

theorem Tally.evaluated_same {holds : Bool} (h : x.run = .idle ↔ holds = false) : x.evaluated holds = x := by
  unfold Tally.evaluated
  cases run : x.run <;> cases holds
  · rfl
  · simp [run] at h
  · simp [run] at h
  · rfl
  · simp [run] at h
  · rfl

theorem Tally.evaluated_enters (run : x.run = .idle) : x.evaluated true = x.entered := by
  unfold Tally.evaluated
  rw [run]

theorem Tally.evaluated_abandons (run : x.run = .qualifying) :
    x.evaluated false = { x with run := .idle, qualifyCount := 0 } := by
  unfold Tally.evaluated
  rw [run]

theorem Tally.evaluated_ends (run : x.run = .running) : x.evaluated false = x.ended := by
  unfold Tally.evaluated
  rw [run]

theorem Tally.ended_unstaged (staged : x.staged = none) : x.ended = { x with run := .idle, runLength := 0 } := by
  unfold Tally.ended
  rw [staged]

theorem Tally.ended_staged {y : StagedPreset} (staged : x.staged = some y) :
    x.ended = { x.preset y with run := .idle, runLength := 0 } := by
  unfold Tally.ended
  rw [staged]

end Evaluated

theorem handInput_changed {k : Nat} {v : Bool} {s : State} (unpaused : s.tally.paused = false)
    (changed : s.tally.inputs.getLsbD k ≠ v) :
    handInput k v s =
      atAllTallies (evaluateTally false) (s.withTally { s.tally with inputs := putBit s.tally.inputs k v }) :=
  if_neg (by simp [unpaused, changed])

/-- Settles O39: `Tally.evaluated` is what an evaluation makes of each tally. -/
theorem inputChangeMovesTheRunStates : Obligations.InputChangeMovesTheRunStates := by
  intro k v s _ unpaused changed
  have frame := handInput_frame k v s
  have reports := (handInput_records k v s).reports
  have settings := (SettingsKept.handInput k v s).settings
  obtain ⟨entries, inputs, paused⟩ := handInput_tally (k := k) (v := v) unpaused changed
  refine ⟨frame.1, frame.2, settings, reports, inputs, paused, fun i => ?_⟩
  have entry := entries i
  dsimp only
  refine ⟨fun run holds => ?_, fun run holds time => ?_, fun run holds time => ?_, fun run holds => ?_, fun run holds => ?_,
    fun run holds => ?_, fun run holds staged => ?_, fun y run holds staged => ?_, fun run holds => ⟨?_, fun same staged => ?_⟩⟩
  · rw [entry, Tally.evaluated_same (by simp [run, holds])]
  · rw [entry, holds, Tally.evaluated_enters run]
    exact if_neg time
  · rw [entry, holds, Tally.evaluated_enters run, Tally.entered, if_pos time]
    exact ⟨rfl, rfl, rfl, rfl⟩
  · rw [entry, Tally.evaluated_same (by simp [run, holds])]
  · rw [entry, holds, Tally.evaluated_abandons run]
  · rw [entry, Tally.evaluated_same (by simp [run, holds])]
  · rw [entry, holds, Tally.evaluated_ends run, Tally.ended_unstaged staged]
  · rw [entry, holds, Tally.evaluated_ends run, Tally.ended_staged staged]
    rfl
  · rw [handInput_changed unpaused changed]
    exact atAllTallies_evaluate_stops (o := false) (i := i)
      (s := s.withTally { s.tally with inputs := putBit s.tally.inputs k v }) run holds
  · have still (j : Fin 12) (t : State) (other : j ≠ i)
        (unmoved : t.entry j = (s.withTally { s.tally with inputs := putBit s.tally.inputs k v }).entry j)
        (inputs : t.tally.inputs = (s.withTally { s.tally with inputs := putBit s.tally.inputs k v }).tally.inputs) :
        evaluateTally false j t = t := by
      refine evaluateTally_still ?_
      rw [State.condition, unmoved, inputs]
      exact (entries j).symm.trans (same j other)
    rw [handInput_changed unpaused changed, (evaluateTally_turns false).alone still, evaluateTally_ends
      (s := s.withTally { s.tally with inputs := putBit s.tally.inputs k v }) run holds]
    exact endRun_queue_unstaged staged

end Sys2Proof.Machine
end

section
/-!
SUPPORT. What the production of a record does at the ports (R88 to R91, R100), and the claim about produced records.
-/

namespace Sys2Proof.Machine

/-! ### GAP at a loss -/

/-- GAP is raised at the ports of `lost` and kept elsewhere; the part stays in RUN and the subscription set as it is. -/
structure GapRaised (lost : Port → Bool) (s t : State) : Prop where
  running : t.running = s.running
  subscribed : t.queue.subscribed = s.queue.subscribed
  gap : ∀ q, (t.port q).pending.has .gap = ((s.port q).pending.has .gap || lost q)

namespace GapRaised

theorem refl (s : State) : GapRaised (fun _ => false) s s := ⟨rfl, rfl, fun q => by simp⟩

theorem trans {l m : Port → Bool} {s t u : State} (h : GapRaised l s t) (k : GapRaised m t u) :
    GapRaised (fun q => l q || m q) s u :=
  ⟨k.running.trans h.running, k.subscribed.trans h.subscribed, fun q => by rw [k.gap, h.gap, Bool.or_assoc]⟩

theorem congr {l m : Port → Bool} {s t : State} (h : GapRaised l s t) (same : ∀ q, l q = m q) : GapRaised m s t :=
  ⟨h.running, h.subscribed, fun q => by rw [h.gap, same]⟩

theorem withQueue {l : Port → Bool} {s t : State} {q : EventQueue} (h : GapRaised l (s.withQueue q) t)
    (same : q.subscribed = s.queue.subscribed) : GapRaised l s t := ⟨h.running, h.subscribed.trans same, h.gap⟩

theorem syncEvents (p : Port) (s : State) : GapRaised (fun _ => false) s (syncEvents p s) := by
  refine ⟨setNotice_running .., by rw [syncEvents_queue], fun q => ?_⟩
  rw [Machine.syncEvents, Kept.has_setNotice (by decide), Bool.or_false]

theorem raise (p : Port) {s : State} (run : s.running = true) :
    GapRaised (fun q => decide (q = p)) s (setNotice p .gap true s) := by
  refine ⟨setNotice_running .., by rw [setNotice_queue], fun q => ?_⟩
  obtain ⟨-, -, raised, -, others⟩ := setNotice_spec p .gap true s
  by_cases e : q = p
  · subst e
    simp [raised run]
  · rw [others q e]
    simp [e]

/-- An action at every port that raises GAP at its own port where `lost` says so. -/
theorem atAllPorts {f : Port → State → State} {lost : Port → Bool} {s : State} (run : s.running = true)
    (each : ∀ p t, t.running = true → t.queue.subscribed = s.queue.subscribed →
      GapRaised (fun q => decide (q = p) && lost p) t (f p t)) :
    GapRaised lost s (atAllPorts f s) := by
  have a := each .a s run rfl
  have b := each .b _ (a.running.trans run) a.subscribed
  have c := each .c _ (b.running.trans (a.running.trans run)) (b.subscribed.trans a.subscribed)
  exact ((a.trans b).trans c).congr fun q => by cases q <;> simp

theorem discardAt (p : Port) {s : State} (run : s.running = true) :
    GapRaised (fun q => decide (q = p) && s.queue.subscribed.get p) s (discardAt p s) := by
  unfold Machine.discardAt
  split
  · next subscribed =>
    rw [subscribed]
    refine withQueue ((raise p ?_).congr fun q => by simp) ?_
    · exact run
    · rfl
  · next out => exact (refl s).congr fun q => by simp [out]

theorem loseRemoved (h : Held) (p : Port) {s : State} (run : s.running = true) :
    GapRaised (fun q => decide (q = p) && h.readBy p) s (loseRemoved h p s) := by
  unfold Machine.loseRemoved Held.readBy
  cases h.readers.get p with
  | none => exact (refl s).congr fun q => by simp
  | some g =>
    have raised : GapRaised (fun q => decide (q = p)) s (loseAt p (g + 1) s) :=
      withQueue (raise p run) (s.queue.addLoss_subscribed p (g + 1))
    exact (raised.trans (syncEvents p _)).congr fun q => by simp

theorem enterRecord (r : Record) {s : State} (run : s.running = true) :
    GapRaised (fun _ => false) s (enterRecord r s) := by
  have sync := atAllPorts (lost := fun _ => false) (f := Machine.syncEvents) (s := s.withQueue
    { s.queue with held := s.queue.held ++ [⟨r, s.queue.newReaders⟩], tailGap := s.queue.clearedTails }) run
    fun p t _ _ => (syncEvents p t).congr fun q => by simp
  exact sync.withQueue rfl

theorem removeOldest {s : State} (run : s.running = true) :
    GapRaised (fun q => (s.queue.held.head?.map fun h => h.readBy q).getD false) s (removeOldest s) := by
  unfold Machine.removeOldest
  split
  · next nil => exact (refl s).congr fun q => by simp [nil]
  · next h t held =>
    have lost := atAllPorts (lost := fun q => h.readBy q) (f := Machine.loseRemoved h)
      (s := s.withQueue { s.queue with held := t }) run fun p u run _ => loseRemoved h p run
    exact (lost.withQueue rfl).congr fun q => by simp [held]

end GapRaised

/-- The ports that lose a record in a production (R90, R91). -/
def EventQueue.loses (q : EventQueue) (p : Port) : Bool :=
  q.overflows && match q.mode with
    | .keepOldest => q.subscribed.get p
    | .keepNewest => (q.held.head?.map fun h => h.readBy p).getD false

theorem storeRecord_gap (r : Record) {s : State} (run : s.running = true) : GapRaised s.queue.loses s (storeRecord r s) := by
  unfold storeRecord
  split
  · next any =>
    split
    · next room =>
      exact (GapRaised.enterRecord r run).congr fun q => by simp [EventQueue.loses, EventQueue.overflows, room]
    · next full =>
      have overflows : s.queue.overflows = true := by simp [EventQueue.overflows, any, Nat.not_lt.1 full]
      split
      · next mode =>
        have discarded := GapRaised.atAllPorts (lost := fun q => s.queue.subscribed.get q) (f := discardAt) run
          fun p t run same => (GapRaised.discardAt p run).congr fun q => by rw [same]
        exact discarded.congr fun q => by simp [EventQueue.loses, overflows, mode]
      · next mode =>
        have removed := GapRaised.removeOldest run
        exact (removed.trans (GapRaised.enterRecord r (removed.running.trans run))).congr fun q => by
          simp [EventQueue.loses, overflows, mode]
  · next unread =>
    exact (GapRaised.refl s).congr fun q => by simp [EventQueue.loses, EventQueue.overflows, unread]

theorem produceAt_gap (i : Instant) (o : Bool) (b : RecordBody) {s : State} (run : s.running = true) (q : Port) :
    ((produceAt i o b s).port q).pending.has .gap = ((s.port q).pending.has .gap || s.queue.loses q) :=
  (storeRecord_gap _ (s := s.withQueue { s.queue with seq := (s.queue.seq + 1) % 65536 }) run).gap q

/-! ### The streams after a production -/

namespace EventQueue

variable {q : EventQueue} {r : Record} {p : Port} (in_ : q.subscribed.get p = true)
include in_

theorem place_below (room : q.held.length < queueRoom) :
    (q.place r).reads p = q.reads p ++ [(r, q.tailGap.get p)] ∧ (q.place r).tailGap.get p = 0 := by
  have any := q.anySubscribed_iff.2 ⟨p, in_⟩
  rw [place_eq, if_neg (by simp [any]), if_pos room, enter_reads, enter_tailGap, in_]
  exact ⟨rfl, rfl⟩

theorem place_discards (full : ¬ q.held.length < queueRoom) (mode : q.mode = .keepOldest) :
    (q.place r).reads p = q.reads p ∧ (q.place r).tailGap.get p = addGap (q.tailGap.get p) 1 := by
  have any := q.anySubscribed_iff.2 ⟨p, in_⟩
  rw [place_eq, if_neg (by simp [any]), if_neg full, mode]
  dsimp only
  rw [discard_tailGap, in_]
  exact ⟨rfl, rfl⟩

theorem place_displaces (full : ¬ q.held.length < queueRoom) (mode : q.mode = .keepNewest) :
    (q.place r).reads p = q.withoutOldest.reads p ++ [(r, q.withoutOldest.tailGap.get p)] ∧
      (q.place r).tailGap.get p = 0 := by
  have any := q.anySubscribed_iff.2 ⟨p, in_⟩
  rw [place_eq, if_neg (by simp [any]), if_neg full, mode]
  dsimp only
  rw [enter_reads, enter_tailGap, withoutOldest_subscribed, in_]
  exact ⟨rfl, rfl⟩

end EventQueue

theorem EventQueue.report_seq (q : EventQueue) (i : Instant) (quality : Quality) (burst : Nat) (outage : Bool)
    (body : RecordBody) : (q.report i quality burst outage body).seq = (q.seq + 1) % 65536 := by
  rw [report, place_eq]
  split
  · rfl
  · split
    · rfl
    · split
      · rfl
      · exact EventQueue.withoutOldest_seq _

/-- Settles O34: `EventQueue.report` is what becomes of the queue, and the ports that lose a record have GAP raised. -/
theorem producedRecordIsStoredOrCountedAsLost : Obligations.ProducedRecordIsStoredOrCountedAsLost := by
  intro i outage body s run events
  have frame := produceAt_frame i outage body s
  have queue := produceAt_queue i outage body s
  refine ⟨frame.1, frame.2, queue, ?_, produceAt_gap i outage body run, (Kept.events_produceAt i outage body s).kept run events,
    fun q m gap event => (NoticeKept.produceAt gap event i outage body s).has q, fun q subscribed => ?_⟩
  · rw [queue]
    exact EventQueue.report_seq ..
  · dsimp only
    rw [queue, ← EventQueue.reads_eq, ← EventQueue.reads_eq]
    have in_ : ({ s.queue with seq := (s.queue.seq + 1) % 65536 } : EventQueue).subscribed.get q = true := subscribed
    refine ⟨fun room => EventQueue.place_below in_ room, fun full mode => EventQueue.place_discards in_ (by exact full.not_gt) mode,
      fun h rest full mode held => ?_⟩
    have displaced := EventQueue.place_displaces (r := ⟨s.queue.seq, i, s.time.quality, s.burstNumber, outage, false, body⟩)
      in_ (by exact full.not_gt) mode
    have held' : ({ s.queue with seq := (s.queue.seq + 1) % 65536 } : EventQueue).held = h :: rest := held
    refine ⟨displaced.2, fun unread => ?_, fun read alone => ?_, fun next gap more read several => ?_⟩
    · obtain ⟨reads, tail⟩ := EventQueue.withoutOldest_unread held' unread
      rw [reads, tail] at displaced
      exact displaced.1
    · obtain ⟨before, reads, tail⟩ := EventQueue.withoutOldest_read held' read
      have nothing : rest.filterMap (Held.read q) = [] := (List.cons.inj (before.symm.trans alone)).2
      rw [nothing] at reads tail
      rw [reads, tail] at displaced
      exact displaced.1
    · obtain ⟨before, reads, tail⟩ := EventQueue.withoutOldest_read held' read
      have later : rest.filterMap (Held.read q) = (next, gap) :: more := (List.cons.inj (before.symm.trans several)).2
      rw [later] at reads tail
      rw [reads, tail, if_neg (by simp)] at displaced
      exact displaced.1

end Sys2Proof.Machine
end

section
/-!
SUPPORT. Records as a port receives them (R86, R97, R189), the head of a stream (R94) and its delivery (R96), and the claims about
READ_EVENTS and SUBSCRIBE.
-/

namespace Sys2Proof.Machine

/-! ### Records -/

@[simp] theorem length_instantBytes (i : Instant) : (instantBytes i).length = 8 := by simp [instantBytes]

@[simp] theorem length_slotByte (k : Option Nat) : (slotByte k).length = 1 := by cases k <;> simp [slotByte]

theorem length_flatMap_const {α β : Type} {f : α → List β} {k : Nat} (h : ∀ x, (f x).length = k) (l : List α) :
    (l.flatMap f).length = k * l.length := by
  induction l with
  | nil => rfl
  | cons x l ih => rw [List.flatMap_cons, List.length_append, h, ih, List.length_cons]; ring

theorem length_rankBytes (e : Nat × BitVec 32) : (rankBytes e).length = 5 := by simp [rankBytes]

/-- The length of a record is that of its header and its body (R86, R189). -/
theorem RecordBody.length_eq (b : RecordBody) : b.length = 16 + b.bytes.length := by
  cases b with
  | firstOut first overflow entries =>
    simp [RecordBody.length, RecordBody.bytes, length_flatMap_const length_rankBytes]
    omega
  | ack crew port points =>
    simp [RecordBody.length, RecordBody.bytes, length_flatMap_const (length_beBytes 1)]
    omega
  | power cause start atStart atEnd => cases start <;> simp [RecordBody.length, RecordBody.bytes]
  | timeStep e => simp [RecordBody.length, RecordBody.bytes, beSigned]
  | _ => simp [RecordBody.length, RecordBody.bytes, flagByte]

/-- The bytes of a record in terms of its body alone. -/
theorem Record.bytes_eq (r : Record) :
    r.bytes = beBytes 1 (16 + r.body.bytes.length) ++ [r.body.kind] ++ beBytes 2 r.seq ++
      (beBytes 2 r.instant.date ++ beBytes 4 r.instant.ms ++ beBytes 2 r.instant.us) ++ [r.quality.code] ++
      beBytes 2 r.burst ++ beBytes 1 ((if r.outage then 1 else 0) + if r.withheld || false then 2 else 0) ++ r.body.bytes := by
  rw [Record.bytes, RecordBody.length_eq, Record.flags, Bool.or_false]
  rfl

/-- Outside the read mask the value fields of a tally record are zeroed and WITHHELD is set (R97). -/
theorem Record.laidOut_eq (r : Record) (mask : BitVec 12) : r.laidOut mask = (r.withhold mask).bytes := by
  rw [Record.bytes_eq]
  obtain ⟨seq, instant, quality, burst, outage, withheld, body⟩ := r
  cases body with
  | tallyRun n =>
    cases seen : mask.getLsbD n <;> simp [Record.laidOut, Record.withhold, RecordBody.bytes, RecordBody.kind, seen]
  | tallyStop n length =>
    cases seen : mask.getLsbD n <;> simp [Record.laidOut, Record.withhold, RecordBody.bytes, RecordBody.kind, seen]
  | tallyDue n life =>
    cases seen : mask.getLsbD n <;> simp [Record.laidOut, Record.withhold, RecordBody.bytes, RecordBody.kind, seen]
  | tallyPreset n crew a b c d =>
    cases seen : mask.getLsbD n <;> simp [Record.laidOut, Record.withhold, RecordBody.bytes, RecordBody.kind, seen]
  | handover phase a b slot c d => cases phase <;> cases slot <;> rfl
  | power cause start a b => cases cause <;> cases start <;> rfl
  | point n a cause => cases cause <;> rfl
  | chatter n phase count => cases phase <;> rfl
  | timeSet old p mode => cases mode <;> rfl
  | _ => rfl

/-- A withheld record keeps its length, which is the one R86 gives. -/
theorem Record.length_laidOut (r : Record) (mask : BitVec 12) : (r.laidOut mask).length = r.body.length := by
  have kept : (r.withhold mask).body.length = r.body.length := by
    unfold Record.withhold
    cases body : r.body with
    | tallyRun n | tallyStop n length | tallyDue n life | tallyPreset n crew a b c d =>
      dsimp only
      split
      · rw [body]
      · rfl
    | _ => rw [body]
  have bytes : (r.withhold mask).bytes.length = (r.withhold mask).body.length := by
    rw [Record.bytes, RecordBody.length_eq]
    simp
    omega
  rw [Record.laidOut_eq, bytes, kept]

/-! ### The head of a stream -/

/-- The bytes of records (R86). -/
def bytesOf (l : List Held) : Nat := (l.map fun h => h.record.body.length).sum

theorem takeRecords_succ (p : Port) (n room : Nat) (first : Bool) (h : Held) (t : List Held) :
    takeRecords p (n + 1) room first (h :: t) =
      if h.record.body.length ≤ room ∧ (first = true ∨ h.leadGap p = 0) then
        h :: takeRecords p n (room - h.record.body.length) false t
      else [] := rfl

/-- The records taken are a beginning of the stream, as long as R94 allows: it ends at the end of the stream, at the number asked
for, at a record that does not fit, or at a record with a lead gap that is not the first. -/
theorem takeRecords_spec (p : Port) (n room : Nat) (first : Bool) (l : List Held) :
    let k := (takeRecords p n room first l).length
    takeRecords p n room first l = l.take k ∧ k ≤ l.length ∧ k ≤ n ∧ bytesOf (l.take k) ≤ room ∧
      (∀ h ∈ if first then (l.take k).tail else l.take k, h.leadGap p = 0) ∧
      (k = l.length ∨ k = n ∨ room < bytesOf (l.take (k + 1)) ∨
        ((first = true → k ≠ 0) ∧ ∃ h, l[k]? = some h ∧ h.leadGap p ≠ 0)) := by
  induction l generalizing n room first with
  | nil => simp [takeRecords, bytesOf]
  | cons h t ih =>
    cases n with
    | zero => simp [takeRecords, bytesOf]
    | succ n =>
      rw [takeRecords_succ]
      by_cases fits : h.record.body.length ≤ room ∧ (first = true ∨ h.leadGap p = 0)
      · obtain ⟨same, short, count, bytes, gaps, stop⟩ := ih n (room - h.record.body.length) false
        rw [if_pos fits]
        dsimp only [List.length_cons] at same short count bytes gaps stop ⊢
        generalize (takeRecords p n (room - h.record.body.length) false t).length = k at *
        have total (m : Nat) : bytesOf ((h :: t).take (m + 1)) = h.record.body.length + bytesOf (t.take m) := by
          simp [bytesOf]
        rw [total, total]
        refine ⟨by rw [same, List.take_succ_cons], by omega, by omega, by omega, ?_, ?_⟩
        · cases first with
          | true => exact gaps
          | false =>
            have own : h.leadGap p = 0 := fits.2.resolve_left (by decide)
            simpa [own] using gaps
        · rcases stop with end_ | asked | full | ⟨-, x, next, gap⟩
          · exact .inl (by omega)
          · exact .inr (.inl (by omega))
          · exact .inr (.inr (.inl (by omega)))
          · exact .inr (.inr (.inr ⟨fun _ => by omega, x, by simpa using next, gap⟩))
      · rw [if_neg fits]
        refine ⟨rfl, Nat.zero_le _, Nat.zero_le _, Nat.zero_le _, by simp, ?_⟩
        by_cases long : h.record.body.length ≤ room
        · have second : ¬ (first = true ∨ h.leadGap p = 0) := fun x => fits ⟨long, x⟩
          exact .inr (.inr (.inr ⟨fun x => absurd (.inl x) second, h, rfl, fun x => second (.inr x)⟩))
        · exact .inr (.inr (.inl (by simpa [bytesOf] using long)))

/-! ### Delivery -/

/-- Delivered records leave the port's stream (R96). -/
theorem deliver_stream (p : Port) (k : Nat) (l : List Held) :
    (deliver p k l).filter (·.readBy p) = (l.filter (·.readBy p)).drop k := by
  induction l generalizing k with
  | nil => cases k <;> simp [deliver]
  | cons h t ih =>
    cases k with
    | zero => simp [deliver]
    | succ k =>
      unfold deliver
      cases read : h.readBy p with
      | true =>
        cases (h.without p).wanted <;> simp [read, ih]
      | false => simp [read, ih]

theorem EventQueue.stream_reads (q : EventQueue) (p : Port) :
    ((q.stream p).map fun h => (h.record, h.leadGap p)) = q.reads p := (q.reads_eq p).symm

/-! ### A request that moves the queue and its own port -/

theorem State.ports_set {s t : State} {p : Port} (h : ∀ q, q ≠ p → t.port q = s.port q) :
    t.ports = s.ports.set p (t.port p) := by
  refine PerPort.ext_get fun q => ?_
  by_cases e : q = p
  · subst e
    rw [PerPort.get_set_self]
    rfl
  · rw [PerPort.get_set_other _ _ e]
    exact h q e

/-- EVENTS evaluated at the port of a request that replaces the queue, and the answer. -/
theorem syncEvents_respond (p : Port) (s : State) (q : EventQueue) (payload : List Byte) (run : s.running = true) :
    let t := (syncEvents p ((s.idleFrame p).withQueue q)).respond p (.ok payload)
    t = { s with queue := q, ports := s.ports.set p (t.port p) } ∧ PortsAnswer s t p payload ∧
      (t.port p).pending.has .events = !(q.stream p).isEmpty ∧
      (∀ m, m ≠ .events → (t.port p).pending.has m = (s.port p).pending.has m) ∧ t.queue = q := by
  intro t
  obtain ⟨frame, keep, has, other, ports⟩ :=
    setNotice_spec p .events (!(q.stream p).isEmpty) ((s.idleFrame p).withQueue q)
  have others (r : Port) (e : r ≠ p) : t.port r = s.port r :=
    (State.respond_other _ _ e).trans ((ports r e).trans (PortsKeep.idleFrame_other s e))
  have pending (m : Notice) : (t.port p).pending.has m =
      ((setNotice p .events (!(q.stream p).isEmpty) ((s.idleFrame p).withQueue q)).port p).pending.has m :=
    congrArg (NoticeSet.has · m) (State.pending_respond ..)
  refine ⟨?_, PortsAnswer.of_keep (fun r => keep r), (pending _).trans (has run), fun m e => (pending m).trans ?_,
    syncEvents_queue ..⟩
  · rw [← State.ports_set others]
    exact (congrArg (State.respond · p _) frame).trans rfl
  · rw [other m e]
    exact congrArg (NoticeSet.has · m) (s.pending_idleFrame p p)

/-- The payload of READ_EVENTS when `k` records are delivered (R93). -/
def State.eventsPayload (s : State) (p : Port) (k : Nat) : List Byte :=
  let taken := (s.queue.stream p).take k
  let gap := match taken with | [] => s.queue.tailGap.get p | h :: _ => h.leadGap p
  beBytes 2 gap ++ beBytes 1 k ++ beBytes 1 ((s.queue.stream p).length - k) ++
    taken.flatMap fun h => h.record.laidOut (s.port p).readMask

/-- READ_EVENTS delivers the records that `takeRecords` takes. -/
theorem serveReadEvents_delivers {p : Port} {s : State} {args : List Byte} {k : Nat}
    (permitted : (s.port p).rights.events = true)
    (taken : takeRecords p (clamp 1 8 (argField args 0 1)) eventsRoom true (s.queue.stream p) = (s.queue.stream p).take k)
    (short : k ≤ (s.queue.stream p).length) :
    serveReadEvents p args s =
      .accept (syncEvents p (s.withQueue { s.queue with held := deliver p k s.queue.held })) (s.eventsPayload p k) := by
  have sent (h : Held) : (h.record.withhold (s.port p).readMask).bytes = h.record.laidOut (s.port p).readMask :=
    (h.record.laidOut_eq _).symm
  have length : ((s.queue.stream p).take k).length = k := by rw [List.length_take, Nat.min_eq_left short]
  rw [serveReadEvents, if_pos permitted]
  simp only [taken, length, sent]
  rfl

theorem exec_readEvents (p : Port) (n : Byte) {s : State} (run : s.running = true) :
    exec (.readEvents p [1, n]) s = .next (s.reply p 0x20 (serveReadEvents p [n] (s.idleFrame p))) :=
  congrArg Host.Outcome.next (takeRequest_exactly run (args := [n]) rfl (by decide))

/-- Settles O35: `takeRecords_spec` gives the head of the stream, `deliver_spec` what its delivery leaves. -/
theorem readEventsDeliversTheHeadOfTheStream : Obligations.ReadEventsDeliversTheHeadOfTheStream := by
  refine ⟨fun p n s run denied => ?_, fun p n s run permitted => ?_⟩
  · rw [exec_readEvents p n run, serveReadEvents, s.rights_idleFrame, denied]
    rfl
  · have room (l : List Held) : (l.map fun h => (h.record.laidOut (s.port p).readMask).length).sum = bytesOf l := by
      simp only [bytesOf, Record.length_laidOut]
    obtain ⟨same, short, count, bytes, gaps, stop⟩ :=
      takeRecords_spec p (clamp 1 8 (argField [n] 0 1)) eventsRoom true (s.queue.stream p)
    generalize (takeRecords p (clamp 1 8 (argField [n] 0 1)) eventsRoom true (s.queue.stream p)).length = k at *
    have answer : exec (.readEvents p [1, n]) s = .next ((syncEvents p ((s.idleFrame p).withQueue
        { s.queue with held := deliver p k s.queue.held })).respond p (.ok ((s.idleFrame p).eventsPayload p k))) := by
      rw [exec_readEvents p n run,
        serveReadEvents_delivers ((congrArg Rights.events (s.rights_idleFrame p)).trans permitted) same short]
      rfl
    have payload : (s.idleFrame p).eventsPayload p k = s.eventsPayload p k := by
      unfold State.eventsPayload
      rw [s.idleFrame_self]
      rfl
    rw [payload] at answer
    rw [argField_oneByte] at count stop
    obtain ⟨frame, ports, events, others, queue⟩ :=
      syncEvents_respond p s { s.queue with held := deliver p k s.queue.held } (s.eventsPayload p k) run
    have delivered : ({ s.queue with held := deliver p k s.queue.held } : EventQueue).stream p = (s.queue.stream p).drop k :=
      deliver_stream p k s.queue.held
    generalize (syncEvents p ((s.idleFrame p).withQueue { s.queue with held := deliver p k s.queue.held })).respond p
      (.ok (s.eventsPayload p k)) = t at *
    refine ⟨t, k, answer, short, count, (room _).trans_le bytes, gaps, ?_, frame.trans ?_, ports, ?_, events.trans ?_,
      others, fun q other => ?_⟩
    · have longer : bytesOf ((s.queue.stream p).take (k + 1)) = _ := (room _).symm
      rw [longer] at stop
      exact stop.imp_right (Or.imp_right (Or.imp_right fun ⟨later, gap⟩ => ⟨later rfl, gap⟩))
    · rw [queue]
    · rw [queue, delivered]
    · rw [delivered, Bool.eq_iff_iff]
      simp
    · rw [queue, EventQueue.stream_reads, EventQueue.stream_reads]
      exact (deliver_spec p k s.queue.held).2.1 q other

/-- Settles O36: each form of SUBSCRIBE by what `joinSubscription` and `unsubscribe` make of the queue. -/
theorem subscriptionJoinsOrLeaves : Obligations.SubscriptionJoinsOrLeaves := by
  intro p on s run
  have served : exec (.subscribe p [1, on]) s = .next (s.reply p 0x21 (serveSubscribe p [on] (s.idleFrame p))) :=
    congrArg Host.Outcome.next (takeRequest_exactly run (args := [on]) rfl (by decide))
  have flag : onOff (argField [on] 0 1) = decide (on ≠ 0) := by
    rw [argField_oneByte, onOff, Bool.eq_iff_iff]
    simp [BitVec.toNat_eq]
  have queue : (s.idleFrame p).queue = s.queue := rfl
  rw [serveSubscribe, s.rights_idleFrame, flag, joinSubscription, unsubscribe, queue] at served
  refine ⟨fun denied => ?_, fun permitted => ?_⟩
  · rw [served, denied]
    rfl
  rw [if_pos permitted] at served
  refine ⟨fun join in_ => ?_, fun join out => ?_, fun leave out => ?_, fun leave in_ => ?_⟩
  · rw [served, if_pos (by simpa using join), if_pos in_]
    exact congrArg Host.Outcome.next (s.respond_idleFrame p _)
  · rw [served, if_pos (by simpa using join), if_neg (by simp [out])]
    exact congrArg Host.Outcome.next (State.respond_of_ports rfl)
  · rw [served, if_neg (by simpa using leave), if_neg (by simp [out])]
    exact congrArg Host.Outcome.next (s.respond_idleFrame p _)
  · rw [if_neg (by simpa using leave), if_pos in_] at served
    have nothing := (EventQueue.stream_eq_nil_iff (q := { s.queue with
      held := (s.queue.held.map (·.without p)).filter (·.wanted)
      tailGap := s.queue.tailGap.set p 0
      subscribed := s.queue.subscribed.set p false }) (p := p)).2 (leave_spec p s.queue.held).1
    obtain ⟨frame, ports, events, others, queue⟩ := syncEvents_respond p s { s.queue with
      held := (s.queue.held.map (·.without p)).filter (·.wanted)
      tailGap := s.queue.tailGap.set p 0
      subscribed := s.queue.subscribed.set p false } (flagByte false) run
    refine ⟨_, served, ports, frame, ?_, events.trans ?_, others⟩
    · exact (congrArg (EventQueue.stream · p) queue).trans nothing
    · rw [nothing]
      rfl

end Sys2Proof.Machine
end

section
/-!
SUPPORT. Requests as their ports take them (R169 to R171): every request command is one frame taken at a STOP, with the lengths of its
row; and the claim about the checks of a frame.
-/

namespace Sys2Proof.Machine

/-! ### A request command is a frame taken -/

/-- The lengths that a request of the table lets pass (R170, check 3; R188). -/
structure KnownRow (code : Byte) (fits : Nat → Bool) : Prop where
  known : requestCodes.contains code = true
  fixed : ∀ n, fixedLength code = some n → fits = exactly n
  rota : code = 0x31 → fits = fun len => decide (2 ≤ len)

theorem KnownRow.of_length {code : Byte} {n : Nat} (known : requestCodes.contains code = true)
    (length : fixedLength code = some n) (other : code ≠ 0x31) : KnownRow code (exactly n) :=
  ⟨known, fun m h => by rw [Option.some.inj (length.symm.trans h)], fun h => absurd h other⟩

theorem KnownRow.setRota : KnownRow 0x31 fun len => decide (2 ≤ len) :=
  ⟨by decide, fun n h => absurd (h.symm.trans (by decide : fixedLength 0x31 = none)) nofun, fun _ => rfl⟩

theorem requestTable_known {r : RequestRow} (h : r ∈ requestTable) : KnownRow r.code r.lengthFits := by
  simp only [requestTable, List.cons_append, List.nil_append, List.mem_cons, List.not_mem_nil, or_false] at h
  rcases h with rfl | rfl | rfl | rfl | rfl | rfl | rfl | rfl | rfl | rfl | rfl | rfl | rfl | rfl | rfl | rfl | rfl |
    rfl | rfl | rfl | rfl | rfl | rfl | rfl | rfl | rfl | rfl | rfl | rfl | rfl | rfl | rfl | rfl | rfl
  case inr.inr.inr.inr.inr.inr.inr.inr.inr.inr.inr.inr.inr.inr.inr.inr.inr.inr.inr.inr.inl => exact .setRota
  all_goals exact .of_length (by decide) (by decide) (by decide)

theorem requestTable_codes : requestTable.map (·.code) = requestCodes := by decide

/-- A code that no row has is none of R188. -/
theorem requestCodes_of_find {code : Byte} (h : (requestTable.find? fun r => r.code == code) = none) :
    requestCodes.contains code = false := by
  rw [← requestTable_codes, List.contains_eq_any_beq, List.any_map, List.any_eq_false]
  intro r hr same
  have other := List.find?_eq_none.1 h r hr
  exact other (beq_iff_eq.2 (beq_iff_eq.1 same).symm)

/-- A request command is its frame taken at a STOP, with the lengths of its row; a code of no row is refused (R170). -/
theorem exec_request {c : Instr} {f : Frame} (h : frameOf c = some f) (s : State) :
    ∃ fits serve, exec c s = .next (takeRequest f.port f.code fits serve f.rest s) ∧
      (KnownRow f.code fits ∨
        requestCodes.contains f.code = false ∧ fits = (fun _ => true) ∧
          serve = fun _ _ => .refuse .unknown f.code.toNat) := by
  cases c with
  | unknown p code rest =>
    cases h
    unfold exec execUnknown
    dsimp only
    split
    · next missing => exact ⟨_, _, rfl, .inr ⟨requestCodes_of_find missing, rfl, rfl⟩⟩
    · next r found =>
      have code : (r.code == code) = true := List.find?_some (p := fun r : RequestRow => r.code == code) found
      exact ⟨_, _, rfl, .inl (beq_iff_eq.1 code ▸ requestTable_known (List.mem_of_find?_eq_some found))⟩
  | setRota p rest => cases h; exact ⟨_, _, rfl, .inl .setRota⟩
  | repeatedStartDiscard _ _ | pointEdge _ _ | mainLossWarning _ _ | returnOfSupply _ _ | resetAssertion _ _ => cases h
  | debounceExpiry _ | chatterWindowExpiry _ | stabilityWaitExpiry _ | qualificationComplete _ => cases h
  | alarmReached _ | pulseGapEnd _ => cases h
  | mark | missingMarkTimeout | holdoverLimitExpiry | millisecondBoundary | quietWaitExpiry | burstLimitExpiry => cases h
  | slotDue | releaseDeadlineExpiry | acceptDeadlineExpiry | retentionLost | returnQualificationStart => cases h
  | returnQualificationStop | resetRearm | oscillatorTick => cases h
  | _ =>
    cases h
    exact ⟨_, _, rfl, .inl (.of_length rfl rfl (by dsimp only; decide))⟩

/-! ### The checks of a frame -/

/-- The shape of a frame (R170, check 1) as a test of its bytes. -/
def shapedFrame : List Byte → Bool
  | [] => false
  | len :: args => decide (len.toNat ≤ 64) && decide (args.length = len.toNat)

theorem frameArguments_unshaped {rest : List Byte} (h : shapedFrame rest = false) : frameArguments rest = none := by
  cases rest with
  | nil => rfl
  | cons len args => exact if_neg (by simpa [shapedFrame] using h)

theorem frameArguments_shaped {rest : List Byte} (h : shapedFrame rest = true) :
    ∃ args, frameArguments rest = some args ∧ rest.length = args.length + 1 := by
  cases rest with
  | nil => cases h
  | cons len args => exact ⟨args, if_pos (by simpa [shapedFrame] using h), rfl⟩

theorem State.response_refusedAt (s : State) (p : Port) (request : Byte) (code : RefusalCode) (detail : Nat) :
    ((s.refusedAt p request code detail).port p).response = .refused code request detail := by
  rw [State.refusedAt, State.port_withPort_self]

/-- A response that says REFUSED is the whole effect of its request (R171). -/
theorem takeRequest_refusal {p : Port} {code : Byte} {fits : Nat → Bool} {serve : List Byte → State → Answer}
    {rest : List Byte} {s : State} {c : RefusalCode} {request : Byte} {detail : Nat} (run : s.running = true)
    (h : ((takeRequest p code fits serve rest s).port p).response = .refused c request detail) :
    request = code ∧ takeRequest p code fits serve rest s = s.refusedAt p code c detail := by
  have refused {c' : RefusalCode} {d : Nat} (same : takeRequest p code fits serve rest s = s.refusedAt p code c' d) :
      request = code ∧ takeRequest p code fits serve rest s = s.refusedAt p code c detail := by
    rw [same, State.response_refusedAt] at h
    cases h
    exact ⟨rfl, same⟩
  rcases takeRequest_cases p code fits serve rest s with ⟨backup, -⟩ | ⟨-, -, same⟩ | ⟨args, -, -, answer⟩
  · rw [run] at backup
    cases backup
  · exact refused same
  · rcases answer with ⟨-, same⟩ | ⟨-, ⟨c', d, -, same⟩ | ⟨t, payload, -, same⟩⟩
    · exact refused same
    · exact refused same
    · rw [same, State.response_respond] at h
      cases h

theorem of_ite_eq_some {c P : Prop} [Decidable c] {a b : Option Nat} {n : Nat} (here : c → P) (there : b = some n → P)
    (h : (if c then a else b) = some n) : P := by
  by_cases k : c
  · exact here k
  · exact there ((if_neg k).symm.trans h)

/-- A request of a fixed length is one of R188. -/
theorem fixedLength_known {code : Byte} {n : Nat} : fixedLength code = some n → requestCodes.contains code = true := by
  have within {l : List Byte} (sub : ∀ x ∈ l, requestCodes.contains x = true) (mem : l.contains code = true) :
      requestCodes.contains code = true := sub code (List.contains_iff_mem.1 mem)
  have same {x : Byte} (known : requestCodes.contains x = true) (e : code = x) : requestCodes.contains code = true := e ▸ known
  exact of_ite_eq_some (within (by decide)) <| of_ite_eq_some (within (by decide)) <| of_ite_eq_some (within (by decide)) <|
    of_ite_eq_some (same (by decide)) <| of_ite_eq_some (same (by decide)) <| of_ite_eq_some (same (by decide)) <|
    of_ite_eq_some (within (by decide)) <| of_ite_eq_some (same (by decide)) <| of_ite_eq_some (same (by decide)) <|
    of_ite_eq_some (same (by decide)) <| of_ite_eq_some (same (by decide)) nofun

/-- Settles O57: `exec_request` makes of every request command its frame taken at a STOP. -/
theorem framesAreCheckedAndRefusalsChangeOnlyTheirPort : Obligations.FramesAreCheckedAndRefusalsChangeOnlyTheirPort := by
  refine ⟨fun c f s frame backup => ?_, fun c f s frame run => ?_, fun p bytes s => rfl,
    fun c f s t code request detail frame run next response => ?_⟩
  · obtain ⟨fits, serve, same, -⟩ := exec_request frame s
    rw [same, takeRequest_backup backup]
  · obtain ⟨fits, serve, same, row⟩ := exec_request frame s
    rw [same]
    refine ⟨fun unshaped => ?_, fun shaped unknown => ?_, fun n shaped length other => ?_, fun shaped rota short => ?_⟩
    · exact congrArg _ (takeRequest_misshaped run (frameArguments_unshaped unshaped))
    · obtain ⟨args, arguments, -⟩ := frameArguments_shaped shaped
      rcases row with known | ⟨-, rfl, rfl⟩
      · rw [known.known] at unknown
        cases unknown
      · exact congrArg _ (takeRequest_refused run arguments rfl rfl)
    · obtain ⟨args, arguments, size⟩ := frameArguments_shaped shaped
      have known : KnownRow f.code fits := row.resolve_right fun ⟨missing, _⟩ => by
        rw [fixedLength_known length] at missing
        cases missing
      have unfit : fits args.length = false := by
        rw [known.fixed n length]
        simpa [exactly] using fun e : args.length = n => other (by rw [size, e])
      rw [takeRequest_unfit run arguments unfit, size]
      rfl
    · obtain ⟨args, arguments, size⟩ := frameArguments_shaped shaped
      have known : KnownRow f.code fits := row.resolve_right fun ⟨missing, _⟩ => by
        rw [rota] at missing
        exact absurd missing (by decide)
      have unfit : fits args.length = false := by
        rw [known.rota rota]
        simp
        omega
      rw [takeRequest_unfit run arguments unfit, size]
      rfl
  · obtain ⟨fits, serve, same, -⟩ := exec_request frame s
    rw [same] at next
    cases next
    exact takeRequest_refusal run response

end Sys2Proof.Machine
end

section
/-!
SUPPORT. Duty-bound authority (R142) as the requests that need it have it, and the claims about it, about ACK_TRIPS and about
RESET_FIRST_OUT.
-/

namespace Sys2Proof.Machine

/-! ### The duty-bound check -/

section DutyBound

variable {p : Port} {crew : Nat} {s : State}

theorem dutyBound_idleFrame (p : Port) (crew : Nat) (s : State) : dutyBound p crew (s.idleFrame p) = dutyBound p crew s := by
  unfold dutyBound
  rw [s.rights_idleFrame]
  rfl

theorem isCrew_iff : isCrew crew = true ↔ 1 ≤ crew ∧ crew ≤ 15 := by simp [isCrew]

theorem dutyBound_denied (right : (s.port p).rights.duty = false) : dutyBound p crew s = some (.denied, 0) := by
  unfold dutyBound
  rw [right]
  rfl

theorem dutyBound_range (right : (s.port p).rights.duty = true) (unknown : crew = 0 ∨ 15 < crew) :
    dutyBound p crew s = some (.range, crew) := by
  have none_ : isCrew crew = false := by
    rw [Bool.eq_false_iff, Ne, isCrew_iff]
    omega
  unfold dutyBound
  rw [right, none_]
  rfl

variable (right : (s.port p).rights.duty = true) (low : 1 ≤ crew) (high : crew ≤ 15)
include right low high

theorem dutyBound_known :
    dutyBound p crew s =
      if s.duty.state = .vacant ∨ s.duty.state = .released then some (.state, s.duty.state.code)
      else if s.duty.port ≠ some p ∨ s.duty.crew ≠ crew then some (.notDuty, s.duty.crew)
      else none := by
  unfold dutyBound
  rw [right, isCrew_iff.2 ⟨low, high⟩]
  rfl

theorem dutyBound_state (state : s.duty.state = .vacant ∨ s.duty.state = .released) :
    dutyBound p crew s = some (.state, s.duty.state.code) := by
  rw [dutyBound_known right low high, if_pos state]

theorem dutyBound_notDuty (state : s.duty.state = .onDuty ∨ s.duty.state = .due)
    (other : s.duty.port ≠ some p ∨ s.duty.crew ≠ crew) : dutyBound p crew s = some (.notDuty, s.duty.crew) := by
  rw [dutyBound_known right low high, if_neg (by rcases state with e | e <;> simp [e]), if_pos other]

end DutyBound

/-- R142: what passes the check comes from the duty port and the duty crew, in ON_DUTY or DUE. -/
theorem dutyBound_none {p : Port} {crew : Nat} {s : State} (h : dutyBound p crew s = none) :
    (s.port p).rights.duty = true ∧ 1 ≤ crew ∧ crew ≤ 15 ∧ (s.duty.state = .onDuty ∨ s.duty.state = .due) ∧
      s.duty.port = some p ∧ s.duty.crew = crew := by
  cases right : (s.port p).rights.duty with
  | false => rw [dutyBound_denied right] at h; cases h
  | true =>
    by_cases known : crew = 0 ∨ 15 < crew
    · rw [dutyBound_range right known] at h
      cases h
    · have low : 1 ≤ crew := by omega
      have high : crew ≤ 15 := by omega
      rw [dutyBound_known right low high] at h
      split at h
      · cases h
      · next state =>
        split at h
        · cases h
        · next holder =>
          refine ⟨rfl, low, high, ?_, not_not.1 fun e => holder (.inl e), not_not.1 fun e => holder (.inr e)⟩
          cases e : s.duty.state <;> simp [e] at state ⊢

/-! ### Requests that need it -/

/-- A block that refuses what the duty-bound check refuses (R142). -/
def DutyBoundServes (p : Port) (serve : List Byte → State → Answer) (s : State) : Prop :=
  ∀ args c d, dutyBound p (argField args 0 1) s = some (c, d) → serve args s = .refuse c d

section Serves

variable (p : Port) (s : State)

theorem ackTrips_bound : DutyBoundServes p (serveAckTrips p) s := fun args c d h => by rw [serveAckTrips, h]

theorem resetFirstOut_bound : DutyBoundServes p (serveResetFirstOut p) s := fun args c d h => by rw [serveResetFirstOut, h]

theorem presetTally_bound : DutyBoundServes p (servePresetTally p) s := fun args c d h => by rw [servePresetTally, h]

theorem openHandover_bound : DutyBoundServes p (serveOpenHandover p) s := fun args c d h => by rw [serveOpenHandover, h]

theorem setRota_bound (held : s.duty.state ≠ .vacant) : DutyBoundServes p (serveSetRota p) s := fun args c d h => by
  rw [serveSetRota, rotaAuthority, if_neg held, h]

end Serves

section Bound

variable {p : Port} {args : List Byte} {c : Instr} {code : Byte} {fits : Nat → Bool}
  {serve : List Byte → State → Answer} {s : State}
  (run : s.running = true) (bound : DutyBoundServes p serve (s.idleFrame p))
  (taken : exec c s = .next (takeRequest p code fits serve (BitVec.ofNat 8 args.length :: args) s))
include run bound taken

/-- The refusals of a duty-bound request, in the order of R142. -/
theorem exec_dutyBound_refused (short : args.length ≤ 64) (fit : fits args.length = true) :
    ((s.port p).rights.duty = false → exec c s = .next (s.refusedAt p code .denied 0)) ∧
    ((s.port p).rights.duty = true →
      (argField args 0 1 = 0 ∨ 15 < argField args 0 1 →
        exec c s = .next (s.refusedAt p code .range (argField args 0 1))) ∧
      (1 ≤ argField args 0 1 → argField args 0 1 ≤ 15 →
        (s.duty.state = .vacant → exec c s = .next (s.refusedAt p code .state 0)) ∧
        (s.duty.state = .released → exec c s = .next (s.refusedAt p code .state 3)) ∧
        (s.duty.state = .onDuty ∨ s.duty.state = .due → s.duty.port ≠ some p ∨ s.duty.crew ≠ argField args 0 1 →
          exec c s = .next (s.refusedAt p code .notDuty s.duty.crew)))) := by
  have refused {r : RefusalCode} {d : Nat} (h : dutyBound p (argField args 0 1) s = some (r, d)) :
      exec c s = .next (s.refusedAt p code r d) := by
    rw [taken, takeRequest_refused run (frameArguments_ofNat short) fit
      (bound args r d ((dutyBound_idleFrame p _ s).trans h))]
  refine ⟨fun right => refused (dutyBound_denied right), fun right => ⟨fun unknown => refused (dutyBound_range right unknown),
    fun low high => ⟨fun vacant => refused ?_, fun released => refused ?_,
      fun state other => refused (dutyBound_notDuty right low high state other)⟩⟩⟩
  · rw [dutyBound_state right low high (.inl vacant), vacant]
    rfl
  · rw [dutyBound_state right low high (.inr released), released]
    rfl

/-- A duty-bound request that succeeds has passed the check. -/
theorem exec_dutyBound_accepted {t : State} {payload : List Byte} (short : args.length ≤ 64) (next : exec c s = .next t)
    (ok : (t.port p).response = .ok payload) : dutyBound p (argField args 0 1) s = none := by
  rw [taken] at next
  cases next
  have arguments := frameArguments_ofNat short
  rcases takeRequest_cases p code fits serve (BitVec.ofNat 8 args.length :: args) s with
    ⟨backup, -⟩ | ⟨-, shape, -⟩ | ⟨args', -, shape, answer⟩
  · rw [run] at backup
    cases backup
  · rw [arguments] at shape
    cases shape
  · rw [arguments] at shape
    cases shape
    rcases answer with ⟨-, same⟩ | ⟨-, ⟨c', d, -, same⟩ | ⟨t, payload', accepted, -⟩⟩
    · rw [same, State.response_refusedAt] at ok
      cases ok
    · rw [same, State.response_refusedAt] at ok
      cases ok
    · cases check : dutyBound p (argField args 0 1) s with
      | none => rfl
      | some cd =>
        rw [bound args cd.1 cd.2 ((dutyBound_idleFrame p _ s).trans check)] at accepted
        cases accepted

end Bound

/-- Settles O43: the five duty-bound requests share `dutyBound`. -/
theorem dutyBoundRequestsNeedTheCrewOnDuty : Obligations.DutyBoundRequestsNeedTheCrewOnDuty := by
  refine ⟨fun p args c code s run => ?_, fun p args c s t payload run short => ?_⟩ <;> dsimp only
  · rintro (⟨rfl, rfl, length⟩ | ⟨rfl, rfl, length⟩ | ⟨rfl, rfl, length⟩ | ⟨rfl, rfl, length⟩ | ⟨rfl, rfl, low, high, held⟩)
    · exact exec_dutyBound_refused run (ackTrips_bound p _) rfl (by omega) (by simp [exactly, length])
    · exact exec_dutyBound_refused run (resetFirstOut_bound p _) rfl (by omega) (by simp [exactly, length])
    · exact exec_dutyBound_refused run (presetTally_bound p _) rfl (by omega) (by simp [exactly, length])
    · exact exec_dutyBound_refused run (openHandover_bound p _) rfl (by omega) (by simp [exactly, length])
    · exact exec_dutyBound_refused run (setRota_bound p _ held) rfl high (by simpa using low)
  · rintro (rfl | rfl | rfl | rfl | ⟨rfl, held⟩) next ok <;> refine dutyBound_none ?_
    · exact exec_dutyBound_accepted run (ackTrips_bound p _) rfl short next ok
    · exact exec_dutyBound_accepted run (resetFirstOut_bound p _) rfl short next ok
    · exact exec_dutyBound_accepted run (presetTally_bound p _) rfl short next ok
    · exact exec_dutyBound_accepted run (openHandover_bound p _) rfl short next ok
    · exact exec_dutyBound_accepted run (setRota_bound p _ held) rfl short next ok

end Sys2Proof.Machine
end

section
/-!
SUPPORT. What an acknowledgement makes of the annunciation table (R75), the rights and masks that SET_RIGHTS stores (R174), and the claims
about ACK_TRIPS, RESET_FIRST_OUT and SET_RIGHTS.
-/

namespace Sys2Proof.Machine

/-! ### The annunciation table acknowledged -/

theorem Annunciation.acknowledged_acknowledged (a : Annunciation) : a.acknowledged.acknowledged = a.acknowledged := by
  cases a <;> rfl

theorem Annunciation.acknowledged_ne (a : Annunciation) :
    a.acknowledged ≠ a ↔ a = .activeUnack ∨ a = .returnedUnack := by
  cases a <;> simp [Annunciation.acknowledged]

/-- Acknowledging moves the table alone, and in it the entries of the list. -/
theorem TripUnit.acknowledge_all (l : List (Fin 32)) (x : TripUnit) :
    l.foldl TripUnit.acknowledge x = { x with annunciation := (l.foldl TripUnit.acknowledge x).annunciation } ∧
      ∀ n, (l.foldl TripUnit.acknowledge x).entry n = if n ∈ l then (x.entry n).acknowledged else x.entry n := by
  induction l generalizing x with
  | nil => exact ⟨rfl, fun n => by simp⟩
  | cons m l ih =>
    obtain ⟨rest, entries⟩ := ih (x.acknowledge m)
    refine ⟨rest.trans rfl, fun n => ?_⟩
    rw [List.foldl_cons, entries]
    by_cases e : n = m
    · subst e
      rw [TripUnit.acknowledge, TripUnit.entry_withEntry_self, if_pos List.mem_cons_self,
        Annunciation.acknowledged_acknowledged, ite_self]
    · rw [TripUnit.acknowledge, TripUnit.entry_withEntry_other _ _ e]
      simp [e]

theorem TripUnit.mem_toAcknowledge {x : TripUnit} {mask : BitVec 32} {n : Fin 32} :
    n ∈ x.toAcknowledge mask ↔
      mask.getLsbD n.val = true ∧ (x.entry n = .activeUnack ∨ x.entry n = .returnedUnack) := by
  rw [TripUnit.toAcknowledge, List.mem_filter, Bool.and_eq_true, bne_iff_ne, Annunciation.acknowledged_ne]
  simp [List.mem_finRange]

theorem TripUnit.toAcknowledge_ascending (x : TripUnit) (mask : BitVec 32) : (x.toAcknowledge mask).Pairwise (· < ·) :=
  (List.pairwise_lt_finRange 32).filter _

theorem ackSelection_getLsbD (args : List Byte) (n : Fin 32) :
    (ackSelection args).getLsbD n.val = true ↔ argField args 1 1 ≠ 0 ∨ (argField args 2 4).testBit n.val = true := by
  unfold ackSelection onOff
  by_cases all : argField args 1 1 = 0
  · rw [all, if_neg (by decide), BitVec.getLsbD_ofNat]
    simp
  · rw [if_pos (by simpa using all), BitVec.getLsbD_allOnes]
    simp [all]

theorem pointMask_getLsbD (l : List (Fin 32)) (n : Fin 32) : (pointMask l).getLsbD n.val = decide (n ∈ l) := by
  rw [pointMask, getLsbD_foldl_putBit fun _ => true]
  split <;> simp [*]

/-- Settles O31: the list of ACK_TRIPS is `TripUnit.toAcknowledge`, and `TripUnit.acknowledge_all` what becomes of the table. -/
theorem acknowledgementMovesTheSelectedEntries : Obligations.AcknowledgementMovesTheSelectedEntries := by
  intro p args s run length right low high state port holder
  have served : exec (.ackTrips p (6 :: args)) s = .next (s.reply p 0x1C (serveAckTrips p args (s.idleFrame p))) :=
    congrArg Host.Outcome.next (takeRequest_exactly run length (by decide))
  have trip : (s.idleFrame p).trip = s.trip := rfl
  rw [serveAckTrips, dutyBound_passes right low high state port holder, trip] at served
  dsimp only at served ⊢
  have members (n : Fin 32) : n ∈ s.trip.toAcknowledge (ackSelection args) ↔
      (argField args 1 1 ≠ 0 ∨ (argField args 2 4).testBit n.val = true) ∧
        (s.trip.entry n = .activeUnack ∨ s.trip.entry n = .returnedUnack) := by
    rw [TripUnit.mem_toAcknowledge, ackSelection_getLsbD]
  have ascending := s.trip.toAcknowledge_ascending (ackSelection args)
  generalize s.trip.toAcknowledge (ackSelection args) = changed at *
  obtain ⟨rest, entries⟩ := TripUnit.acknowledge_all changed s.trip
  have burst := (TripUnit.acknowledge_rest changed s.trip).2
  generalize changed.foldl TripUnit.acknowledge s.trip = x at *
  generalize acked : (if changed.isEmpty then (s.idleFrame p).withTrip x
    else produce false (.ack (argField args 0 1) p (changed.map (·.val))) ((s.idleFrame p).withTrip x)) = u at served
  have frame : NoticeFrame ((s.idleFrame p).withTrip x) u := by
    rw [← acked]
    split
    · exact .refl _
    · exact produce_frame ..
  have queue : u.queue = if changed = [] then s.queue
      else s.reported false (.ack (argField args 0 1) p (changed.map fun n => n.val)) := by
    rw [← acked]
    cases changed with
    | nil => rfl
    | cons n l =>
      rw [List.isEmpty_cons, if_neg (by decide), if_neg (by simp), produce_queue]
      have number : ((s.idleFrame p).withTrip x).burstNumber = s.burstNumber := by
        rw [State.burstNumber, State.burstNumber, ← burst]
        rfl
      rw [State.reported, number]
      rfl
  have table : u.trip = x := by rw [frame.1]; rfl
  refine ⟨_, changed, pointMask changed, served, members, ascending, pointMask_getLsbD changed, ?_, fun n => ?_,
    .of_keep frame.2⟩
  · rw [← queue]
    refine (congrArg (State.respond · p _) frame.1).trans ?_
    have kept : x = { s.trip with annunciation := u.trip.annunciation } := by rw [table]; exact rest
    exact congrArg (fun y => ({ s with
      trip := y, queue := u.queue, ports := (u.respond p (.ok (beBytes 4 (pointMask changed).toNat))).ports } : State)) kept
  · have entry : (u.respond p (.ok (beBytes 4 (pointMask changed).toNat))).trip.entry n = x.entry n :=
      congrArg (TripUnit.entry · n) table
    refine entry.trans ((entries n).trans ?_)
    cases s.trip.entry n <;> rfl

/-! ### RESET_FIRST_OUT -/

/-- The trip unit after a reset of its latch (R73). -/
def TripUnit.rearmed (x : TripUnit) : TripUnit := { x with latch := .armed, latchingBurst := 0, ranked := [], overflow := 0 }

/-- A FINAL latch reset by a crew, with its record and the first-out input handed to the tallies. -/
def resetLatch (crew : Nat) (s : State) : State :=
  handInput inputFirstOut false (produce false (.firstOutReset crew) (s.withTrip s.trip.rearmed))

theorem resetLatch_frame (crew : Nat) (s : State) : TallyFrame (s.withTrip s.trip.rearmed) (resetLatch crew s) :=
  (produce_frame ..).tally.trans (handInput_frame ..)

theorem resetLatch_settings (crew : Nat) (s : State) : TalliesKeepSettings s (resetLatch crew s) :=
  (((SettingsKept.withTrip s _).trans (.notice (produce_frame ..))).trans (.handInput ..)).settings

theorem resetLatch_reports (crew : Nat) (s : State) :
    ((s.withTrip s.trip.rearmed).reported false (.firstOutReset crew)).Reports (resetLatch crew s).queue :=
  produce_queue false (.firstOutReset crew) (s.withTrip s.trip.rearmed) ▸ (handInput_records ..).reports

theorem serveResetFirstOut_passed {p : Port} {args : List Byte} {s : State} (check : dutyBound p (argField args 0 1) s = none) :
    serveResetFirstOut p args s =
      if s.trip.burst.isSome then .refuse .busy s.burstNumber
      else match s.trip.latch with
        | .final => .accept (resetLatch (argField args 0 1) s) [Latch.armed.code]
        | latch => .accept s [latch.code] := by
  unfold serveResetFirstOut
  rw [check]
  rfl

/-- Settles O32: the three states that RESET_FIRST_OUT can find. -/
theorem resetReturnsTheFirstOutToArmed : Obligations.ResetReturnsTheFirstOutToArmed := by
  intro p crew s run right low high state port holder
  have served : exec (.resetFirstOut p [1, crew]) s =
      .next (s.reply p 0x1B (serveResetFirstOut p [crew] (s.idleFrame p))) :=
    congrArg Host.Outcome.next (takeRequest_exactly run (args := [crew]) rfl (by decide))
  have known : argField [crew] 0 1 = crew.toNat := argField_oneByte crew
  have check : dutyBound p (argField [crew] 0 1) (s.idleFrame p) = none := by
    rw [known]
    exact dutyBound_passes right low high state port holder
  have trip : (s.idleFrame p).trip = s.trip := rfl
  rw [serveResetFirstOut_passed check, known, trip] at served
  refine ⟨fun b open_ => ?_, fun closed armed => ?_, fun closed final => ?_⟩
  · have number : (s.idleFrame p).burstNumber = b.number := by
      rw [State.burstNumber, trip, open_]
    rw [served, open_, number]
    rfl
  · rw [served, closed, armed]
    exact congrArg Host.Outcome.next (s.respond_idleFrame p _)
  · rw [closed, final] at served
    have frame := resetLatch_frame crew.toNat (s.idleFrame p)
    have settings := resetLatch_settings crew.toNat (s.idleFrame p)
    have reports := resetLatch_reports crew.toNat (s.idleFrame p)
    have number : ((s.idleFrame p).withTrip (s.idleFrame p).trip.rearmed).burstNumber = 0 := by
      show (match s.trip.burst with | none => 0 | some b => b.number) = 0
      rw [closed]
    rw [State.reported, number] at reports
    generalize resetLatch crew.toNat (s.idleFrame p) = t at *
    refine ⟨_, served, ?_, .of_keep fun q => frame.2 q, settings, reports⟩
    exact (congrArg (State.respond · p _) frame.1).trans rfl

/-! ### SET_RIGHTS -/

theorem portOf_eq (n : Nat) : portOf n = if n = 0x41 then some .a else if n = 0x42 then some .b
    else if n = 0x43 then some .c else none := by
  unfold portOf
  split
  · rfl
  · rfl
  · rfl
  · next a b c => rw [if_neg a, if_neg b, if_neg c]

theorem grantedPort_none {letter : Byte} (b : letter ≠ 0x42) (c : letter ≠ 0x43) : grantedPort letter.toNat = none := by
  have b' : letter.toNat ≠ 0x42 := fun e => b (BitVec.eq_of_toNat_eq e)
  have c' : letter.toNat ≠ 0x43 := fun e => c (BitVec.eq_of_toNat_eq e)
  rw [grantedPort, portOf_eq, if_neg b', if_neg c']
  by_cases a : letter.toNat = 0x41
  · rw [if_pos a]
  · rw [if_neg a]

theorem grantedPort_letter {q : Port} (other : q ≠ .a) : grantedPort (portLetter q).toNat = some q := by
  cases q with
  | a => exact absurd rfl other
  | b | c => rfl

/-- The low four bits of a rights byte are the rights it names (R187). -/
theorem rightsOf_code (rights : Byte) : (rightsOf rights.toNat).code = rights.toNat % 16 := by
  simp only [rightsOf, Rights.code, Nat.testBit_eq_decide_div_mod_eq, decide_eq_true_eq]
  split_ifs <;> omega

/-- The mask of SET_RIGHTS is laid out as its two bytes without the high nibble. -/
theorem maskBytes (high low : Byte) :
    beBytes 2 (BitVec.ofNat 12 (high.toNat * 256 + low.toNat)).toNat = [BitVec.ofNat 8 (high.toNat % 16), low] := by
  have h := high.isLt
  have l := low.isLt
  rw [beBytes_succ, beBytes_one, BitVec.toNat_ofNat]
  congr 1
  · congr 1
    omega
  · congr 1
    refine BitVec.eq_of_toNat_eq ?_
    rw [BitVec.toNat_ofNat]
    omega

theorem State.idleFrame_withPort {p q : Port} (s : State) {u : PortUnit} (h : q ≠ p) :
    (s.idleFrame p).withPort q u = (s.withPort q u).idleFrame p := by
  have ports (v w : PortUnit) : (s.ports.set p v).set q w = (s.ports.set q w).set p v := by
    refine PerPort.ext_get fun r => ?_
    by_cases e : r = q
    · subst e
      rw [PerPort.get_set_self, PerPort.get_set_other _ _ h, PerPort.get_set_self]
    · by_cases k : r = p
      · subst k
        rw [PerPort.get_set_other _ _ e, PerPort.get_set_self, PerPort.get_set_self]
      · simp only [PerPort.get_set_other _ _ e, PerPort.get_set_other _ _ k]
  have unit : (s.withPort q u).port p = s.port p := State.port_withPort_other _ _ h.symm
  rw [State.idleFrame, State.idleFrame, unit]
  exact congrArg (fun ports => ({ s with ports := ports } : State)) (ports ..)

theorem unsubscribe_spec (q : Port) (s : State) :
    NoticeFrame s (unsubscribe q s) ∧ (∀ r, r ≠ q → (unsubscribe q s).port r = s.port r) ∧
      (s.running = true → s.queue.subscribed.get q = true →
        (unsubscribe q s).queue.subscribed.get q = false ∧ (unsubscribe q s).queue.stream q = [] ∧
          ((unsubscribe q s).port q).pending.has .events = false) := by
  unfold unsubscribe
  by_cases in_ : s.queue.subscribed.get q = true
  · rw [if_pos in_]
    generalize left : ({ s.queue with
      held := (s.queue.held.map (·.without q)).filter (·.wanted), tailGap := s.queue.tailGap.set q 0,
      subscribed := s.queue.subscribed.set q false } : EventQueue) = k
    have nothing : k.stream q = [] := EventQueue.stream_eq_nil_iff.2 (left ▸ (leave_spec q s.queue.held).1)
    obtain ⟨-, -, has, -, others⟩ := setNotice_spec q .events (!(k.stream q).isEmpty) (s.withQueue k)
    refine ⟨(NoticeFrame.withQueue s k).trans (syncEvents_frame q _), others, fun run _ => ⟨?_, ?_, (has run).trans ?_⟩⟩
    · rw [syncEvents_queue]
      exact left ▸ PerPort.get_set_self ..
    · rw [syncEvents_queue]
      exact nothing
    · rw [nothing]
      rfl
  · rw [if_neg in_]
    exact ⟨.refl s, fun _ _ => rfl, fun _ h => absurd h in_⟩

/-- TALLY_DUE evaluated at a port against a mask that may have changed (R174). -/
theorem syncTallyDueIf_spec (c : Prop) [Decidable c] (q : Port) (s : State) :
    let t := if c then s else syncTallyDue q s
    NoticeFrame s t ∧ (∀ r, r ≠ q → t.port r = s.port r) ∧ t.queue = s.queue ∧
      (t.port q).pending.has .events = (s.port q).pending.has .events ∧
      (s.running = true → ¬ c → (t.port q).pending.has .tallyDue = ((s.dueTallies &&& (s.port q).readMask) != 0)) := by
  dsimp only
  split
  · next same => exact ⟨.refl s, fun _ _ => rfl, rfl, rfl, fun _ h => absurd same h⟩
  · obtain ⟨-, -, has, kept, others⟩ := setNotice_spec q .tallyDue ((s.dueTallies &&& (s.port q).readMask) != 0) s
    exact ⟨syncTallyDue_frame q s, others, setNotice_queue .., kept _ (by decide), fun run _ => has run⟩

/-- What SET_RIGHTS makes of the queue and the ports, apart from the rights and the mask themselves. -/
theorem storeRights_spec (q : Port) (rights : Rights) (mask : BitVec 12) {s : State} (run : s.running = true) :
    let t := storeRights q rights mask s
    NoticeFrame (s.withPort q { s.port q with rights := rights, readMask := mask }) t ∧
      (∀ r, r ≠ q → t.port r = s.port r) ∧
      ((s.port q).rights.events = true → rights.events = false → s.queue.subscribed.get q = true →
        t.queue.subscribed.get q = false ∧ t.queue.stream q = [] ∧ (t.port q).pending.has .events = false) ∧
      ((s.port q).rights.events = false ∨ rights.events = true → t.queue = s.queue) ∧
      (mask ≠ (s.port q).readMask → (t.port q).pending.has .tallyDue = ((s.dueTallies &&& mask) != 0)) := by
  obtain ⟨u, hu⟩ : ∃ u, s.withPort q { s.port q with rights := rights, readMask := mask } = u := ⟨_, rfl⟩
  obtain ⟨v, hv⟩ : ∃ v, (if (s.port q).rights.events && !rights.events then unsubscribe q u else u) = v := ⟨_, rfl⟩
  have stored : storeRights q rights mask s = if mask = (s.port q).readMask then v else syncTallyDue q v := by
    rw [← hv, ← hu]
    rfl
  have unit : u.port q = { s.port q with rights := rights, readMask := mask } := hu ▸ State.port_withPort_self ..
  have others (r : Port) (e : r ≠ q) : u.port r = s.port r := hu ▸ State.port_withPort_other _ _ e
  have queue : u.queue = s.queue := hu ▸ rfl
  have running : u.running = true := hu ▸ run
  have due : u.dueTallies = s.dueTallies := hu ▸ rfl
  obtain ⟨left, leftOthers, gone⟩ := unsubscribe_spec q u
  have frame : NoticeFrame u v := by
    rw [← hv]
    split
    · exact left
    · exact .refl u
  have ports (r : Port) (e : r ≠ q) : v.port r = u.port r := by
    rw [← hv]
    split
    · exact leftOthers r e
    · rfl
  obtain ⟨compared, comparedOthers, comparedQueue, events, tallyDue⟩ :=
    syncTallyDueIf_spec (mask = (s.port q).readMask) q v
  have running' : v.running = true := by rw [frame.1]; exact running
  rw [stored, hu]
  refine ⟨frame.trans compared, fun r e => (comparedOthers r e).trans ((ports r e).trans (others r e)),
    fun had lost in_ => ?_, fun kept => comparedQueue.trans ?_, fun changed => (tallyDue running' changed).trans ?_⟩
  · rw [comparedQueue, events, ← hv, had, lost]
    exact gone running (queue ▸ in_)
  · rw [← hv, if_neg (by rcases kept with e | e <;> simp [e])]
    exact queue
  · rw [frame.dueTallies, frame.2.readMask, due, unit]

/-- Settles O56: the checks of SET_RIGHTS, and `storeRights_spec` for what an accepted one stores and moves. -/
theorem rightsAreStoredAndActOnTheQueueAndNotices : Obligations.RightsAreStoredAndActOnTheQueueAndNotices := by
  intro p letter rights high low s run
  have served : exec (.setRights p [4, letter, rights, high, low]) s =
      .next (s.reply p 0x49 (serveSetRights p [letter, rights, high, low] (s.idleFrame p))) :=
    congrArg Host.Outcome.next (takeRequest_exactly run (args := [letter, rights, high, low]) rfl (by decide))
  have name : argField [letter, rights, high, low] 0 1 = letter.toNat := argField_oneByte letter
  have bits : argField [letter, rights, high, low] 1 1 = rights.toNat := argField_oneByte rights
  have word : argField [letter, rights, high, low] 2 2 = high.toNat * 256 + low.toNat := argField_twoBytes high low
  rw [serveSetRights, name, bits, word] at served
  refine ⟨fun other => ?_, fun own b c => ?_, fun q own other letters => ⟨fun holder lost => ?_, fun free => ?_⟩⟩
  · rw [served, if_neg other]
    rfl
  · rw [served, if_pos own, grantedPort_none b c]
    rfl
  · have duty : (rightsOf rights.toNat).duty = false := lost
    rw [served, if_pos own, letters, grantedPort_letter other]
    dsimp only
    rw [if_pos ⟨holder, duty⟩]
    rfl
  · have free' : ¬ ((s.idleFrame p).duty.port = some q ∧ (rightsOf rights.toNat).duty = false) := by
      rintro ⟨holder, duty⟩
      rcases free with e | e
      · exact e holder
      · rw [show (rightsOf rights.toNat).duty = rights.getLsbD 3 from rfl, e] at duty
        cases duty
    rw [if_pos own, letters, grantedPort_letter other] at served
    dsimp only at served
    rw [if_neg free', maskBytes, rightsOf_code, beBytes_one, ← letters] at served
    have apart : q ≠ p := own ▸ other
    have unit : (s.idleFrame p).port q = s.port q := PortsKeep.idleFrame_other s apart
    obtain ⟨frame, others, gone, kept, due⟩ := storeRights_spec q (rightsOf rights.toNat)
      (BitVec.ofNat 12 (high.toNat * 256 + low.toNat)) (s := s.idleFrame p) run
    rw [unit] at frame gone kept due
    generalize storeRights q (rightsOf rights.toNat) (BitVec.ofNat 12 (high.toNat * 256 + low.toNat)) (s.idleFrame p) = t
      at *
    have pending (r : Port) (payload : List Byte) : ((t.respond p (.ok payload)).port r).pending = (t.port r).pending :=
      State.pending_respond ..
    refine ⟨_, served, (congrArg (State.respond · p _) frame.1).trans rfl, ?_, fun had lost in_ => ?_,
      fun same => kept same, fun changed => ?_, fun r e => ?_⟩
    · have keep := frame.2
      rw [s.idleFrame_withPort apart] at keep
      exact PortsAnswer.of_keep keep
    · obtain ⟨out, nothing, quiet⟩ := gone had lost in_
      refine ⟨out, nothing, ?_⟩
      rw [State.reply, pending]
      exact quiet
    · rw [State.reply, pending]
      exact due changed
    · rw [State.reply, pending, others r e, State.pending_idleFrame]

end Sys2Proof.Machine
end

section
/-!
SUPPORT. Instants on the circle of 65,536 days (R124): an instant and its microseconds from the station epoch, forward distances, and
deadlines a window ahead.
-/

namespace Sys2Proof.Machine

/-! ### Microseconds from the epoch -/

theorem circleUs_eq : circleUs = 5662310400000000 := rfl

theorem halfCircleUs_eq : halfCircleUs = 2831155200000000 := rfl

theorem Instant.toUs_eq (i : Instant) : i.toUs = i.date * 86400000000 + i.ms * 1000 + i.us := by
  simp only [Instant.toUs, dayMs]
  omega

theorem Instant.inRange.toUs_lt {i : Instant} (h : i.inRange) : i.toUs < circleUs := by
  obtain ⟨date, ms, us⟩ := h
  rw [Instant.toUs_eq, circleUs_eq]
  omega

theorem Instant.ofUs_eq (n : Nat) :
    Instant.ofUs n = ⟨n % 5662310400000000 / 86400000000, n / 1000 % 86400000, n % 1000⟩ := by
  simp only [Instant.ofUs, circleUs_eq, dayMs]
  congr 1 <;> omega

theorem Instant.inRange_ofUs (n : Nat) : (Instant.ofUs n).inRange := by
  rw [Instant.ofUs_eq]
  unfold Instant.inRange
  dsimp only
  omega

theorem Instant.toUs_ofUs (n : Nat) : (Instant.ofUs n).toUs = n % circleUs := by
  rw [Instant.toUs_eq, Instant.ofUs_eq, circleUs_eq]
  dsimp only
  omega

theorem Instant.inRange.ofUs_toUs {i : Instant} (h : i.inRange) : Instant.ofUs i.toUs = i := by
  obtain ⟨date, ms, us⟩ := h
  rw [Instant.toUs_eq, Instant.ofUs_eq]
  obtain ⟨d, m, u⟩ := i
  dsimp only at date ms us ⊢
  congr 1 <;> omega

theorem Instant.inRange.eq_of_toUs {a b : Instant} (ha : a.inRange) (hb : b.inRange) (h : a.toUs = b.toUs) : a = b := by
  rw [← ha.ofUs_toUs, h, hb.ofUs_toUs]

theorem ClockInRange.now {s : State} (h : ClockInRange s) : s.now.inRange := by
  obtain ⟨date, ms, q, -⟩ := h
  refine ⟨date, ms, ?_⟩
  simp only [State.now, millisecondUnits, microsecondUnits] at q ⊢
  omega

/-! ### Moving an instant -/

theorem Instant.inRange_addUs (i : Instant) (d : Int) : (i.addUs d).inRange := Instant.inRange_ofUs _

theorem Instant.toUs_addUs (i : Instant) (d : Int) : ((i.addUs d).toUs : Int) = (i.toUs + d) % circleUs := by
  rw [Instant.addUs, Instant.toUs_ofUs, circleUs_eq]
  omega

/-- A window of minutes in milliseconds and in microseconds. -/
theorem Instant.addMs_minutes (i : Instant) (minutes : Nat) :
    i.addMs (minutes * 60000) = i.addUs ((minutes * 60000000 : Nat) : Int) := by
  rw [Instant.addMs, Nat.mul_assoc]

/-! ### Distances -/

theorem Instant.circleFrom_eq (a b : Instant) : (a.circleFrom b : Int) = ((a.toUs : Int) - b.toUs) % circleUs := by
  have nonneg : 0 ≤ ((a.toUs : Int) - b.toUs) % circleUs := Int.emod_nonneg _ (by decide)
  exact Int.toNat_of_nonneg nonneg

theorem Instant.circleFrom_lt (a b : Instant) : a.circleFrom b < circleUs := by
  have h := Instant.circleFrom_eq a b
  rw [circleUs_eq] at h ⊢
  omega

theorem Instant.circleFrom_addUs (i : Instant) {d : Nat} (h : d < circleUs) : (i.addUs (d : Int)).circleFrom i = d := by
  have moved := Instant.toUs_addUs i d
  have distance := Instant.circleFrom_eq (i.addUs d) i
  rw [circleUs_eq] at *
  omega

/-- The forward distance leads from one instant to the other. -/
theorem Instant.inRange.addUs_circleFrom {a : Instant} (h : a.inRange) (b : Instant) :
    b.addUs ((a.circleFrom b : Nat) : Int) = a := by
  refine (Instant.inRange_addUs _ _).eq_of_toUs h ?_
  have moved := Instant.toUs_addUs b (a.circleFrom b)
  have distance := Instant.circleFrom_eq a b
  have bound := h.toUs_lt
  rw [circleUs_eq] at *
  omega

theorem Instant.inRange.circleFrom_zero {a b : Instant} (ha : a.inRange) (hb : b.inRange) : a.circleFrom b = 0 ↔ a = b := by
  have distance := Instant.circleFrom_eq a b
  have bound := ha.toUs_lt
  have bound' := hb.toUs_lt
  constructor
  · intro zero
    refine ha.eq_of_toUs hb ?_
    rw [circleUs_eq] at *
    omega
  · rintro rfl
    rw [circleUs_eq] at *
    omega

theorem Instant.laterThan_iff {a b : Instant} (ha : a.inRange) (hb : b.inRange) :
    a.laterThan b = true ↔ a ≠ b ∧ a.circleFrom b ≤ 32768 * 86400000 * 1000 := by
  have zero := ha.circleFrom_zero hb
  rw [Instant.laterThan, Bool.and_eq_true, decide_eq_true_eq, decide_eq_true_eq, Nat.pos_iff_ne_zero, Ne, zero]
  rfl

theorem Instant.atOrAfter_iff {a b : Instant} (ha : a.inRange) (hb : b.inRange) :
    a.atOrAfter b = true ↔ a = b ∨ a.laterThan b = true := by
  have zero := ha.circleFrom_zero hb
  rw [Instant.laterThan, Instant.atOrAfter, Bool.and_eq_true, decide_eq_true_eq, decide_eq_true_eq, ← zero, halfCircleUs_eq]
  omega

/-- A deadline a window of 1 to 240 minutes ahead has not passed (R134, R135, R138). -/
theorem Instant.inRange.not_atOrAfter_window {i : Instant} (h : i.inRange) {minutes : Nat} (low : 1 ≤ minutes)
    (high : minutes ≤ 240) : i.atOrAfter (i.dropUs.addMs (minutes * 60000)) = false := by
  have moved := Instant.toUs_addUs i.dropUs ((minutes * 60000000 : Nat) : Int)
  have distance := Instant.circleFrom_eq i (i.dropUs.addMs (minutes * 60000))
  have bound := h.toUs_lt
  have drop : i.dropUs.toUs + i.us = i.toUs := by
    rw [Instant.toUs_eq, Instant.toUs_eq]
    show i.date * 86400000000 + i.ms * 1000 + 0 + i.us = _
    omega
  have us := h.2.2
  rw [Instant.addMs_minutes] at distance ⊢
  rw [Instant.atOrAfter, decide_eq_false_iff_not, halfCircleUs_eq]
  rw [circleUs_eq] at *
  omega

end Sys2Proof.Machine
end

section
/-!
SUPPORT. HANDOVER records and the requests that move a handover (R131, R134 to R136, R140), and the claim about them.
-/

namespace Sys2Proof.Machine

/-! ### HANDOVER records -/

theorem produceHandover_queue (o : Bool) (phase : HandoverPhase) (x y : Nat) (k : Option Nat) (r z : Nat) (s : State) :
    (produceHandover o phase x y k r z s).queue = s.reported o (.handover phase x y k r z) := by
  rw [produceHandover, raiseAtAll_queue, produce_queue]

theorem produceHandover_raised (o : Bool) (phase : HandoverPhase) (x y : Nat) (k : Option Nat) (r z : Nat) {s : State}
    (run : s.running = true) : RaisedAtAll .handover (produceHandover o phase x y k r z s) := by
  refine raiseAtAll_raised .handover _ ?_
  rw [(produce_frame ..).1]
  exact run

/-! ### Requests that one record and the duty unit answer -/

/-- A duty unit replaced, its HANDOVER record, and the answer. -/
theorem produceHandover_respond {p : Port} {s : State} (run : s.running = true) (d : DutyUnit) (phase : HandoverPhase)
    (x y : Nat) (k : Option Nat) (r : Nat) (payload : List Byte) :
    let t := (produceHandover false phase x y k r 0 ((s.idleFrame p).withDuty d)).respond p (.ok payload)
    t = { s with duty := d, queue := s.reported false (.handover phase x y k r 0), ports := t.ports } ∧
      PortsAnswer s t p payload ∧ RaisedAtAll .handover t := by
  have frame := produceHandover_frame false phase x y k r 0 ((s.idleFrame p).withDuty d)
  have queue : (produceHandover false phase x y k r 0 ((s.idleFrame p).withDuty d)).queue =
      s.reported false (.handover phase x y k r 0) := produceHandover_queue ..
  have raised := produceHandover_raised false phase x y k r 0 (s := (s.idleFrame p).withDuty d) run
  generalize produceHandover false phase x y k r 0 ((s.idleFrame p).withDuty d) = u at *
  refine ⟨?_, .of_keep frame.2, fun q => ?_⟩
  · rw [← queue]
    exact (congrArg (State.respond · p _) frame.1).trans rfl
  · rw [State.pending_respond]
    exact raised q

section Requests

variable {p : Port} {crew : Byte} {s : State} (run : s.running = true)
include run

theorem exec_openHandover : exec (.openHandover p [1, crew]) s =
    .next (s.reply p 0x33 (serveOpenHandover p [crew] (s.idleFrame p))) :=
  congrArg Host.Outcome.next (takeRequest_exactly run (args := [crew]) rfl (by decide))

theorem exec_releaseDuty : exec (.releaseDuty p [1, crew]) s =
    .next (s.reply p 0x34 (serveReleaseDuty p [crew] (s.idleFrame p))) :=
  congrArg Host.Outcome.next (takeRequest_exactly run (args := [crew]) rfl (by decide))

theorem exec_reclaimDuty : exec (.reclaimDuty p [1, crew]) s =
    .next (s.reply p 0x35 (serveReclaimDuty p [crew] (s.idleFrame p))) :=
  congrArg Host.Outcome.next (takeRequest_exactly run (args := [crew]) rfl (by decide))

theorem exec_acceptDuty : exec (.acceptDuty p [1, crew]) s =
    .next (s.reply p 0x32 (serveAcceptDuty p [crew] (s.idleFrame p))) :=
  congrArg Host.Outcome.next (takeRequest_exactly run (args := [crew]) rfl (by decide))

end Requests

/-! ### The checks of RELEASE_DUTY and RECLAIM_DUTY -/

theorem holderCheck_idleFrame (p : Port) (crew : Nat) (wanted : DutyState) (s : State) :
    holderCheck p crew wanted (s.idleFrame p) = holderCheck p crew wanted s := by
  unfold holderCheck
  rw [s.rights_idleFrame]
  rfl

theorem holderCheck_eq (p : Port) (crew : Nat) (wanted : DutyState) (s : State) :
    holderCheck p crew wanted s =
      if (s.port p).rights.duty = false then some .denied
      else if crew = 0 ∨ 15 < crew then some .range
      else if s.duty.state = .vacant then some .state
      else if s.duty.port ≠ some p ∨ s.duty.crew ≠ crew then some .notDuty
      else if s.duty.state ≠ wanted then some .state
      else none := by
  have range : (!isCrew crew) = decide (crew = 0 ∨ 15 < crew) := by
    rw [Bool.eq_iff_iff, Bool.not_eq_true', Bool.eq_false_iff, Ne, isCrew_iff, decide_eq_true_eq]
    omega
  unfold holderCheck
  rw [range]
  cases (s.port p).rights.duty <;> simp only [Bool.not_true, Bool.not_false, decide_eq_true_eq, if_true, if_false,
    Bool.false_eq_true, reduceCtorEq]

/-- The crew on duty passes the check in the state it wants. -/
theorem holderCheck_passes {p : Port} {crew : Nat} {s : State} (right : (s.port p).rights.duty = true) (low : 1 ≤ crew)
    (high : crew ≤ 15) (held : s.duty.state ≠ .vacant) (port : s.duty.port = some p) (holder : s.duty.crew = crew) :
    holderCheck p crew s.duty.state s = none := by
  rw [holderCheck_eq, if_neg (by simp [right]), if_neg (by omega), if_neg held, if_neg (by simp [port, holder]),
    if_neg (by simp)]

/-- The checks that RELEASE_DUTY and RECLAIM_DUTY share, with the settlement of R140 for the crew relieved at this tick (log entry
34). -/
def moveCheck (p : Port) (crew : Nat) (wanted : DutyState) (s : State) : Option RefusalCode :=
  if (s.port p).rights.duty = false then some .denied
  else if crew = 0 ∨ 15 < crew then some .range
  else if s.duty.state = .vacant then some .state
  else if s.duty.port ≠ some p ∨ s.duty.crew ≠ crew then
    if wanted = .released ∧ s.duty.relieved = some ⟨s.elapsed, some p, crew⟩ then some .state else some .notDuty
  else if s.duty.state ≠ wanted then some .state
  else none

theorem holderCheck_due (p : Port) (crew : Nat) (s : State) : holderCheck p crew .due s = moveCheck p crew .due s := by
  have other : ¬ (DutyState.due = .released ∧ s.duty.relieved = some ⟨s.elapsed, some p, crew⟩) := fun h => nomatch h.1
  rw [holderCheck_eq, moveCheck, if_neg other]

theorem reclaimCheck_eq (p : Port) (crew : Nat) (s : State) : reclaimCheck p crew s = moveCheck p crew .released s := by
  have relieved : (if s.justRelieved p crew then some RefusalCode.state else some .notDuty) =
      if DutyState.released = .released ∧ s.duty.relieved = some ⟨s.elapsed, some p, crew⟩ then some .state
      else some .notDuty := by
    simp [State.justRelieved]
  have match_eq (x : Option RefusalCode) : (match x with
      | some .notDuty => some (if s.justRelieved p crew then .state else .notDuty)
      | answer => answer) =
      if x = some .notDuty then if s.justRelieved p crew then some .state else some .notDuty else x := by
    split
    · rw [if_pos rfl]
      split <;> rfl
    · next other => rw [if_neg fun h => other h]
  unfold reclaimCheck
  refine (match_eq _).trans ?_
  rw [holderCheck_eq, moveCheck, ← relieved]
  split_ifs <;> simp_all

theorem serveReleaseDuty_eq (p : Port) (crew : Byte) (s : State) :
    serveReleaseDuty p [crew] (s.idleFrame p) =
      match moveCheck p crew.toNat .due s with
      | some code => .refuse code 0
      | none =>
        .accept (produceHandover false .released s.duty.crew s.duty.handover.expected s.duty.handover.slot
            s.duty.handover.reoffers 0 ((s.idleFrame p).withDuty { s.duty with
              state := .released
              handover := { s.duty.handover with
                acceptDeadline := some (s.now.dropUs.addMs (s.duty.settings.acceptWindow * 60000)) } }))
          (beBytes 1 DutyState.released.code ++
            instantBytes (s.now.dropUs.addMs (s.duty.settings.acceptWindow * 60000))) := by
  rw [← holderCheck_due, ← holderCheck_idleFrame, ← argField_oneByte crew]
  rfl

theorem serveReclaimDuty_eq (p : Port) (crew : Byte) (s : State) :
    serveReclaimDuty p [crew] (s.idleFrame p) =
      match moveCheck p crew.toNat .released s with
      | some code => .refuse code 0
      | none =>
        .accept (produceHandover false .reclaimed s.duty.crew s.duty.handover.expected s.duty.handover.slot
            s.duty.handover.reoffers 0 ((s.idleFrame p).withDuty { s.duty with
              state := .due, handover := { s.duty.handover with acceptDeadline := none } }))
          (beBytes 1 DutyState.due.code) := by
  have idle : reclaimCheck p crew.toNat (s.idleFrame p) = reclaimCheck p crew.toNat s := by
    unfold reclaimCheck
    rw [holderCheck_idleFrame]
    rfl
  rw [← reclaimCheck_eq, ← idle, ← argField_oneByte crew]
  rfl

theorem serveOpenHandover_eq (p : Port) (crew : Byte) (s : State) :
    serveOpenHandover p [crew] (s.idleFrame p) =
      match dutyBound p crew.toNat s with
      | some (code, detail) => .refuse code detail
      | none =>
        if s.duty.state = .onDuty then
          .accept (produceHandover false .opened s.duty.crew 0 none 0 0 ((s.idleFrame p).withDuty { s.duty with
              state := .due
              handover := ⟨none, 0, some (s.now.dropUs.addMs (s.duty.settings.releaseWindow * 60000)), none, false, 0⟩ }))
            (beBytes 1 DutyState.due.code ++
              instantBytes (s.now.dropUs.addMs (s.duty.settings.releaseWindow * 60000)))
        else .refuse .state 0 := by
  rw [← dutyBound_idleFrame, ← argField_oneByte crew]
  rfl

/-- RELEASE_DUTY and RECLAIM_DUTY are refused by `moveCheck`, with detail 0, or accepted. -/
theorem exec_move {p : Port} {crew : Byte} {c : Instr} {code : Byte} {wanted : DutyState} {s : State}
    (run : s.running = true) (h : (c = .releaseDuty p [1, crew] ∧ code = 0x34 ∧ wanted = .due) ∨
      (c = .reclaimDuty p [1, crew] ∧ code = 0x35 ∧ wanted = .released)) :
    ∃ t payload, exec c s = .next (s.reply p code
      (match moveCheck p crew.toNat wanted s with | some why => .refuse why 0 | none => .accept t payload)) := by
  rcases h with ⟨rfl, rfl, rfl⟩ | ⟨rfl, rfl, rfl⟩
  · rw [exec_releaseDuty run, serveReleaseDuty_eq]
    exact ⟨_, _, rfl⟩
  · rw [exec_reclaimDuty run, serveReclaimDuty_eq]
    exact ⟨_, _, rfl⟩

end Sys2Proof.Machine
end

section
/-!
SUPPORT. The exchange of duty (R132, R133): the snapshot as one write, the records and the tallies of a take and of an acceptance, and
the claims about ACCEPT_DUTY and about the requests that move a handover.
-/

namespace Sys2Proof.Machine

/-! ### Inputs handed over depend on the tally unit alone -/

theorem handInput_tally_congr {s t : State} (k : Nat) (v : Bool) (h : t.tally = s.tally) :
    (handInput k v t).tally = (handInput k v s).tally := by
  by_cases still : s.tally.paused = true ∨ s.tally.inputs.getLsbD k = v
  · rw [handInput_same k v s still, handInput_same k v t (by rwa [h]), h]
  · rw [not_or, Bool.not_eq_true] at still
    obtain ⟨entries, inputs, paused⟩ := handInput_tally still.1 still.2
    obtain ⟨entries', inputs', paused'⟩ := handInput_tally (k := k) (v := v) (s := t) (by rw [h]; exact still.1)
      (by rw [h]; exact still.2)
    have entry (i : Fin 12) : t.entry i = s.entry i := by rw [State.entry, h]; rfl
    refine TallyUnit.ext_entries (Vector.ext fun i hi => ?_) (by rw [inputs, inputs', h]) (by rw [paused, paused'])
    have same : (handInput k v t).entry ⟨i, hi⟩ = (handInput k v s).entry ⟨i, hi⟩ := by
      rw [entries', entries, entry, h]
    exact same

/-! ### The snapshot -/

/-- A tally with its shift values and its flags at 0 (R119). -/
def Tally.shiftReset (x : Tally) : Tally :=
  { x with shiftPortion := 0, shiftStarts := 0, presetFlag := false, saturatedFlag := false }

/-- The tally unit with every shift value at 0. -/
def TallyUnit.shiftReset (x : TallyUnit) : TallyUnit := { x with entries := x.entries.map Tally.shiftReset }

theorem resetShifts_eq (s : State) : atAllTallies resetShift s = s.withTally s.tally.shiftReset := by
  have frame : atAllTallies resetShift s = s.withTally (atAllTallies resetShift s).tally :=
    atAllTallies_keeps (P := fun t => t = s.withTally t.tally) (fun i t h => by rw [resetShift, h]; rfl) rfl
  obtain ⟨entries, inputs, paused⟩ := atAllTallies_entry (f := resetShift) (g := fun _ => Tally.shiftReset)
    (fun i s => OnlyTally.withEntry i s _) (fun i s _ _ => State.entry_withEntry_self ..) (s := s) rfl rfl
  have tally : (atAllTallies resetShift s).tally = s.tally.shiftReset := by
    refine TallyUnit.ext_entries (Vector.ext fun i hi => ?_) inputs paused
    exact (entries ⟨i, hi⟩).trans (Vector.getElem_map ..).symm
  rw [frame, tally]

/-- The snapshot is one write of the book, the counts and the shift values (R78, R119, R148). -/
theorem snapshot_eq (x y : Nat) (h : HandoverFields) (s : State) :
    snapshot x y h s = { s with
      book := s.book.write (s.bookRecord x y h)
      trip := { s.trip with tripCount := 0, pointCount := 0 }
      tally := s.tally.shiftReset } := by
  rw [snapshot, resetShifts_eq]
  rfl

theorem shiftReset_settings (s : State) : TalliesKeepSettings s (s.withTally s.tally.shiftReset) := by
  intro i
  have entry : (s.withTally s.tally.shiftReset).entry i = (s.entry i).shiftReset := Vector.getElem_map ..
  rw [entry]
  exact ⟨rfl, rfl⟩

/-! ### A pending rota -/

theorem applyRota_none {o : Bool} {s : State} (h : s.duty.pendingRota = none) : applyRota o s = s := by
  unfold applyRota
  rw [h]

theorem applyRota_some {o : Bool} {s : State} {rota : List Slot} (h : s.duty.pendingRota = some rota) :
    applyRota o s = produce o (.rota rota.length) (s.withDuty { s.duty with
      rota := rota, pendingRota := none, lastServed := (mostRecentSlot rota s.now).map fun x => x.1 }) := by
  unfold applyRota
  rw [h]

/-! ### A take -/

/-- The exchange but for what follows it: the record, the snapshot and the new holder (R132, R133). -/
def exchange (phase : HandoverPhase) (outgoing : Nat) (h : HandoverFields) (p : Port) (crew : Nat) (d : DutyUnit)
    (s : State) : State :=
  let s := produceHandover false phase outgoing crew h.slot h.reoffers 0 s
  (snapshot outgoing crew h s).withDuty (d.held crew p)

theorem takeDuty_eq (p : Port) (crew : Nat) (s : State) :
    takeDuty p crew s = handDutyHeld (exchange .taken 0 .clear p crew s.duty s) := by
  have duty : (snapshot 0 crew .clear (produceHandover false .taken 0 crew none 0 0 s)).duty = s.duty := by
    rw [snapshot_eq, (produceHandover_frame ..).1]
  rw [takeDuty, duty]
  rfl

/-- The exchange is one write of the duty unit, the book, the counts, the shift values and the record. -/
theorem exchange_eq (phase : HandoverPhase) (outgoing : Nat) (h : HandoverFields) (p : Port) (crew : Nat) (d : DutyUnit)
    (s : State) :
    ∃ u, NoticeFrame s u ∧ u.queue = s.reported false (.handover phase outgoing crew h.slot h.reoffers 0) ∧
      (s.running = true → RaisedAtAll .handover u) ∧
      exchange phase outgoing h p crew d s = { u with
        duty := d.held crew p
        book := s.book.write (s.bookRecord outgoing crew h)
        trip := { s.trip with tripCount := 0, pointCount := 0 }
        tally := s.tally.shiftReset } := by
  have frame := produceHandover_frame false phase outgoing crew h.slot h.reoffers 0 s
  have queue := produceHandover_queue false phase outgoing crew h.slot h.reoffers 0 s
  have raised := produceHandover_raised false phase outgoing crew h.slot h.reoffers 0 (s := s)
  unfold exchange
  dsimp only
  generalize produceHandover false phase outgoing crew h.slot h.reoffers 0 s = u at *
  refine ⟨u, frame, queue, raised, ?_⟩
  have record : u.bookRecord outgoing crew h = s.bookRecord outgoing crew h := by rw [frame.1]; rfl
  have book : u.book = s.book := by rw [frame.1]
  have trip : u.trip = s.trip := by rw [frame.1]
  rw [snapshot_eq, record, book, trip, frame.tally_eq]
  rfl

/-- What a take of a vacant duty makes of the part (R132). -/
theorem takeDuty_spec (p : Port) (crew : Nat) (s : State) :
    let t := takeDuty p crew s
    t = { s with
      duty := s.duty.held crew p
      book := s.book.write (s.bookRecord 0 crew .clear)
      trip := { s.trip with tripCount := 0, pointCount := 0 }
      tally := t.tally, queue := t.queue, ports := t.ports } ∧ PortsKeep s t ∧
      t.tally = (handInput 34 true (s.withTally s.tally.shiftReset)).tally ∧ TalliesKeepSettings s t ∧
      (s.running = true → RaisedAtAll .handover t) ∧
      (s.reported false (.handover .taken 0 crew none 0 0)).Reports t.queue := by
  obtain ⟨u, frame, queue, raised, exchanged⟩ := exchange_eq .taken 0 .clear p crew s.duty s
  have handed : takeDuty p crew s = handInput 34 true (exchange .taken 0 .clear p crew s.duty s) := by
    rw [takeDuty_eq, handDutyHeld, exchanged]
    rfl
  rw [handed, exchanged]
  generalize he : ({ u with
    duty := s.duty.held crew p, book := s.book.write (s.bookRecord 0 crew .clear)
    trip := { s.trip with tripCount := 0, pointCount := 0 }, tally := s.tally.shiftReset } : State) = e
  have tally : (handInput 34 true e).tally = (handInput 34 true (s.withTally s.tally.shiftReset)).tally :=
    handInput_tally_congr 34 true (by rw [← he]; rfl)
  have handedFrame := handInput_frame 34 true e
  have keep : PortsKeep s e := by rw [← he]; exact frame.2
  refine ⟨?_, keep.trans handedFrame.2, tally, ?_, fun run => ?_, ?_⟩
  · refine handedFrame.1.trans ?_
    rw [← he, frame.1]
  · have settings := (shiftReset_settings s).trans (SettingsKept.handInput 34 true (s.withTally s.tally.shiftReset)).settings
    intro i
    have entry : (handInput 34 true e).entry i = (handInput 34 true (s.withTally s.tally.shiftReset)).entry i := by
      rw [State.entry, tally]
      rfl
    rw [entry]
    exact settings i
  · have kept := (NoticeKept.rules (n := .handover) (by decide) (by decide) (by decide)).handInput 34 true e
    intro q
    rw [kept.has, ← he]
    exact raised run q
  · have reports := (handInput_records 34 true e).reports
    rw [← he] at reports ⊢
    exact EventQueue.Reports.trans (.of_eq queue) reports

/-- What an acceptance of a released handover makes of the part (R133). -/
theorem acceptHandover_spec (p : Port) (crew : Nat) (s : State) :
    let t := acceptHandover p crew s
    let d := { s.duty.held crew p with relieved := some ⟨s.elapsed, s.duty.port, s.duty.crew⟩ }
    let accepted := s.reported false
      (.handover .accepted s.duty.crew crew s.duty.handover.slot s.duty.handover.reoffers 0)
    t = { s with
      duty := match s.duty.pendingRota with
        | none => d
        | some rota => { d with
            rota := rota, pendingRota := none, lastServed := (mostRecentSlot rota s.now).map fun x => x.1 }
      book := s.book.write (s.bookRecord s.duty.crew crew s.duty.handover)
      trip := { s.trip with tripCount := 0, pointCount := 0 }
      tally := s.tally.shiftReset
      queue := match s.duty.pendingRota with
        | none => accepted
        | some rota => accepted.report s.now s.time.quality s.burstNumber false (.rota rota.length)
      ports := t.ports } ∧ PortsKeep s t ∧ (s.running = true → RaisedAtAll .handover t) := by
  obtain ⟨u, frame, queue, raised, exchanged⟩ := exchange_eq .accepted s.duty.crew s.duty.handover p crew
    { s.duty with relieved := some ⟨s.elapsed, s.duty.port, s.duty.crew⟩ } s
  have handed : acceptHandover p crew s = applyRota false (exchange .accepted s.duty.crew s.duty.handover p crew
      { s.duty with relieved := some ⟨s.elapsed, s.duty.port, s.duty.crew⟩ } s) := by
    have produced := produceHandover_frame false .accepted s.duty.crew crew s.duty.handover.slot s.duty.handover.reoffers 0 s
    unfold acceptHandover exchange
    dsimp only
    generalize produceHandover false .accepted s.duty.crew crew s.duty.handover.slot s.duty.handover.reoffers 0 s = v at *
    have duty : v.duty = s.duty := by rw [produced.1]
    have elapsed : v.elapsed = s.elapsed := by rw [produced.1]
    rw [duty, snapshot_eq]
    dsimp only
    rw [duty, elapsed]
    rfl
  rw [handed, exchanged]
  generalize he : ({ u with
    duty := DutyUnit.held { s.duty with relieved := some ⟨s.elapsed, s.duty.port, s.duty.crew⟩ } crew p
    book := s.book.write (s.bookRecord s.duty.crew crew s.duty.handover)
    trip := { s.trip with tripCount := 0, pointCount := 0 }, tally := s.tally.shiftReset } : State) = e
  have whole : e = { s with
      duty := { s.duty.held crew p with relieved := some ⟨s.elapsed, s.duty.port, s.duty.crew⟩ }
      book := s.book.write (s.bookRecord s.duty.crew crew s.duty.handover)
      trip := { s.trip with tripCount := 0, pointCount := 0 }
      tally := s.tally.shiftReset
      queue := s.reported false
        (.handover .accepted s.duty.crew crew s.duty.handover.slot s.duty.handover.reoffers 0)
      ports := u.ports } := by
    rw [← he, ← queue, frame.1]
    rfl
  have keep : PortsKeep s e := by rw [whole]; exact frame.2
  have told (run : s.running = true) : RaisedAtAll .handover e := by rw [whole]; exact raised run
  cases pending : s.duty.pendingRota with
  | none =>
    rw [applyRota_none (by rw [whole]; exact pending)]
    exact ⟨by rw [whole], keep, told⟩
  | some rota =>
    rw [applyRota_some (rota := rota) (by rw [whole]; exact pending)]
    generalize hd : ({ e.duty with
      rota := rota, pendingRota := none, lastServed := (mostRecentSlot rota e.now).map fun x => x.1 } : DutyUnit) = d
    have record := produce_frame false (.rota rota.length) (e.withDuty d)
    have recorded := produce_queue false (.rota rota.length) (e.withDuty d)
    have kept := NoticeKept.produceAt (n := .handover) (by decide) (by decide) (e.withDuty d).now false (.rota rota.length)
      (e.withDuty d)
    refine ⟨record.1.trans ?_, keep.trans record.2, fun run q => ?_⟩
    · rw [recorded, ← hd, whole]
      rfl
    · rw [produce, kept.has]
      exact told run q

theorem acceptHandover_relieved (p : Port) (crew : Nat) (s : State) :
    (acceptHandover p crew s).duty.relieved = some ⟨s.elapsed, s.duty.port, s.duty.crew⟩ := by
  rw [(acceptHandover_spec p crew s).1]
  cases s.duty.pendingRota <;> rfl

/-- After an acceptance the accepting crew is on duty. -/
theorem acceptHandover_held (p : Port) (crew : Nat) (s : State) :
    (acceptHandover p crew s).duty.state = .onDuty ∧ (acceptHandover p crew s).duty.crew = crew ∧
      (acceptHandover p crew s).duty.port = some p := by
  rw [(acceptHandover_spec p crew s).1]
  cases s.duty.pendingRota <;> exact ⟨rfl, rfl, rfl⟩

theorem dutyPayload_held {p : Port} {crew : Byte} {t : State} (state : t.duty.state = .onDuty)
    (holder : t.duty.crew = crew.toNat) (port : t.duty.port = some p) : dutyPayload t = [1, crew, portLetter p] := by
  rw [dutyPayload, state, holder, port, beBytes_one, beBytes_one]
  simp [optPortByte, DutyState.code]

/-- What ACCEPT_DUTY answers, by the duty state it finds (R132). -/
theorem serveAcceptDuty_eq (p : Port) (crew : Byte) (s : State) :
    serveAcceptDuty p [crew] (s.idleFrame p) =
      if (s.port p).rights.duty = false then .refuse .denied 0
      else if crew.toNat = 0 ∨ 15 < crew.toNat then .refuse .range crew.toNat
      else match s.duty.state with
        | .vacant => .accept (takeDuty p crew.toNat (s.idleFrame p)) (dutyPayload (takeDuty p crew.toNat (s.idleFrame p)))
        | .released =>
          if crew.toNat = s.duty.crew ∨ (s.duty.handover.expected ≠ 0 ∧ crew.toNat ≠ s.duty.handover.expected) then
            .refuse .crew s.duty.handover.expected
          else .accept (acceptHandover p crew.toNat (s.idleFrame p)) (dutyPayload (acceptHandover p crew.toNat (s.idleFrame p)))
        | _ => .refuse .state s.duty.state.code := by
  have range : (!isCrew crew.toNat) = decide (crew.toNat = 0 ∨ 15 < crew.toNat) := by
    rw [Bool.eq_iff_iff, Bool.not_eq_true', Bool.eq_false_iff, Ne, isCrew_iff, decide_eq_true_eq]
    omega
  have denied : (!(s.port p).rights.duty) = decide ((s.port p).rights.duty = false) := by
    cases (s.port p).rights.duty <;> rfl
  unfold serveAcceptDuty
  dsimp only
  rw [argField_oneByte, s.rights_idleFrame, range, denied]
  simp only [decide_eq_true_eq]
  rfl

section Requests

variable {p : Port} {crew : Byte} {s : State} (run : s.running = true)
include run

theorem exec_acceptDuty_refused (why : RefusalCode) (detail : Nat)
    (h : serveAcceptDuty p [crew] (s.idleFrame p) = .refuse why detail) :
    exec (.acceptDuty p [1, crew]) s = .next (s.refusedAt p 0x32 why detail) := by
  rw [exec_acceptDuty run, h]
  rfl

theorem exec_acceptDuty_accepted {t : State} (h : serveAcceptDuty p [crew] (s.idleFrame p) = .accept t (dutyPayload t))
    (state : t.duty.state = .onDuty) (holder : t.duty.crew = crew.toNat) (port : t.duty.port = some p) :
    exec (.acceptDuty p [1, crew]) s = .next (t.respond p (.ok [1, crew, portLetter p])) := by
  rw [exec_acceptDuty run, h, dutyPayload_held state holder port]
  rfl

variable (right : (s.port p).rights.duty = true) (low : 1 ≤ crew.toNat) (high : crew.toNat ≤ 15)
include right low high

omit run in
/-- A known crew with the right comes to the check of the duty state. -/
theorem serveAcceptDuty_known :
    serveAcceptDuty p [crew] (s.idleFrame p) = match s.duty.state with
      | .vacant => .accept (takeDuty p crew.toNat (s.idleFrame p)) (dutyPayload (takeDuty p crew.toNat (s.idleFrame p)))
      | .released =>
        if crew.toNat = s.duty.crew ∨ (s.duty.handover.expected ≠ 0 ∧ crew.toNat ≠ s.duty.handover.expected) then
          .refuse .crew s.duty.handover.expected
        else .accept (acceptHandover p crew.toNat (s.idleFrame p)) (dutyPayload (acceptHandover p crew.toNat (s.idleFrame p)))
      | _ => .refuse .state s.duty.state.code := by
  exact (serveAcceptDuty_eq ..).trans ((if_neg (by simp [right])).trans ((if_neg (by omega)).trans rfl))

/-- A take of a vacant duty, answered. -/
theorem exec_acceptDuty_vacant (vacant : s.duty.state = .vacant) :
    exec (.acceptDuty p [1, crew]) s =
      .next ((takeDuty p crew.toNat (s.idleFrame p)).respond p (.ok [1, crew, portLetter p])) := by
  have spec := (takeDuty_spec p crew.toNat (s.idleFrame p)).1
  have served := serveAcceptDuty_known (p := p) right low high
  simp only [vacant] at served
  refine exec_acceptDuty_accepted run served ?_ ?_ ?_ <;> rw [spec] <;> rfl

/-- An acceptance of a released handover, answered. -/
theorem exec_acceptDuty_released (released : s.duty.state = .released)
    (fit : ¬ (crew.toNat = s.duty.crew ∨ (s.duty.handover.expected ≠ 0 ∧ crew.toNat ≠ s.duty.handover.expected))) :
    exec (.acceptDuty p [1, crew]) s =
      .next ((acceptHandover p crew.toNat (s.idleFrame p)).respond p (.ok [1, crew, portLetter p])) := by
  obtain ⟨state, holder, port⟩ := acceptHandover_held p crew.toNat (s.idleFrame p)
  have served := serveAcceptDuty_known (p := p) right low high
  simp only [released, if_neg fit] at served
  exact exec_acceptDuty_accepted run served state holder port

/-- A released handover refuses its outgoing crew and an unexpected one (R132). -/
theorem exec_acceptDuty_wrong (released : s.duty.state = .released)
    (wrong : crew.toNat = s.duty.crew ∨ (s.duty.handover.expected ≠ 0 ∧ crew.toNat ≠ s.duty.handover.expected)) :
    exec (.acceptDuty p [1, crew]) s = .next (s.refusedAt p 0x32 .crew s.duty.handover.expected) := by
  have served := serveAcceptDuty_known (p := p) right low high
  simp only [released, if_pos wrong] at served
  exact exec_acceptDuty_refused run _ _ served

/-- Where a crew is on duty nobody takes it (R132). -/
theorem exec_acceptDuty_held (held : s.duty.state = .onDuty ∨ s.duty.state = .due) :
    exec (.acceptDuty p [1, crew]) s = .next (s.refusedAt p 0x32 .state s.duty.state.code) := by
  have served := serveAcceptDuty_known (p := p) right low high
  refine exec_acceptDuty_refused run _ _ ?_
  rcases held with h | h <;> simp only [h] at served ⊢ <;> exact served

end Requests

/-- Settles O44: the refusals by the order of `serveAcceptDuty_eq`, the take and the acceptance by what the exchange writes. -/
theorem exchangeWritesTheBook : Obligations.ExchangeWritesTheBook := by
  unfold Obligations.ExchangeWritesTheBook
  refine ⟨fun p crew s run => ⟨fun denied => ?_, fun right => ⟨fun range => ?_, fun low high state => ?_,
    fun low high state => ?_⟩⟩, fun p crew s run right low high vacant => ?_,
    fun p crew s run right low high released => ⟨fun wrong => ?_, fun fit => ?_⟩⟩
  · exact exec_acceptDuty_refused run _ _ (by rw [serveAcceptDuty_eq, if_pos denied])
  · exact exec_acceptDuty_refused run _ _ (by rw [serveAcceptDuty_eq, if_neg (by simp [right]), if_pos range])
  · exact (exec_acceptDuty_held run right low high (.inl state)).trans (by rw [state]; rfl)
  · exact (exec_acceptDuty_held run right low high (.inr state)).trans (by rw [state]; rfl)
  · obtain ⟨eq, keep, tally, settings, raised, reports⟩ := takeDuty_spec p crew.toNat (s.idleFrame p)
    refine ⟨_, exec_acceptDuty_vacant run right low high vacant, ?_⟩
    generalize takeDuty p crew.toNat (s.idleFrame p) = t at *
    refine ⟨(congrArg (State.respond · p _) eq).trans rfl, ?_, .of_keep keep, settings, fun q => ?_, reports⟩
    · exact tally.trans (handInput_tally_congr 34 true rfl)
    · rw [State.pending_respond]
      exact raised run q
  · exact exec_acceptDuty_wrong run right low high released wrong
  · obtain ⟨eq, keep, raised⟩ := acceptHandover_spec p crew.toNat (s.idleFrame p)
    refine ⟨_, exec_acceptDuty_released run right low high released fit, ?_⟩
    generalize acceptHandover p crew.toNat (s.idleFrame p) = t at *
    have tally : t.tally = s.tally.shiftReset := by rw [eq]; rfl
    refine ⟨?_, ?_, ?_, fun i => ?_, .of_keep keep, fun q => ?_⟩
    · exact (congrArg (State.respond · p _) eq).trans (tally ▸ rfl)
    · exact (congrArg TallyUnit.inputs tally).trans rfl
    · exact (congrArg TallyUnit.paused tally).trans rfl
    · exact (congrArg (fun x : TallyUnit => x.entries[i]) tally).trans (Vector.getElem_map ..)
    · rw [State.pending_respond]
      exact raised run q

/-! ### The requests that move a handover -/

/-- Duty at the outset of a request that its holder makes. -/
theorem moveCheck_holder {p : Port} {crew : Nat} {s : State} {wanted : DutyState} (right : (s.port p).rights.duty = true)
    (low : 1 ≤ crew) (high : crew ≤ 15) (state : s.duty.state = wanted) (held : wanted ≠ .vacant)
    (port : s.duty.port = some p) (holder : s.duty.crew = crew) : moveCheck p crew wanted s = none := by
  rw [moveCheck, if_neg (by simp [right]), if_neg (by omega), if_neg (by rwa [state]), if_neg (by simp [port, holder]),
    if_neg (by simp [state])]

/-- The refusal of the crew that was relieved at this tick (R140, log entry 34). -/
theorem moveCheck_relieved {p : Port} {crew : Nat} {s : State} (right : (s.port p).rights.duty = true)
    (low : 1 ≤ crew) (high : crew ≤ 15) (state : s.duty.state = .onDuty)
    (relieved : s.duty.relieved = some ⟨s.elapsed, some p, crew⟩) : moveCheck p crew .released s = some .state := by
  have settled : (if s.duty.port ≠ some p ∨ s.duty.crew ≠ crew then
      if DutyState.released = .released ∧ s.duty.relieved = some ⟨s.elapsed, some p, crew⟩ then some RefusalCode.state
      else some .notDuty
      else if s.duty.state ≠ .released then some .state else none) = some .state := by
    rw [if_pos (show _ ∧ _ from ⟨rfl, relieved⟩)]
    by_cases other : s.duty.port ≠ some p ∨ s.duty.crew ≠ crew
    · rw [if_pos other]
    · rw [if_neg other, if_pos (by simp [state])]
  rw [moveCheck, if_neg (by simp [right]), if_neg (by omega), if_neg (by simp [state])]
  exact settled

/-- An answer keeps every port's rights. -/
theorem PortsAnswer.rights {s t : State} {p : Port} {payload : List Byte} (h : PortsAnswer s t p payload) (q : Port) :
    (t.port q).rights = (s.port q).rights := by
  rw [h q]
  by_cases same : q = p
  · rw [same, State.okAt, State.port_withPort_self]
  · rw [State.okAt, State.port_withPort_other _ _ same]

theorem exec_reclaim_refused {p : Port} {crew : Byte} {s : State} (run : s.running = true) {why : RefusalCode}
    (h : moveCheck p crew.toNat .released s = some why) :
    exec (.reclaimDuty p [1, crew]) s = .next (s.refusedAt p 0x35 why 0) := by
  rw [exec_reclaimDuty run, serveReclaimDuty_eq, h]
  rfl

section Moves

variable {p : Port} {crew : Byte} {s : State} (run : s.running = true) (right : (s.port p).rights.duty = true)
  (low : 1 ≤ crew.toNat) (high : crew.toNat ≤ 15) (port : s.duty.port = some p) (holder : s.duty.crew = crew.toNat)
include run right low high port holder

theorem exec_open (state : s.duty.state = .onDuty) :
    exec (.openHandover p [1, crew]) s = .next ((produceHandover false .opened s.duty.crew 0 none 0 0
        ((s.idleFrame p).withDuty { s.duty with
          state := .due
          handover := ⟨none, 0, some (s.now.dropUs.addMs (s.duty.settings.releaseWindow * 60000)), none, false, 0⟩ })).respond p
      (.ok (2 :: instantBytes (s.now.dropUs.addMs (s.duty.settings.releaseWindow * 60000))))) := by
  rw [exec_openHandover run, serveOpenHandover_eq, ← dutyBound_idleFrame,
    dutyBound_passes right low high (.inl state) port holder, if_pos state]
  rfl

theorem exec_release (state : s.duty.state = .due) :
    exec (.releaseDuty p [1, crew]) s = .next ((produceHandover false .released s.duty.crew s.duty.handover.expected
        s.duty.handover.slot s.duty.handover.reoffers 0 ((s.idleFrame p).withDuty { s.duty with
          state := .released
          handover := { s.duty.handover with
            acceptDeadline := some (s.now.dropUs.addMs (s.duty.settings.acceptWindow * 60000)) } })).respond p
      (.ok (3 :: instantBytes (s.now.dropUs.addMs (s.duty.settings.acceptWindow * 60000))))) := by
  rw [exec_releaseDuty run, serveReleaseDuty_eq, moveCheck_holder right low high state (by decide) port holder]
  rfl

theorem exec_reclaim (state : s.duty.state = .released) :
    exec (.reclaimDuty p [1, crew]) s = .next ((produceHandover false .reclaimed s.duty.crew s.duty.handover.expected
        s.duty.handover.slot s.duty.handover.reoffers 0 ((s.idleFrame p).withDuty { s.duty with
          state := .due, handover := { s.duty.handover with acceptDeadline := none } })).respond p (.ok [2])) := by
  rw [exec_reclaimDuty run, serveReclaimDuty_eq, moveCheck_holder right low high state (by decide) port holder]
  rfl

end Moves

/-- Settles O45: the requests by `moveCheck` and the one record each of them produces, the deadlines by whole minutes. -/
theorem openReleaseAndReclaimMoveTheHandover : Obligations.OpenReleaseAndReclaimMoveTheHandover := by
  unfold Obligations.OpenReleaseAndReclaimMoveTheHandover
  refine ⟨fun p crew s run right low high port holder state => ?_, fun p crew c code wanted s run request => ?_,
    fun p q crew outgoing s t run right other low high low' high' state port holder => ⟨fun next taken => ?_, fun next => ?_⟩,
    fun p crew c s after h phase payload run right low high port holder move => ?_⟩
  · rw [exec_openHandover run, serveOpenHandover_eq, ← dutyBound_idleFrame,
      dutyBound_passes right low high (.inr state) port holder, if_neg (by simp [state])]
    rfl
  · obtain ⟨t, payload, served⟩ := exec_move run request
    have refused {why : RefusalCode} (h : moveCheck p crew.toNat wanted s = some why) :
        exec c s = .next (s.refusedAt p code why 0) := by
      rw [served, h]
      rfl
    dsimp only
    split_ifs with denied range vacant other relieved state
    · exact refused (by rw [moveCheck, if_pos denied])
    · exact refused (by rw [moveCheck, if_neg denied, if_pos range])
    · exact refused (by rw [moveCheck, if_neg denied, if_neg range, if_pos vacant])
    · exact refused (by rw [moveCheck, if_neg denied, if_neg range, if_neg vacant, if_pos other, if_pos relieved])
    · exact refused (by rw [moveCheck, if_neg denied, if_neg range, if_neg vacant, if_pos other, if_neg relieved])
    · exact refused (by rw [moveCheck, if_neg denied, if_neg range, if_neg vacant, if_neg other, if_pos state])
    · have passes : moveCheck p crew.toNat wanted s = none := by
        rw [moveCheck, if_neg denied, if_neg range, if_neg vacant, if_neg other, if_neg state]
      rw [passes] at served
      exact ⟨_, payload, served, State.response_respond ..⟩
  · by_cases fit : crew.toNat = s.duty.crew ∨ (s.duty.handover.expected ≠ 0 ∧ crew.toNat ≠ s.duty.handover.expected)
    · rw [exec_acceptDuty_wrong run right low high state fit] at next
      obtain rfl := Host.Outcome.next.inj next
      cases state.symm.trans taken
    · rw [exec_acceptDuty_released run right low high state fit] at next
      obtain ⟨eq, keep, -⟩ := acceptHandover_spec p crew.toNat (s.idleFrame p)
      obtain rfl := Host.Outcome.next.inj next
      have settled := acceptHandover_relieved p crew.toNat (s.idleFrame p)
      generalize acceptHandover p crew.toNat (s.idleFrame p) = u at *
      have elapsed : u.elapsed = s.elapsed := by
        rw [eq]
        rfl
      have running : u.running = true := by
        rw [eq]
        exact run
      have relieved : u.duty.relieved = some ⟨u.elapsed, some q, outgoing.toNat⟩ := by
        rw [settled, elapsed, ← port, ← holder]
        rfl
      exact exec_reclaim_refused (s := u.respond p (.ok [1, crew, portLetter p])) running
        (moveCheck_relieved (((PortsAnswer.of_keep keep).rights q).symm ▸ other) low' high' taken relieved)
  · rw [exec_reclaim run other low' high' port holder state] at next
    obtain ⟨eq, answer, -⟩ := produceHandover_respond (p := q) run { s.duty with
        state := .due, handover := { s.duty.handover with acceptDeadline := none } } .reclaimed s.duty.crew
      s.duty.handover.expected s.duty.handover.slot s.duty.handover.reoffers [2]
    rw [Host.Outcome.next.inj next] at eq answer
    have due : t.duty.state = .due := by rw [eq]
    have running : t.running = true := by
      rw [eq]
      exact run
    refine (exec_acceptDuty_held running ((answer.rights p).symm ▸ right) low high (.inr due)).trans ?_
    rw [due]
    rfl
  · rcases move with ⟨rfl, state, rfl, rfl, rfl, rfl⟩ | ⟨rfl, state, rfl, rfl, rfl, rfl⟩ | ⟨rfl, state, rfl, rfl, rfl, rfl⟩
    · refine ⟨_, exec_open run right low high port holder state, ?_⟩
      rw [Instant.addMs_minutes]
      exact produceHandover_respond run ..
    · refine ⟨_, exec_release run right low high port holder state, ?_⟩
      rw [Instant.addMs_minutes]
      exact produceHandover_respond run ..
    · exact ⟨_, exec_reclaim run right low high port holder state, produceHandover_respond run ..⟩

end Sys2Proof.Machine
end

section
/-!
SUPPORT. What the deadlines and the slots make of the duty unit (R127 to R131, R137 to R139): a duty unit and its HANDOVER records as
one write, and the claims about the deadlines of a handover and about slots that fall due.
-/

namespace Sys2Proof.Machine

/-! ### The duty unit and the queue written, with the notices at the ports -/

/-- The duty unit and the queue are as given, and nothing else differs but the notices and the lines. -/
structure DutyMoved (s t : State) (d : DutyUnit) (q : EventQueue) : Prop where
  eq : t = { s with duty := d, queue := q, ports := t.ports }
  keep : PortsKeep s t

namespace DutyMoved

variable {s t : State} {d : DutyUnit} {q : EventQueue}

theorem written (s : State) (d : DutyUnit) : DutyMoved s (s.withDuty d) d s.queue := ⟨rfl, .refl s⟩

theorem self (s : State) : DutyMoved s s s.duty s.queue := ⟨rfl, .refl s⟩

section Fields

variable (h : DutyMoved s t d q)
include h

theorem duty : t.duty = d := by rw [h.eq]

theorem queue : t.queue = q := by rw [h.eq]

theorem tally : t.tally = s.tally := by rw [h.eq]

theorem time : t.time = s.time := by rw [h.eq]

theorem now : t.now = s.now := by rw [State.now, h.time]; rfl

theorem running : t.running = s.running := by rw [h.eq]; rfl

theorem reported (o : Bool) (b : RecordBody) : t.reported o b = q.report s.now s.time.quality s.burstNumber o b := by
  rw [h.eq]
  rfl

theorem write (e : DutyUnit) : DutyMoved s (t.withDuty e) e q :=
  ⟨by rw [State.withDuty, h.eq], h.keep⟩

theorem report (o : Bool) (phase : HandoverPhase) (x y : Nat) (k : Option Nat) (r z : Nat) :
    DutyMoved s (produceHandover o phase x y k r z t) d
      (q.report s.now s.time.quality s.burstNumber o (.handover phase x y k r z)) := by
  have frame := produceHandover_frame o phase x y k r z t
  refine ⟨frame.1.trans ?_, h.keep.trans frame.2⟩
  rw [produceHandover_queue, h.reported, h.eq]

theorem reportHeld (o : Bool) (phase : HandoverPhase) (n : Nat) :
    DutyMoved s (reportHandover o phase n t) d (q.report s.now s.time.quality s.burstNumber o
      (.handover phase d.crew d.handover.expected d.handover.slot d.handover.reoffers n)) := by
  have report := h.report o phase d.crew d.handover.expected d.handover.slot d.handover.reoffers n
  rw [reportHandover, h.duty]
  exact report

theorem raised (run : s.running = true) (o : Bool) (phase : HandoverPhase) (n : Nat) :
    RaisedAtAll .handover (reportHandover o phase n t) :=
  produceHandover_raised _ _ _ _ _ _ _ (h.running.trans run)

end Fields

end DutyMoved

/-! ### The release deadline -/

/-- The handover fields once the release deadline has passed (R137). -/
def HandoverFields.passed (h : HandoverFields) : HandoverFields := { h with overdue := true, releaseDeadline := none }

section Release

variable {s t : State} {d : DutyUnit} {q : EventQueue} {deadline : Instant}

theorem DutyMoved.expireRelease_late (h : DutyMoved s t d q) (o : Bool) (state : d.state = .due)
    (inForce : d.handover.releaseDeadline = some deadline) (late : s.now.atOrAfter deadline = true) :
    DutyMoved s (expireRelease o t) { d with handover := d.handover.passed }
      (q.report s.now s.time.quality s.burstNumber o
        (.handover .overdue d.crew d.handover.expected d.handover.slot d.handover.reoffers 0)) := by
  have passed := (h.write { d with handover := d.handover.passed }).reportHeld o .overdue 0
  rw [expireRelease_passes (d := deadline) (by rw [h.duty, state]) (by rw [h.duty, inForce]) (by rw [h.now, late]),
    State.withHandover, h.duty]
  exact passed

theorem expireRelease_raised (o : Bool) (run : s.running = true) (state : s.duty.state = .due)
    (inForce : s.duty.handover.releaseDeadline = some deadline) (late : s.now.atOrAfter deadline = true) :
    RaisedAtAll .handover (expireRelease o s) := by
  rw [expireRelease_passes state inForce late]
  exact (DutyMoved.written s _).raised run o .overdue 0

theorem DutyMoved.expireRelease_early (h : DutyMoved s t d q) (o : Bool)
    (inForce : d.handover.releaseDeadline = some deadline) (early : s.now.atOrAfter deadline = false) :
    expireRelease o t = t := by
  refine expireRelease_waits fun e _ given => ?_
  rw [h.duty, inForce] at given
  rw [h.now, ← Option.some.inj given]
  exact early

/-- Whatever it was before, no release deadline that has passed is in force after its expiry. -/
theorem expireRelease_releaseWaits (o : Bool) (s : State) : (expireRelease o s).ReleaseWaits := by
  by_cases waits : s.ReleaseWaits
  · rwa [expireRelease_waits waits]
  · simp only [State.ReleaseWaits, not_forall, Bool.not_eq_false] at waits
    obtain ⟨deadline, state, inForce, late⟩ := waits
    have moved := (DutyMoved.self s).expireRelease_late o state inForce late
    intro e _ given
    rw [moved.duty] at given
    cases given

end Release

/-! ### The accept deadline -/

theorem reoffer_moved (o : Bool) (s : State) :
    let h := { s.duty.handover with
      reoffers := s.duty.handover.reoffers + 1
      acceptDeadline := some (s.now.dropUs.addMs (s.duty.settings.acceptWindow * 60000)) }
    DutyMoved s (reoffer o s) { s.duty with handover := h }
      (s.reported o (.handover .reoffered s.duty.crew h.expected h.slot h.reoffers 0)) :=
  (DutyMoved.written s _).reportHeld o .reoffered 0

section Lapse

variable {s : State} (o : Bool)

theorem lapse_revert (action : s.duty.settings.lapse = .revert) :
    DutyMoved s (lapse o s) { s.duty with state := .onDuty, handover := .clear } (s.reported o
      (.handover .lapsedRevert s.duty.crew s.duty.crew s.duty.handover.slot s.duty.handover.reoffers 0)) := by
  have report := (DutyMoved.self s).report o .lapsedRevert s.duty.crew s.duty.crew s.duty.handover.slot
    s.duty.handover.reoffers 0
  have written := report.write { s.duty with state := .onDuty, handover := .clear }
  unfold lapse
  simp only [action]
  rw [report.duty]
  exact written

theorem lapse_standing (action : s.duty.settings.lapse = .standing) (crew : s.duty.settings.standingCrew ≠ 0) :
    DutyMoved s (lapse o s) { s.duty with
      state := .onDuty, crew := s.duty.settings.standingCrew, port := some .a, handover := .clear } (s.reported o
      (.handover .lapsedStanding s.duty.crew s.duty.settings.standingCrew s.duty.handover.slot s.duty.handover.reoffers 0)) := by
  have report := (DutyMoved.self s).report o .lapsedStanding s.duty.crew s.duty.settings.standingCrew s.duty.handover.slot
    s.duty.handover.reoffers 0
  have written := report.write { s.duty with
    state := .onDuty, crew := s.duty.settings.standingCrew, port := some .a, handover := .clear }
  unfold lapse
  simp only [action, if_neg crew]
  rw [report.duty]
  exact written

/-- A lapse into VACANT, up to the input handed to the tallies. -/
theorem lapse_vacant (action : s.duty.settings.lapse = .standing) (crew : s.duty.settings.standingCrew = 0) :
    ∃ u, lapse o s = handDutyHeld (applyRota o u) ∧ DutyMoved s u
      { s.duty with state := .vacant, crew := 0, port := none, handover := .clear }
      (s.reported o (.handover .lapsedStanding s.duty.crew 0 s.duty.handover.slot s.duty.handover.reoffers 0)) := by
  have report := (DutyMoved.self s).report o .lapsedStanding s.duty.crew 0 s.duty.handover.slot
    s.duty.handover.reoffers 0
  refine ⟨_, ?_, report.write { s.duty with state := .vacant, crew := 0, port := none, handover := .clear }⟩
  unfold lapse
  simp only [action, crew, if_true]
  rw [report.duty]

/-- Every lapse produces a HANDOVER record and raises its notice. -/
theorem lapse_raised (run : s.running = true) : RaisedAtAll .handover (lapse o s) := by
  have told (phase : HandoverPhase) (y : Nat) :=
    produceHandover_raised o phase s.duty.crew y s.duty.handover.slot s.duty.handover.reoffers 0 run
  have rules := NoticeKept.rules (n := .handover) (by decide) (by decide) (by decide)
  unfold lapse
  dsimp only
  split
  · exact fun q => told .lapsedRevert s.duty.crew q
  · split
    · intro q
      rw [(rules.trans (rules.withDuty _ _) (rules.trans (rules.applyRota o _) (rules.handDutyHeld _))).has q]
      exact told .lapsedStanding s.duty.settings.standingCrew q
    · exact fun q => told .lapsedStanding s.duty.settings.standingCrew q

end Lapse

/-- A pending rota applied is one write of the duty unit, with its record. -/
theorem DutyMoved.applyRota {s t : State} {d : DutyUnit} {q : EventQueue} (h : DutyMoved s t d q) (o : Bool) :
    ∃ r, q.Reports r ∧ DutyMoved s (applyRota o t)
      { d with
        pendingRota := none, rota := d.pendingRota.getD d.rota
        lastServed := match d.pendingRota with
          | none => d.lastServed
          | some rota => (mostRecentSlot rota s.now).map fun x => x.1 } r := by
  cases pending : d.pendingRota with
  | none =>
    refine ⟨q, .refl q, ?_⟩
    rw [applyRota_none (by rw [h.duty, pending])]
    refine ⟨h.eq.trans ?_, h.keep⟩
    obtain ⟨⟩ := d
    cases pending
    rfl
  | some rota =>
    rw [applyRota_some (rota := rota) (by rw [h.duty, pending]), h.duty, h.now]
    have written := h.write { d with
      rota := rota, pendingRota := none, lastServed := (mostRecentSlot rota s.now).map fun x => x.1 }
    have frame := produce_frame o (.rota rota.length) (t.withDuty { d with
      rota := rota, pendingRota := none, lastServed := (mostRecentSlot rota s.now).map fun x => x.1 })
    refine ⟨_, ⟨[⟨s.now, s.time.quality, s.burstNumber, o, .rota rota.length⟩], rfl⟩, frame.1.trans ?_,
      written.keep.trans frame.2⟩
    rw [produce_queue, written.reported, written.eq]
    rfl

/-! ### The commands -/

theorem State.atBoundary_iff (s : State) : s.atBoundary = true ↔ s.boundaryAt = some s.elapsed := beq_iff_eq

theorem exec_slotDue_boundary {s : State} (boundary : s.boundaryAt = some s.elapsed) :
    exec .slotDue s = .next (dutyCheck false s) :=
  congrArg Host.Outcome.next (if_pos (s.atBoundary_iff.mpr boundary))

theorem exec_slotDue_elsewhere {s : State} (elsewhere : s.boundaryAt ≠ some s.elapsed) : exec .slotDue s = .next s :=
  congrArg Host.Outcome.next (if_neg (mt s.atBoundary_iff.mp elsewhere))

theorem exec_releaseDeadlineExpiry {s : State} (boundary : s.boundaryAt = some s.elapsed) (run : s.running = true) :
    exec .releaseDeadlineExpiry s = .next (expireRelease false s) :=
  congrArg Host.Outcome.next (if_pos (by rw [run, s.atBoundary_iff.mpr boundary]; rfl))

theorem exec_acceptDeadlineExpiry {s : State} (boundary : s.boundaryAt = some s.elapsed) (run : s.running = true) :
    exec .acceptDeadlineExpiry s = .next (expireAccept false s) :=
  congrArg Host.Outcome.next (if_pos (by rw [run, s.atBoundary_iff.mpr boundary]; rfl))

/-- Each expiry leaves what its own condition does not meet. -/
theorem exec_releaseDeadlineExpiry_waits {s : State} (h : s.boundaryAt ≠ some s.elapsed ∨ s.ReleaseWaits) :
    exec .releaseDeadlineExpiry s = .next s := by
  rcases h with elsewhere | waits
  · exact congrArg Host.Outcome.next
      (if_neg fun both => elsewhere (s.atBoundary_iff.mp ((Bool.and_eq_true ..).mp both).2))
  · exact congrArg Host.Outcome.next ((congrArg (ite _ · s) (expireRelease_waits waits)).trans (ite_self _))

theorem exec_acceptDeadlineExpiry_waits {s : State} (h : s.boundaryAt ≠ some s.elapsed ∨ s.AcceptWaits) :
    exec .acceptDeadlineExpiry s = .next s := by
  rcases h with elsewhere | waits
  · exact congrArg Host.Outcome.next
      (if_neg fun both => elsewhere (s.atBoundary_iff.mp ((Bool.and_eq_true ..).mp both).2))
  · exact congrArg Host.Outcome.next ((congrArg (ite _ · s) (expireAccept_waits waits)).trans (ite_self _))

/-- What an accept deadline that has passed makes of the part (R138, R139). -/
theorem expireAccept_late {s : State} {d : Instant} (run : s.running = true) (state : s.duty.state = .released)
    (inForce : s.duty.handover.acceptDeadline = some d) (late : s.now.atOrAfter d = true) :
    RaisedAtAll .handover (expireAccept false s) := by
  rw [expireAccept_passes state inForce late]
  split
  · exact (DutyMoved.written s _).raised run false .reoffered 0
  · exact lapse_raised false run

/-- Settles O48: the two expiries by the equations of `expireRelease` and `expireAccept`, the lapse by its action. -/
theorem deadlinesOfTheHandover : Obligations.DeadlinesOfTheHandover := by
  unfold Obligations.DeadlinesOfTheHandover
  refine ⟨fun s => ⟨fun h => ?_, fun h => ?_⟩, fun s d boundary run state inForce => ⟨fun early => ?_, fun late => ?_⟩,
    fun s d boundary run state inForce early => ?_, fun s d boundary run state inForce late => ?_⟩
  · exact exec_releaseDeadlineExpiry_waits (h.imp_right .of_state)
  · exact exec_acceptDeadlineExpiry_waits (h.imp_right .of_state)
  · refine exec_releaseDeadlineExpiry_waits (.inr fun e _ given => ?_)
    rw [← Option.some.inj (inForce.symm.trans given)]
    exact early
  · have moved := (DutyMoved.self s).expireRelease_late false state inForce late
    exact ⟨_, exec_releaseDeadlineExpiry boundary run, moved.keep, expireRelease_raised false run state inForce late, moved.eq⟩
  · refine exec_acceptDeadlineExpiry_waits (.inr fun e _ given => ?_)
    rw [← Option.some.inj (inForce.symm.trans given)]
    exact early
  · have passes := expireAccept_passes (o := false) state inForce late
    have frame := expireAccept_frame false s
    refine ⟨_, exec_acceptDeadlineExpiry boundary run, frame.2, expireAccept_late run state inForce late, frame.1,
      (SettingsKept.expireAccept false s).settings, fun below => ?_, fun reached action => ?_, fun reached action crew => ?_,
      fun reached action crew => ?_⟩
    · have moved := reoffer_moved false s
      rw [passes, if_pos below]
      refine ⟨moved.duty.trans ?_, moved.queue, moved.tally⟩
      rw [Instant.addMs_minutes]
      rfl
    · have moved := lapse_revert false action
      rw [passes, if_neg (by omega)]
      exact ⟨moved.duty, moved.queue, moved.tally⟩
    · have moved := lapse_standing false action crew
      rw [passes, if_neg (by omega)]
      exact ⟨moved.duty, moved.queue, moved.tally⟩
    · obtain ⟨u, lapsed, moved⟩ := lapse_vacant false action crew
      obtain ⟨r, reports, applied⟩ := moved.applyRota false
      rw [passes, if_neg (by omega), lapsed]
      generalize applyRota false u = t at *
      have vacant : handDutyHeld t = handInput 34 false t := by rw [handDutyHeld, applied.duty]; rfl
      rw [vacant]
      have handed := handInput_frame 34 false t
      refine ⟨?_, handInput_tally_congr 34 false applied.tally, reports.trans ?_⟩
      · rw [handed.1]
        exact applied.duty
      · rw [← applied.queue]
        exact (handInput_records 34 false t).reports

/-! ### A slot that falls due -/

section Falls

variable {s : State} {due : Instant} {k : Nat} {x : Slot} {n : Nat} (o : Bool)

theorem slotFalls_vacant (state : s.duty.state = .vacant) :
    slotFalls o due k x n s = s.withDuty { s.duty with lastServed := some due } := by
  unfold slotFalls
  simp only [State.withDuty_duty, state]

theorem slotFalls_released (state : s.duty.state = .released) :
    DutyMoved s (slotFalls o due k x n s)
      { s.duty with lastServed := some due, handover := { s.duty.handover with slot := some k, expected := x.crew } }
      (s.reported o (.handover .skipped s.duty.crew x.crew (some k) s.duty.handover.reoffers n)) ∧
    (s.running = true → RaisedAtAll .handover (slotFalls o due k x n s)) := by
  have eq : slotFalls o due k x n s = reportHandover o .skipped n (s.withDuty { s.duty with
      lastServed := some due, handover := { s.duty.handover with slot := some k, expected := x.crew } }) := by
    unfold slotFalls
    simp only [State.withDuty_duty, state]
    rfl
  rw [eq]
  exact ⟨(DutyMoved.written s _).reportHeld o .skipped n, fun run => (DutyMoved.written s _).raised run o .skipped n⟩

theorem slotFalls_due (state : s.duty.state = .due) :
    DutyMoved s (slotFalls o due k x n s)
      { s.duty with
        lastServed := some due
        handover := { s.duty.handover with
          slot := some k, expected := x.crew
          releaseDeadline := some (due.addMs (s.duty.settings.releaseWindow * 60000)) } }
      (s.reported o (.handover .skipped s.duty.crew x.crew (some k) s.duty.handover.reoffers n)) ∧
    (s.running = true → RaisedAtAll .handover (slotFalls o due k x n s)) := by
  have eq : slotFalls o due k x n s = reportHandover o .skipped n (s.withDuty { s.duty with
      lastServed := some due
      handover := { s.duty.handover with
        slot := some k, expected := x.crew
        releaseDeadline := some (due.addMs (s.duty.settings.releaseWindow * 60000)) } }) := by
    unfold slotFalls
    simp only [State.withDuty_duty, state]
    rfl
  rw [eq]
  exact ⟨(DutyMoved.written s _).reportHeld o .skipped n, fun run => (DutyMoved.written s _).raised run o .skipped n⟩

theorem slotFalls_onDuty (state : s.duty.state = .onDuty) :
    let opened := s.reported o (.handover .due s.duty.crew x.crew (some k) 0 n)
    DutyMoved s (slotFalls o due k x n s)
      { s.duty with
        lastServed := some due, state := .due
        handover := ⟨some k, x.crew, some (due.addMs (s.duty.settings.releaseWindow * 60000)), none, false, 0⟩ }
      (if n = 0 then opened
      else opened.report s.now s.time.quality s.burstNumber o (.handover .skipped s.duty.crew x.crew (some k) 0 n)) ∧
    (s.running = true → RaisedAtAll .handover (slotFalls o due k x n s)) := by
  have eq : slotFalls o due k x n s =
      let t := reportHandover o .due n (s.withDuty { s.duty with
        lastServed := some due, state := .due
        handover := ⟨some k, x.crew, some (due.addMs (s.duty.settings.releaseWindow * 60000)), none, false, 0⟩ })
      if n = 0 then t else reportHandover o .skipped n t := by
    unfold slotFalls
    simp only [State.withDuty_duty, state]
    rfl
  have first := (DutyMoved.written s { s.duty with
      lastServed := some due, state := .due
      handover := ⟨some k, x.crew, some (due.addMs (s.duty.settings.releaseWindow * 60000)), none, false, 0⟩
    }).reportHeld o .due n
  rw [eq]
  dsimp only
  by_cases none : n = 0
  · rw [if_pos none, if_pos none]
    exact ⟨first, fun run => (DutyMoved.written s _).raised run o .due n⟩
  · rw [if_neg none, if_neg none]
    exact ⟨first.reportHeld o .skipped n, fun run => first.raised run o .skipped n⟩

end Falls

end Sys2Proof.Machine
end

section
/-!
SUPPORT. The check of the duty unit as a whole, and the claim about slots that fall due (R127 to R131, R137).
-/

namespace Sys2Proof.Machine

/-! ### A slot that falls due, with the release deadline it sets -/

section Falls

variable {s : State}

/-- In DUE, a release deadline that the clock has reached passes at once (R137). -/
theorem DutyMoved.expireRelease {t : State} {d : DutyUnit} {q : EventQueue} (h : DutyMoved s t d q) (o : Bool)
    (state : d.state = .due) {deadline : Instant} (inForce : d.handover.releaseDeadline = some deadline) :
    DutyMoved s (expireRelease o t)
      { d with handover := { d.handover with
          overdue := d.handover.overdue || s.now.atOrAfter deadline
          releaseDeadline := if s.now.atOrAfter deadline then none else some deadline } }
      (if s.now.atOrAfter deadline then
        q.report s.now s.time.quality s.burstNumber o
          (.handover .overdue d.crew d.handover.expected d.handover.slot d.handover.reoffers 0)
      else q) := by
  cases late : s.now.atOrAfter deadline with
  | false =>
    rw [h.expireRelease_early o inForce late, Bool.or_false, if_neg Bool.false_ne_true, ← inForce, if_neg Bool.false_ne_true]
    exact h
  | true =>
    rw [Bool.or_true, if_pos rfl, if_pos rfl]
    exact h.expireRelease_late o state inForce late

theorem expireRelease_keepsRaised {t : State} (o : Bool) (run : t.running = true) (h : RaisedAtAll .handover t) :
    RaisedAtAll .handover (expireRelease o t) := by
  by_cases waits : t.ReleaseWaits
  · rwa [expireRelease_waits waits]
  · simp only [State.ReleaseWaits, not_forall, Bool.not_eq_false] at waits
    obtain ⟨deadline, state, inForce, late⟩ := waits
    exact expireRelease_raised o run state inForce late

end Falls

/-! ### The check goes on from where its deadlines leave it -/

theorem expireRelease_settings (o : Bool) (s : State) : (expireRelease o s).duty.settings = s.duty.settings := by
  by_cases waits : s.ReleaseWaits
  · rw [expireRelease_waits waits]
  · simp only [State.ReleaseWaits, not_forall, Bool.not_eq_false] at waits
    obtain ⟨deadline, state, inForce, late⟩ := waits
    rw [((DutyMoved.self s).expireRelease_late o state inForce late).duty]

/-- A lapse ends the handover (R139). -/
theorem lapse_state (o : Bool) (s : State) : (lapse o s).duty.state = .onDuty ∨ (lapse o s).duty.state = .vacant := by
  cases action : s.duty.settings.lapse with
  | revert => exact .inl (by rw [(lapse_revert o action).duty])
  | standing =>
    by_cases crew : s.duty.settings.standingCrew = 0
    · obtain ⟨u, lapsed, moved⟩ := lapse_vacant o action crew
      obtain ⟨r, -, applied⟩ := moved.applyRota o
      exact .inr (by rw [lapsed, (handDutyHeld_frame _).1, applied.duty])
    · exact .inl (by rw [(lapse_standing o action crew).duty])

/-- What an accept deadline makes of a handover: nothing, a re-offer or a lapse (R138, R139). -/
theorem expireAccept_cases (o : Bool) (s : State) :
    (s.AcceptWaits ∧ expireAccept o s = s) ∨ (s.duty.state = .released ∧ expireAccept o s = reoffer o s) ∨
      expireAccept o s = lapse o s := by
  by_cases waits : s.AcceptWaits
  · exact .inl ⟨waits, expireAccept_waits waits⟩
  · simp only [State.AcceptWaits, not_forall, Bool.not_eq_false] at waits
    obtain ⟨deadline, state, inForce, late⟩ := waits
    rw [expireAccept_passes state inForce late]
    by_cases below : s.duty.handover.reoffers < s.duty.settings.reofferLimit
    · exact .inr (.inl ⟨state, if_pos below⟩)
    · exact .inr (.inr (if_neg below))

/-- Whatever it was before, no accept deadline that has passed is in force after its expiry: a re-offer sets a new one (R138). -/
theorem expireAccept_acceptWaits (o : Bool) {s : State} (clock : ClockInRange s) (low : 1 ≤ s.duty.settings.acceptWindow)
    (high : s.duty.settings.acceptWindow ≤ 30) : (expireAccept o s).AcceptWaits := by
  rcases expireAccept_cases o s with ⟨waits, eq⟩ | ⟨-, eq⟩ | eq <;> rw [eq]
  · exact waits
  · have moved := reoffer_moved o s
    intro d _ given
    rw [moved.duty] at given
    rw [moved.now, ← Option.some.inj given]
    exact clock.now.not_atOrAfter_window low (by omega)
  · exact .of_state fun released => by
      rcases lapse_state o s with state | state <;> cases state.symm.trans released

/-- After an accept deadline no release deadline that has passed is in force, where none was before. -/
theorem expireAccept_releaseWaits (o : Bool) {s : State} (h : s.ReleaseWaits) : (expireAccept o s).ReleaseWaits := by
  rcases expireAccept_cases o s with ⟨-, eq⟩ | ⟨released, eq⟩ | eq <;> rw [eq]
  · exact h
  · refine .of_state ?_
    rw [(reoffer_moved o s).duty]
    exact fun due => nomatch released.symm.trans due
  · exact .of_state fun due => by
      rcases lapse_state o s with state | state <;> cases state.symm.trans due

/-- Settles O47: the check is its two expiries and then its slots; a slot acts by the duty state. -/
theorem slotFallsDueByState : Obligations.SlotFallsDueByState := by
  unfold Obligations.SlotFallsDueByState
  refine ⟨fun s => exec_slotDue_elsewhere, fun s => exec_slotDue_boundary, fun s boundary nothing => ?_,
    fun s a b boundary run clock low high first second => ?_,
    fun s due k x boundary run set recent unserved release accept => ?_,
    fun s due served k x boundary run set recent last later => ?_⟩
  · rw [exec_slotDue_boundary boundary, dutyCheck_nothing false nothing]
  · rw [exec_releaseDeadlineExpiry boundary run] at first
    obtain rfl := Host.Outcome.next.inj first
    have frame := expireRelease_frame false s
    have released : (expireRelease false s).ReleaseWaits := expireRelease_releaseWaits false s
    have eq := dutyCheck_run false run
    have clock' : ClockInRange (expireRelease false s) := by rw [frame.1]; exact clock
    have settings : (expireRelease false s).duty.settings = s.duty.settings := expireRelease_settings false s
    generalize expireRelease false s = t at *
    have time : t.time = s.time := frame.time
    rw [exec_acceptDeadlineExpiry (by rw [frame.1]; exact boundary) (frame.running.trans run)] at second
    obtain rfl := Host.Outcome.next.inj second
    have next := expireAccept_frame false t
    have waits := expireAccept_releaseWaits false released
    have waits' := expireAccept_acceptWaits false clock' (by rwa [settings]) (by rwa [settings])
    rw [exec_slotDue_boundary boundary, eq]
    dsimp only
    generalize expireAccept false t = u at *
    have quality : u.time.quality = s.time.quality := by rw [next.time, time]
    rw [quality]
    by_cases unset : s.time.quality = .unset
    · rw [if_pos unset, if_pos unset]
    · rw [if_neg unset, if_neg unset, exec_slotDue_boundary (by rw [next.1, frame.1]; exact boundary),
        dutyCheck_slots false (next.running.trans (frame.running.trans run)) waits waits' (by rwa [quality])]
  · have waits : (s.withDuty { s.duty with lastServed := some due }).ReleaseWaits := release
    rw [exec_slotDue_boundary boundary, dutyCheck_slots false run release accept set, checkSlots_unserved recent unserved,
      expireRelease_waits waits]
    rfl
  · dsimp only
    intro release accept
    have eq : exec .slotDue s =
        .next (expireRelease false (slotFalls false due k x (skippedCount s.duty.rota served due) s)) := by
      rw [exec_slotDue_boundary boundary, dutyCheck_slots false run release accept set, checkSlots_served recent last,
        if_pos later]
    generalize skippedCount s.duty.rota served due = n at *
    have frame (t : State) (d : DutyUnit) (q : EventQueue) (h : DutyMoved s t d q) :
        t = { s with duty := t.duty, queue := t.queue, ports := t.ports } ∧ PortsKeep s t := by
      refine ⟨?_, h.keep⟩
      rw [h.duty, h.queue]
      exact h.eq
    refine ⟨_, eq, ?_⟩
    cases state : s.duty.state with
    | vacant =>
      have waits : (s.withDuty { s.duty with lastServed := some due }).ReleaseWaits := release
      rw [slotFalls_vacant false state, expireRelease_waits waits]
      have written := DutyMoved.written s { s.duty with lastServed := some due }
      refine ⟨(frame _ _ _ written).1, written.keep, fun held => absurd rfl held, ?_⟩
      dsimp only [State.withDuty]
      rw [state]
    | onDuty =>
      obtain ⟨falls, raised⟩ := slotFalls_onDuty (due := due) (k := k) (x := x) (n := n) false state
      have moved := falls.expireRelease false rfl rfl
      rw [Instant.addMs_minutes, Bool.false_or] at moved
      exact ⟨(frame _ _ _ moved).1, moved.keep, fun _ => expireRelease_keepsRaised false (falls.running.trans run) (raised run),
        moved.duty, moved.queue⟩
    | due =>
      obtain ⟨falls, raised⟩ := slotFalls_due (due := due) (k := k) (x := x) (n := n) false state
      have moved := falls.expireRelease false state rfl
      rw [Instant.addMs_minutes] at moved
      exact ⟨(frame _ _ _ moved).1, moved.keep, fun _ => expireRelease_keepsRaised false (falls.running.trans run) (raised run),
        moved.duty.trans (by rw [← state]), moved.queue⟩
    | released =>
      obtain ⟨falls, raised⟩ := slotFalls_released (due := due) (k := k) (x := x) (n := n) false state
      have waits : (slotFalls false due k x n s).ReleaseWaits := .of_state (by rw [falls.duty, state]; exact nofun)
      rw [expireRelease_waits waits]
      exact ⟨(frame _ _ _ falls).1, falls.keep, fun _ => raised run, falls.duty.trans (by rw [← state]), falls.queue⟩

end Sys2Proof.Machine
end

section
/-!
SUPPORT. SET_ROTA: the first slot out of range or out of order, and the claim about the request (R125, R126).
-/

namespace Sys2Proof.Machine

/-! ### The slots of the arguments -/

/-- Slot `j` of the arguments of SET_ROTA (R188). -/
def slotOf (args : List Byte) (j : Nat) : Slot := ⟨argField args (2 + 3 * j) 2, argField args (4 + 3 * j) 1⟩

theorem slotsOf_eq (args : List Byte) (k : Nat) : slotsOf args k = (List.range k).map (slotOf args) := rfl

theorem length_slotsOf (args : List Byte) (k : Nat) : (slotsOf args k).length = k := by simp [slotsOf_eq]

theorem getElem_slotsOf (args : List Byte) {k j : Nat} (h : j < (slotsOf args k).length) :
    (slotsOf args k)[j] = slotOf args j := by
  simp [slotsOf_eq]

theorem outOfRange_iff (x : Slot) : x.outOfRange = true ↔ ¬ x.fits := by
  simp only [Slot.outOfRange, Slot.fits, Bool.or_eq_true, decide_eq_true_eq]
  omega

section Bad

variable {args : List Byte} {k : Nat}

/-- The first slot out of range (R125, check 3). -/
theorem badSlot_range {j : Nat} (below : j < k) (bad : ¬ (slotOf args j).fits) (before : ∀ i, i < j → (slotOf args i).fits) :
    badSlot (slotsOf args k) = some j := by
  have first : (slotsOf args k).findIdx? (·.outOfRange) = some j := by
    refine List.findIdx?_eq_some_iff_getElem.mpr ⟨by rwa [length_slotsOf], ?_, fun i h => ?_⟩
    · rw [getElem_slotsOf, outOfRange_iff]
      exact bad
    · rw [getElem_slotsOf, outOfRange_iff]
      exact fun out => out (before i h)
  rw [badSlot, first]

theorem findIdx_outOfRange (fit : ∀ i, i < k → (slotOf args i).fits) :
    (slotsOf args k).findIdx? (·.outOfRange) = none := by
  rw [List.findIdx?_eq_none_iff]
  intro x member
  rw [slotsOf_eq, List.mem_map] at member
  obtain ⟨i, range, rfl⟩ := member
  rw [← Bool.not_eq_true, outOfRange_iff, not_not]
  exact fit i (List.mem_range.mp range)

/-- The first slot not above the one before it (R125, check 3; log entry 14). -/
theorem badSlot_order {j : Nat} (below : j + 1 < k) (fit : ∀ i, i < k → (slotOf args i).fits)
    (bad : (slotOf args (j + 1)).minute ≤ (slotOf args j).minute)
    (before : ∀ i, i < j → (slotOf args i).minute < (slotOf args (i + 1)).minute) :
    badSlot (slotsOf args k) = some (j + 1) := by
  have length : ((slotsOf args k).zip (slotsOf args k).tail).length = k - 1 := by
    rw [List.length_zip, List.length_tail, length_slotsOf]
    omega
  have first : ((slotsOf args k).zip (slotsOf args k).tail).findIdx? (fun x => decide (x.2.minute ≤ x.1.minute)) = some j := by
    refine List.findIdx?_eq_some_iff_getElem.mpr ⟨by omega, ?_, fun i h => ?_⟩
    · simpa [getElem_slotsOf] using bad
    · simpa [getElem_slotsOf] using before i h
  rw [badSlot, findIdx_outOfRange fit, first]
  rfl

/-- A rota that fits has no bad slot. -/
theorem badSlot_fits {rota : List Slot} (fits : RotaFits rota) : badSlot rota = none := by
  obtain ⟨-, range, order⟩ := fits
  have inRange : rota.findIdx? (·.outOfRange) = none := by
    rw [List.findIdx?_eq_none_iff]
    intro x member
    rw [← Bool.not_eq_true, outOfRange_iff, not_not]
    exact range x member
  have ordered : (rota.zip rota.tail).findIdx? (fun x => decide (x.2.minute ≤ x.1.minute)) = none := by
    rw [List.findIdx?_eq_none_iff]
    intro x member
    obtain ⟨i, bound, rfl⟩ := List.getElem_of_mem member
    rw [List.length_zip, List.length_tail] at bound
    have below := List.pairwise_iff_getElem.mp order i (i + 1) (by omega) (by omega) (by omega)
    simpa using below
  rw [badSlot, inRange, ordered]
  rfl

end Bad

/-! ### The request -/

section Request

variable {p : Port} {args : List Byte} {s : State}

theorem exec_setRota (run : s.running = true) (low : 2 ≤ args.length) (high : args.length ≤ 64) :
    exec (.setRota p (BitVec.ofNat 8 args.length :: args)) s =
      .next (s.reply p 0x31 (serveSetRota p args (s.idleFrame p))) :=
  congrArg Host.Outcome.next (takeRequest_served run (frameArguments_ofNat high) (decide_eq_true low))

theorem rotaAuthority_idleFrame (p : Port) (crew : Nat) (s : State) :
    rotaAuthority p crew (s.idleFrame p) = rotaAuthority p crew s := by
  rw [rotaAuthority, rotaAuthority, dutyBound_idleFrame, s.rights_idleFrame]
  rfl

theorem rotaAuthority_none {crew : Nat} (h : (s.duty.state = .vacant ∧ (s.port p).rights.config = true) ∨
    ((s.duty.state = .onDuty ∨ s.duty.state = .due) ∧ (s.port p).rights.duty = true ∧ 1 ≤ crew ∧ crew ≤ 15 ∧
      s.duty.port = some p ∧ s.duty.crew = crew)) : rotaAuthority p crew s = none := by
  rcases h with ⟨vacant, right⟩ | ⟨held, right, low, high, port, holder⟩
  · rw [rotaAuthority, if_pos vacant, if_pos right]
  · rw [rotaAuthority, if_neg (by rcases held with h | h <;> simp [h]), ← dutyBound_idleFrame]
    exact dutyBound_passes right low high held port holder

/-- What SET_ROTA answers past the authority check (R125). -/
theorem serveSetRota_eq (passes : rotaAuthority p (argField args 0 1) s = none) {k : Nat} (count : argField args 1 1 = k) :
    serveSetRota p args (s.idleFrame p) =
      if 6 < k then .refuse .badIndex k
      else if args.length ≠ 2 + 3 * k then .refuse .frame args.length
      else match badSlot (slotsOf args k) with
        | some j => .refuse .range j
        | none =>
          if s.duty.state = .vacant then
            .accept (applyRota false ((s.idleFrame p).withDuty { s.duty with pendingRota := some (slotsOf args k) }))
              (beBytes 1 k ++ flagByte false)
          else
            .accept ((s.idleFrame p).withDuty { s.duty with pendingRota := some (slotsOf args k) })
              (beBytes 1 k ++ flagByte true) := by
  rw [serveSetRota, rotaAuthority_idleFrame, passes, count]
  rfl

end Request

/-- A rota applied in VACANT, answered. -/
theorem applyRota_respond {p : Port} {s : State} {rota : List Slot} (payload : List Byte) :
    let t := (applyRota false ((s.idleFrame p).withDuty { s.duty with pendingRota := some rota })).respond p (.ok payload)
    t = { s with
      duty := { s.duty with
        rota := rota, pendingRota := none, lastServed := (mostRecentSlot rota s.now).map fun x => x.1 }
      queue := s.reported false (.rota rota.length)
      ports := t.ports } ∧ PortsAnswer s t p payload := by
  obtain ⟨d, hd⟩ : ∃ d : DutyUnit, d = { s.duty with
      rota := rota, pendingRota := none, lastServed := (mostRecentSlot rota s.now).map fun x => x.1 } := ⟨_, rfl⟩
  have applied : applyRota false ((s.idleFrame p).withDuty { s.duty with pendingRota := some rota }) =
      produce false (.rota rota.length) ((s.idleFrame p).withDuty d) := by
    rw [applyRota_some (rota := rota) rfl, hd]
    rfl
  have frame := produce_frame false (.rota rota.length) ((s.idleFrame p).withDuty d)
  have queue : (produce false (.rota rota.length) ((s.idleFrame p).withDuty d)).queue = s.reported false (.rota rota.length) :=
    produce_queue ..
  rw [applied, ← hd]
  generalize produce false (.rota rota.length) ((s.idleFrame p).withDuty d) = u at *
  refine ⟨?_, .of_keep frame.2⟩
  rw [← queue]
  exact (congrArg (State.respond · p _) frame.1).trans rfl

/-- Settles O49: the refusals along `serveSetRota_eq` with the first bad slot, and the rota that is applied or waits. -/
theorem rotaIsAppliedOrWaits : Obligations.RotaIsAppliedOrWaits := by
  unfold Obligations.RotaIsAppliedOrWaits
  refine ⟨fun p args s run low high => ⟨fun vacant denied => ?_, fun authority => ?_⟩,
    fun p args s k run few count length fits => ⟨fun vacant right => ?_, fun held right low high port holder => ?_⟩⟩
  · have refuses : rotaAuthority p (argField args 0 1) s = some (.denied, 0) := by
      rw [rotaAuthority, if_pos vacant, if_neg (by simp [denied])]
    rw [exec_setRota run low high, serveSetRota, rotaAuthority_idleFrame, refuses]
    rfl
  · have passes := rotaAuthority_none authority
    have served := serveSetRota_eq passes rfl
    have refused {why : RefusalCode} {detail : Nat} (h : serveSetRota p args (s.idleFrame p) = .refuse why detail) :
        exec (.setRota p (BitVec.ofNat 8 args.length :: args)) s = .next (s.refusedAt p 0x31 why detail) := by
      rw [exec_setRota run low high, h]
      rfl
    refine ⟨fun many => refused ?_, fun few length => refused ?_,
      fun few length => ⟨fun j below bad before => refused ?_, fun j below fit bad before => refused ?_⟩⟩
    · rw [served, if_pos many]
    · rw [served, if_neg (by omega), if_pos length]
    · rw [served, if_neg (by omega), if_neg (by omega), badSlot_range below bad before]
    · rw [served, if_neg (by omega), if_neg (by omega), badSlot_order below fit bad before]
  · have passes := rotaAuthority_none (crew := argField args 0 1) (.inl ⟨vacant, right⟩)
    have served := serveSetRota_eq passes count
    rw [if_neg (by omega), if_neg (by omega), badSlot_fits (rota := slotsOf args k) fits] at served
    have next := exec_setRota run (p := p) (args := args) (s := s) (by omega) (by omega)
    simp only [served, if_pos vacant, length] at next
    obtain ⟨eq, answer⟩ := applyRota_respond (p := p) (s := s) (rota := slotsOf args k) (beBytes 1 k ++ flagByte false)
    rw [length_slotsOf] at eq
    rw [beBytes_one] at next eq answer
    exact ⟨_, next, eq, answer⟩
  · have passes := rotaAuthority_none (.inr ⟨held, right, holder ▸ low, holder ▸ high, port, holder.symm⟩)
    have served := serveSetRota_eq passes count
    have taken : s.duty.state ≠ .vacant := by rcases held with h | h <;> simp [h]
    rw [if_neg (by omega), if_neg (by omega), badSlot_fits (rota := slotsOf args k) fits] at served
    have next := exec_setRota run (p := p) (args := args) (s := s) (by omega) (by omega)
    simp only [served, if_neg taken, length] at next
    refine next.trans ?_
    rw [beBytes_one]
    exact congrArg Host.Outcome.next (State.respond_of_ports rfl)

end Sys2Proof.Machine
end

section
/-!
SUPPORT. Slot instants on the circle (R124, R128): the most recent one, and those strictly between two instants.
-/

namespace Sys2Proof.Machine

/-! ### The most recent slot -/

theorem snd_numbered (rota : List Slot) : (numbered rota).map Prod.snd = rota :=
  List.map_snd_zip (by simp)

/-- In a rota that fits, the last slot of a part that keeps the order starts latest. -/
theorem minute_le_last {rota : List Slot} (fits : RotaFits rota) (keep : Nat × Slot → Bool) {k : Nat} {x : Slot}
    (last : ((numbered rota).filter keep).getLast? = some (k, x)) :
    rota[k]? = some x ∧ keep (k, x) = true ∧
      ∀ y ∈ (numbered rota).filter keep, y.2.minute ≤ x.minute := by
  have member := List.mem_of_getLast? last
  obtain ⟨inside, kept⟩ := List.mem_filter.mp member
  refine ⟨mem_numbered.mp inside, kept, fun y other => ?_⟩
  have sorted : ((numbered rota).filter keep).Pairwise fun a b => a.2.minute ≤ b.2.minute := by
    refine List.Pairwise.filter _ (List.Pairwise.of_map Prod.snd (S := fun a b : Slot => a.minute ≤ b.minute) (fun _ _ h => h) ?_)
    rw [snd_numbered]
    exact fits.2.2.imp Nat.le_of_lt
  have bound := sorted.rel_getLast_of_rel_getLast_getLast other (Nat.le_refl _)
  rw [List.getLast?_eq_some_getLast (List.ne_nil_of_mem other), Option.some.injEq] at last
  rwa [last] at bound

/-- The most recent slot, by whether one of the rota has come on the date (R124). -/
theorem mostRecentSlot_spec {rota : List Slot} {i : Instant} (fits : RotaFits rota) {due : Instant} {k : Nat} {x : Slot}
    (recent : mostRecentSlot rota i = some (due, k, x)) :
    rota[k]? = some x ∧
      ((∃ y ∈ rota, y.minute * 60000 ≤ i.ms) → due = ⟨i.date, x.minute * 60000, 0⟩ ∧ x.minute * 60000 ≤ i.ms ∧
        ∀ y ∈ rota, y.minute * 60000 ≤ i.ms → y.minute ≤ x.minute) ∧
      ((∀ y ∈ rota, i.ms < y.minute * 60000) → due = x.onDate (dateBefore i.date) ∧ ∀ y ∈ rota, y.minute ≤ x.minute) := by
  have place {y : Slot} (member : y ∈ rota) : ∃ k, (k, y) ∈ numbered rota := by
    obtain ⟨k, bound, rfl⟩ := List.getElem_of_mem member
    exact ⟨k, mem_numbered.mpr (List.getElem?_eq_getElem bound)⟩
  cases last : ((numbered rota).filter fun y => decide (y.2.minute * 60000 ≤ i.ms)).getLast? with
  | some y =>
    obtain ⟨k', x'⟩ := y
    obtain ⟨at', kept, latest⟩ := minute_le_last fits _ last
    have come : x'.minute * 60000 ≤ i.ms := of_decide_eq_true kept
    simp only [mostRecentSlot, last, Option.some.injEq, Prod.mk.injEq] at recent
    obtain ⟨rfl, rfl, rfl⟩ := recent
    refine ⟨at', fun _ => ⟨rfl, come, fun y member early => ?_⟩, fun none => ?_⟩
    · obtain ⟨n, inside⟩ := place member
      exact latest (n, y) (List.mem_filter.mpr ⟨inside, decide_eq_true early⟩)
    · exact absurd come (Nat.not_le.mpr (none x' (List.mem_of_getElem? at')))
  | none =>
    rw [List.getLast?_eq_none_iff] at last
    have none {y : Slot} (member : y ∈ rota) : ¬ y.minute * 60000 ≤ i.ms := fun early => by
      obtain ⟨n, inside⟩ := place member
      have inList : (n, y) ∈ (numbered rota).filter fun y => decide (y.2.minute * 60000 ≤ i.ms) :=
        List.mem_filter.mpr ⟨inside, decide_eq_true early⟩
      rw [last] at inList
      cases inList
    simp only [mostRecentSlot, last, List.getLast?_nil, Option.map_eq_some_iff, Prod.mk.injEq] at recent
    obtain ⟨⟨k', x'⟩, last', rfl, rfl, rfl⟩ := recent
    obtain ⟨at', -, latest⟩ := minute_le_last fits (fun _ => true) (by rwa [List.filter_true])
    refine ⟨at', fun some => ?_, fun _ => ⟨rfl, fun y member => ?_⟩⟩
    · obtain ⟨y, member, early⟩ := some
      exact absurd early (none member)
    · obtain ⟨n, inside⟩ := place member
      exact latest (n, y) (by rwa [List.filter_true])

/-- Only an empty rota has no most recent slot. -/
theorem mostRecentSlot_eq_none (rota : List Slot) (i : Instant) : mostRecentSlot rota i = none ↔ rota = [] := by
  have empty : numbered rota = [] ↔ rota = [] := by
    rw [← List.map_eq_nil_iff (f := Prod.snd), snd_numbered]
  unfold mostRecentSlot
  split
  · next x last =>
    have inside := (List.mem_filter.mp (List.mem_of_getLast? last)).1
    exact iff_of_false nofun fun h => by rw [empty.mpr h] at inside; cases inside
  · rw [Option.map_eq_none_iff, List.getLast?_eq_none_iff, empty]

/-! ### Slots strictly between two instants -/

/-- How far the first instant of a slot after an instant is ahead, from 1 µs to one day (R128). -/
def Slot.firstAhead (x : Slot) (served : Instant) : Nat :=
  let dayUs := dayMs * 1000
  let ahead := (x.minute * 60000 * 1000 + dayUs - served.toUs % dayUs) % dayUs
  if ahead = 0 then dayUs else ahead

theorem Slot.firstAhead_spec (x : Slot) (served : Instant) :
    0 < x.firstAhead served ∧ x.firstAhead served ≤ 86400000000 ∧
      (served.toUs + x.firstAhead served) % 86400000000 = x.minute * 60000000 % 86400000000 := by
  unfold Slot.firstAhead dayMs
  dsimp only
  split <;> omega

theorem Slot.between_eq (x : Slot) (served : Instant) (span : Nat) :
    x.between served span =
      if x.firstAhead served < span then (span - 1 - x.firstAhead served) / 86400000000 + 1 else 0 :=
  rfl

theorem Slot.lt_between_iff {x : Slot} {served : Instant} {span m : Nat} :
    m < x.between served span ↔ x.firstAhead served + m * 86400000000 < span := by
  rw [Slot.between_eq]
  split <;> omega

/-- Instant `m` of a slot after an instant. -/
def Slot.instantAfter (x : Slot) (served : Instant) (m : Nat) : Instant :=
  served.addUs ((x.firstAhead served + m * 86400000000 : Nat) : Int)

section After

variable {x : Slot} {served : Instant} {m : Nat} (fits : x.fits) (near : x.firstAhead served + m * 86400000000 < circleUs)
include near

theorem Slot.circleFrom_instantAfter :
    (x.instantAfter served m).circleFrom served = x.firstAhead served + m * 86400000000 :=
  Instant.circleFrom_addUs served near

omit near in
include fits in
theorem Slot.instantAfter_eq :
    ∃ date, date < 65536 ∧ x.instantAfter served m = ⟨date, x.minute * 60000, 0⟩ := by
  obtain ⟨date, ms, us⟩ := Instant.inRange_addUs served ((x.firstAhead served + m * 86400000000 : Nat) : Int)
  have moved := Instant.toUs_addUs served ((x.firstAhead served + m * 86400000000 : Nat) : Int)
  obtain ⟨-, -, first⟩ := x.firstAhead_spec served
  have minute := fits.1
  change (x.instantAfter served m).date < _ at date
  change (x.instantAfter served m).ms < _ at ms
  change (x.instantAfter served m).us < _ at us
  change ((x.instantAfter served m).toUs : Int) = _ at moved
  generalize x.instantAfter served m = j at *
  obtain ⟨d, ms', us'⟩ := j
  rw [Instant.toUs_eq, circleUs_eq] at moved
  dsimp only at *
  refine ⟨d, date, ?_⟩
  have : ms' = x.minute * 60000 := by omega
  have : us' = 0 := by omega
  subst_vars
  rfl

end After

/-- The instants of the rota's slots strictly between an instant and one a span after it (R128). -/
def slotsBetween (rota : List Slot) (served : Instant) (span : Nat) : List Instant :=
  rota.flatMap fun x => (List.range (x.between served span)).map (x.instantAfter served)

theorem mem_slotsBetween {rota : List Slot} {served : Instant} {span : Nat} {j : Instant} :
    j ∈ slotsBetween rota served span ↔
      ∃ x ∈ rota, ∃ m, x.firstAhead served + m * 86400000000 < span ∧ x.instantAfter served m = j := by
  simp only [slotsBetween, List.mem_flatMap, List.mem_map, List.mem_range, Slot.lt_between_iff]

theorem length_slotsBetween (rota : List Slot) (served : Instant) (span : Nat) :
    (slotsBetween rota served span).length = (rota.map fun x => x.between served span).sum := by
  simp [slotsBetween, List.length_flatMap]

section Between

variable {rota : List Slot} {served : Instant} {span : Nat} (fits : RotaFits rota) (bound : span ≤ circleUs)
include fits bound

theorem nodup_slotsBetween : (slotsBetween rota served span).Nodup := by
  rw [slotsBetween, List.nodup_flatMap]
  refine ⟨fun x _ => List.Nodup.map_on (fun m inM n inN same => ?_) List.nodup_range, ?_⟩
  · rw [List.mem_range, Slot.lt_between_iff] at inM inN
    have first := Slot.circleFrom_instantAfter (inM.trans_le bound)
    have second := Slot.circleFrom_instantAfter (inN.trans_le bound)
    rw [same] at first
    omega
  · refine fits.2.2.imp_of_mem fun {x y} inX inY below => ?_
    intro j left right
    obtain ⟨m, -, rfl⟩ := List.mem_map.mp left
    obtain ⟨n, -, same⟩ := List.mem_map.mp right
    obtain ⟨d, -, eq⟩ := Slot.instantAfter_eq (served := served) (m := m) (fits.2.1 x inX)
    obtain ⟨e, -, eq'⟩ := Slot.instantAfter_eq (served := served) (m := n) (fits.2.1 y inY)
    have ms := congrArg Instant.ms same
    rw [eq, eq'] at ms
    dsimp only at ms
    omega

end Between

theorem mem_slotsBetween_iff {rota : List Slot} {served due : Instant} (fits : RotaFits rota) (j : Instant) :
    j ∈ slotsBetween rota served (due.circleFrom served) ↔ SlotBetween rota served due j := by
  have bound := Instant.circleFrom_lt due served
  rw [mem_slotsBetween]
  constructor
  · rintro ⟨x, member, m, below, rfl⟩
    obtain ⟨date, low, eq⟩ := Slot.instantAfter_eq (served := served) (m := m) (fits.2.1 x member)
    have distance := Slot.circleFrom_instantAfter (below.trans bound)
    obtain ⟨positive, -, -⟩ := x.firstAhead_spec served
    exact ⟨⟨date, x, low, member, eq⟩, by omega, by omega⟩
  · rintro ⟨⟨date, x, low, member, eq⟩, positive, below⟩
    have minute := (fits.2.1 x member).1
    have inRange : j.inRange := by
      rw [eq]
      exact ⟨low, by show x.minute * 60000 < _; omega, Nat.zero_lt_succ _⟩
    have leads := inRange.addUs_circleFrom served
    have distance := Instant.circleFrom_eq j served
    have whole := Instant.toUs_eq j
    obtain ⟨first, day, ahead⟩ := x.firstAhead_spec served
    have ms : j.ms = x.minute * 60000 := by rw [eq]
    have us : j.us = 0 := by rw [eq]
    rw [ms, us] at whole
    refine ⟨x, member, (j.circleFrom served - x.firstAhead served) / 86400000000, ?_⟩
    have steps : x.firstAhead served + (j.circleFrom served - x.firstAhead served) / 86400000000 * 86400000000 =
        j.circleFrom served := by
      rw [circleUs_eq] at distance
      omega
    rw [Slot.instantAfter, steps]
    exact ⟨below, leads⟩

/-- Settles O46: distances from the arithmetic of the circle, the most recent slot by the order of the rota, the skipped count as
the number of the instants listed by `slotsBetween`. -/
theorem slotsAreFoundOnTheCircle : Obligations.SlotsAreFoundOnTheCircle := by
  unfold Obligations.SlotsAreFoundOnTheCircle
  refine ⟨fun a b ha hb => ⟨Instant.circleFrom_lt a b, ha.addUs_circleFrom b, Instant.laterThan_iff ha hb,
      Instant.atOrAfter_iff ha hb⟩,
    fun rota i fits inRange => ⟨mostRecentSlot_eq_none rota i, fun due k x recent => ?_⟩,
    fun rota served due fits _ _ => ⟨slotsBetween rota served (due.circleFrom served),
      nodup_slotsBetween fits (Instant.circleFrom_lt ..).le, mem_slotsBetween_iff fits, ?_⟩⟩
  · obtain ⟨at', sameDate, dateBefore'⟩ := mostRecentSlot_spec fits recent
    refine ⟨at', sameDate, fun none => ?_⟩
    obtain ⟨eq, latest⟩ := dateBefore' none
    have date : dateBefore i.date = if i.date = 0 then 65535 else i.date - 1 := by
      have low := inRange.1
      simp only [dateBefore, dateCount]
      split <;> omega
    rw [← date]
    exact ⟨eq, latest⟩
  · rw [length_slotsBetween]
    rfl

end Sys2Proof.Machine
end

section
/-!
SUPPORT. The reads (R17, R37, R57, R79, R80, R117, R118, R145, R152 to R154, R176, R190): a read answers from the state and changes
nothing, the payloads byte by byte, and the claim about them.
-/

namespace Sys2Proof.Machine

/-! ### A request that its block answers without moving the ports -/

section Read

variable {p : Port} {c : Instr} {code : Byte} {n : Nat} {serve : List Byte → State → Answer} {args : List Byte} {s : State}
  (run : s.running = true) (length : args.length = n) (short : n ≤ 64)
  (taken : exec c s = .next (takeRequest p code (exactly n) serve (BitVec.ofNat 8 n :: args) s))
include run length short taken

theorem exec_answered {t : State} {payload : List Byte} (served : serve args (s.idleFrame p) = .accept t payload)
    (ports : t.ports = (s.idleFrame p).ports) : exec c s = .next (({ t with ports := s.ports } : State).okAt p payload) := by
  rw [taken, takeRequest_exactly run length short, served]
  exact congrArg Host.Outcome.next (State.respond_of_ports ports)

/-- A read leaves the state as it was but for the answer. -/
theorem exec_read {payload : List Byte} (served : serve args (s.idleFrame p) = .accept (s.idleFrame p) payload) :
    exec c s = .next (s.okAt p payload) :=
  exec_answered run length short taken (t := s.idleFrame p) served rfl

theorem exec_readRefused {why : RefusalCode} {detail : Nat} (served : serve args (s.idleFrame p) = .refuse why detail) :
    exec c s = .next (s.refusedAt p code why detail) := by
  rw [taken, takeRequest_exactly run length short, served]
  rfl

end Read

/-! ### The chatter states of all points -/

/-- The digits of a number written to a base are the ones it was made of. -/
theorem digit_of_sum {b k : Nat} (f : Fin k → Nat) (small : ∀ i, f i < b) :
    (∑ i, f i * b ^ i.val) < b ^ k ∧ ∀ m : Fin k, (∑ i, f i * b ^ i.val) / b ^ m.val % b = f m := by
  induction k with
  | zero => exact ⟨by simp, fun m => m.elim0⟩
  | succ k ih =>
    obtain ⟨bound, digits⟩ := ih (fun i => f i.castSucc) (fun i => small _)
    have positive : 0 < b := (Nat.zero_le _).trans_lt (small 0)
    simp only [Fin.sum_univ_castSucc, Fin.val_castSucc, Fin.val_last]
    generalize ∑ i : Fin k, f i.castSucc * b ^ i.val = low at *
    refine ⟨?_, fun m => ?_⟩
    · calc low + f (Fin.last k) * b ^ k < b ^ k + f (Fin.last k) * b ^ k := by omega
        _ = (f (Fin.last k) + 1) * b ^ k := by ring
        _ ≤ b * b ^ k := Nat.mul_le_mul_right _ (small _)
        _ = b ^ (k + 1) := by ring
    · refine Fin.lastCases ?_ (fun i => ?_) m
      · rw [Fin.val_last, Nat.add_mul_div_right _ _ (Nat.pow_pos positive), Nat.div_eq_of_lt bound, Nat.zero_add,
          Nat.mod_eq_of_lt (small _)]
      · have split : b ^ k = b ^ (k - i.val - 1) * b * b ^ i.val := by
          rw [← Nat.pow_succ, ← Nat.pow_add]
          congr 1
          omega
        rw [Fin.val_castSucc, split, ← Nat.mul_assoc, Nat.add_mul_div_right _ _ (Nat.pow_pos positive), ← Nat.mul_assoc,
          Nat.add_mul_mod_self_right]
        exact digits i

theorem chatterStates_digit (s : State) (n : Fin 32) : s.chatterStates / 4 ^ n.val % 4 = (s.point n).chatter.code := by
  have sum : s.chatterStates = ∑ n : Fin 32, (s.point n).chatter.code * 4 ^ n.val := by
    rw [State.chatterStates, Fin.sum_univ_def, List.sum_eq_foldl, List.foldl_map]
  rw [sum]
  refine (digit_of_sum _ fun i => ?_).2 n
  cases (s.point i).chatter <;> simp [Chatter.code]

/-! ### Payloads -/

theorem disciplinePayload_eq (s : State) :
    disciplinePayload s = beSigned 4 s.discipline.freqTrim ++ beSigned 4 s.discipline.slewTrim ++
      beSigned 4 s.discipline.lastOffset ++ beBytes 1 s.discipline.lockCounter ++ beBytes 1 s.discipline.unlockCounter ++
      flagByte s.discipline.stepPending ++ beBytes 2 s.discipline.rejectedMarks ++ optInstantBytes s.discipline.lastMark ++
      flagByte s.discipline.settings.stepEnable ++ beBytes 2 s.discipline.settings.stepLimit ++
      beBytes 2 s.discipline.settings.lockWindow ++ beBytes 1 s.discipline.settings.loopDivisor ++
      beBytes 4 s.discipline.settings.holdoverLimit := by
  simp only [disciplinePayload, DisciplineSettings.bytes, List.append_assoc]

theorem firstOutPayload_eq (s : State) :
    firstOutPayload s = [s.trip.latch.code] ++ flagByte s.trip.burst.isSome ++ beBytes 2 s.burstNumber ++
      beBytes 2 s.trip.lastBurst ++ beBytes 2 s.trip.latchingBurst ++ optInstantBytes s.trip.firstOut ++
      beBytes 1 s.trip.ranked.length ++ beBytes 1 s.trip.overflow ++ s.trip.ranked.flatMap fun e =>
        beBytes 1 e.point ++ beBytes 4 (rankOffset e.instant (s.trip.firstOut.getD .zero)).toNat := by
  rw [firstOutPayload, TripUnit.ranks, List.flatMap_map]
  rfl

theorem annunciationPayload_eq (s : State) :
    annunciationPayload s = (List.finRange 32).map (fun n => (s.trip.entry n).code) ++ beBytes 2 s.trip.tripCount ++
      beBytes 2 s.trip.pointCount := by
  have table : s.trip.annunciation.toList.map (·.code) = (List.finRange 32).map fun n => (s.trip.entry n).code := by
    refine List.ext_getElem (by simp) fun i h k => ?_
    simp [TripUnit.entry]
  rw [annunciationPayload, table]

theorem readDutyPayload_eq (s : State) :
    readDutyPayload s = beBytes 1 s.duty.state.code ++ beBytes 1 s.duty.crew ++ optPortByte s.duty.port ++
      slotByte s.duty.handover.slot ++ beBytes 1 s.duty.handover.expected ++
      optInstantBytes s.duty.handover.releaseDeadline ++ optInstantBytes s.duty.handover.acceptDeadline ++
      flagByte s.duty.handover.overdue ++ beBytes 1 s.duty.handover.reoffers ++ rotaBytes s.duty.rota ++
      flagByte s.duty.pendingRota.isSome ++ rotaBytes (s.duty.pendingRota.getD []) ++ optInstantBytes s.duty.lastServed ++
      beBytes 1 s.duty.settings.releaseWindow ++ beBytes 1 s.duty.settings.acceptWindow ++
      beBytes 1 s.duty.settings.reofferLimit ++ [s.duty.settings.lapse.code] ++ beBytes 1 s.duty.settings.standingCrew := by
  simp only [readDutyPayload, dutyPayload, HandoverSettings.bytes, List.append_assoc]

theorem hoursReadings_eq (lifetime : Nat) :
    hoursReadings lifetime = beBytes 4 (lifetime / 360000) ++ beBytes 4 (lifetime / 3600000) ++
      beBytes 1 (lifetime / 60000 % 60) ++ beBytes 1 (lifetime / 1000 % 60) ++ beBytes 2 (lifetime % 1000) := by
  have minutes : lifetime % 3600000 / 60000 = lifetime / 60000 % 60 := by omega
  have seconds : lifetime % 60000 / 1000 = lifetime / 1000 % 60 := by omega
  rw [hoursReadings, minutes, seconds]

/-- Two flags as a byte. -/
theorem flagsByte_eq (x y : Bool) (a b : Nat) :
    beBytes 1 ((if x then a else 0) + (if y then b else 0)) =
      [if x then if y then BitVec.ofNat 8 (a + b) else BitVec.ofNat 8 a else if y then BitVec.ofNat 8 b else 0] := by
  rw [beBytes_one]
  cases x <;> cases y <;> simp

theorem stagedBytes_eq (k : Nat) (x : Option StagedPreset) :
    stagedBytes k x = match x with
      | none => 0 :: (List.range 11).map (Config.absentByte k)
      | some y => 1 :: (beBytes 6 y.lifetime ++ beBytes 4 y.starts ++ beBytes 1 y.crew) := by
  cases x <;> rfl

theorem refusalBytes_eq (k : Nat) (x : Option RefusalRecord) :
    refusalBytes k x = match x with
      | none => 0 :: (List.range 12).map (Config.absentByte k)
      | some y => [1, y.request, y.code.code] ++ beBytes 2 y.detail ++ beBytes 2 y.instant.date ++ beBytes 4 y.instant.ms ++
          beBytes 2 y.instant.us := by
  cases x with
  | none => rfl
  | some y => simp [refusalBytes, instantBytes]

theorem tallyPayload_eq (i : Fin 12) (s : State) :
    tallyPayload i s = beBytes 1 i.val ++ flagByte (s.entry i).config.inUse ++ beBytes 5 (s.entry i).config.pattern.toNat ++
      beBytes 5 (s.entry i).config.care.toNat ++ beBytes 1 (s.entry i).config.qualifyTime ++
      flagByte (s.entry i).config.recordTransitions ++ flagByte (s.entry i).config.dueEnable ++ flagByte (s.condition i) ++
      [(s.entry i).run.code s.tally.paused] ++ beBytes 6 (s.entry i).progress ++ beBytes 6 (s.entry i).lifetime ++
      beBytes 4 ((s.entry i).lifetime / 360000) ++ beBytes 4 ((s.entry i).lifetime / 3600000) ++
      beBytes 1 ((s.entry i).lifetime / 60000 % 60) ++ beBytes 1 ((s.entry i).lifetime / 1000 % 60) ++
      beBytes 2 ((s.entry i).lifetime % 1000) ++ beBytes 4 (s.entry i).starts ++ beBytes 4 (s.entry i).shiftPortion ++
      beBytes 2 (s.entry i).shiftStarts ++ beBytes 6 (s.entry i).dueValue ++ flagByte (s.entry i).duePending ++
      beBytes 1 ((if (s.entry i).presetFlag then 1 else 0) + (if (s.entry i).saturatedFlag then 2 else 0)) ++
      stagedBytes s.freeIndex (s.entry i).staged := by
  simp only [tallyPayload, TallyConfig.bytes, hoursReadings_eq, List.append_assoc]

/-! ### The shift book -/

theorem flatMap_take {α β : Type} (l : List α) (g : α → List β) (n : Nat) :
    (l.take n).flatMap g = (List.range n).flatMap fun i => match l[i]? with | none => [] | some x => g x := by
  induction n with
  | zero => rfl
  | succ n ih =>
    rw [List.take_add_one, List.flatMap_append, ih, List.range_succ, List.flatMap_append]
    congr 1
    cases h : l[n]? <;> simp [h]

theorem tallyBytes_eq (r : BookRecord) (mask : BitVec 12) (first : Nat) :
    r.tallyBytes mask first = (List.range 6).flatMap fun i =>
      match r.tallies[first + i]? with | none => [] | some x => tallyBlockBytes mask (first + i) x := by
  rw [BookRecord.tallyBytes, flatMap_take]
  congr 1
  funext i
  rw [List.getElem?_drop]
  cases block : r.tallies[first + i]? with
  | none =>
    have none : ((List.range r.tallies.length).zip r.tallies)[first + i]? = none := by
      rw [List.getElem?_eq_none_iff] at block ⊢
      simpa using block
    rw [none]
  | some x =>
    have some : ((List.range r.tallies.length).zip r.tallies)[first + i]? = some (first + i, x) := by
      obtain ⟨bound, eq⟩ := List.getElem?_eq_some_iff.mp block
      rw [List.getElem?_eq_some_iff]
      exact ⟨by simpa using bound, by simp [eq]⟩
    rw [some]

theorem tallyBlockBytes_eq (mask : BitVec 12) (k : Nat) (x : BookTally) :
    tallyBlockBytes mask k x =
      if mask.getLsbD k then
        beBytes 1 k ++ [if x.presetFlag then if x.saturatedFlag then 6 else 2 else if x.saturatedFlag then 4 else 0] ++
          beBytes 4 x.shiftPortion ++ beBytes 2 x.shiftStarts ++ beBytes 6 x.lifetime
      else beBytes 1 k ++ [1, 0, 0, 0, 0, 0, 0, 0, 0, 0, 0, 0, 0] := by
  rw [tallyBlockBytes, flagsByte_eq]
  rfl

section Book

variable {p : Port} {a b : Byte} {s : State} {r : BookRecord} (found : s.book.records[a.toNat]? = some r)
include found

theorem serveReadShiftBook_found :
    serveReadShiftBook p [a, b] (s.idleFrame p) = match b.toNat with
      | 0 => .accept (s.idleFrame p) (bookCommonBytes a.toNat b.toNat s.book.records.length r.number ++ r.headerBytes)
      | 1 => .accept (s.idleFrame p)
        (bookCommonBytes a.toNat b.toNat s.book.records.length r.number ++ r.tallyBytes (s.port p).readMask 0)
      | 2 => .accept (s.idleFrame p)
        (bookCommonBytes a.toNat b.toNat s.book.records.length r.number ++ r.tallyBytes (s.port p).readMask 6)
      | _ => .refuse .range b.toNat := by
  have age : argField [a, b] 0 1 = a.toNat := argField_byte rfl
  have part : argField [a, b] 1 1 = b.toNat := argField_byte rfl
  have mask : ((s.idleFrame p).port p).readMask = (s.port p).readMask := by rw [s.idleFrame_self]
  have book : (s.idleFrame p).book.records[a.toNat]? = some r := found
  unfold serveReadShiftBook
  dsimp only
  rw [age, part, mask, book]
  rfl

end Book

theorem beBytes_toNat (a : Byte) : beBytes 1 a.toNat = [a] := by
  rw [beBytes_one, BitVec.ofNat_toNat, BitVec.setWidth_eq]

/-! ### The reads that name a thing -/

section Named

variable {p : Port} {a : Byte} {s : State}

/-- The entries of a range of points, laid out (R57). -/
theorem serveReadPoints_eq (b : Byte) :
    serveReadPoints [a, b] (s.idleFrame p) =
      if 31 < a.toNat then .refuse .badIndex 0
      else
        .accept (s.idleFrame p) ([a] ++ beBytes 1 (min (max 1 (min 32 b.toNat)) (32 - a.toNat)) ++
          s.entryRange a.toNat (min (max 1 (min 32 b.toNat)) (32 - a.toNat)) ++ beBytes 4 s.stateVector.toNat ++
          beBytes 8 s.chatterStates) := by
  have first : argField [a, b] 0 1 = a.toNat := argField_byte rfl
  have count : argField [a, b] 1 1 = b.toNat := argField_byte rfl
  unfold serveReadPoints
  dsimp only
  rw [first, count, beBytes_toNat]
  by_cases high : 31 < a.toNat
  · rw [if_pos high, if_neg (by omega)]
  · rw [if_neg high, if_pos (by omega)]
    rfl

theorem serveReadTally_eq (i : Fin 12) (index : a.toNat = i.val) :
    serveReadTally p [a] (s.idleFrame p) =
      if (s.port p).readMask.getLsbD i.val then
        .accept { s.idleFrame p with freeIndex := s.freeIndex + 1 } (tallyPayload i s)
      else .refuse .denied i.val := by
  have mask : ((s.idleFrame p).port p).readMask = (s.port p).readMask := by rw [s.idleFrame_self]
  unfold serveReadTally
  rw [argField_oneByte, index, tallyIndex_val, mask]
  rfl

theorem portOf_toNat (q : Port) : portOf (portLetter q).toNat = some q := by cases q <;> rfl

theorem portOf_none (other : ∀ q, a ≠ portLetter q) : portOf a.toNat = none := by
  have distinct (q : Port) : a.toNat ≠ (portLetter q).toNat := fun same => other q (BitVec.eq_of_toNat_eq same)
  exact (portOf_eq _).trans ((if_neg (distinct .a)).trans ((if_neg (distinct .b)).trans (if_neg (distinct .c))))

theorem portPayload_idleFrame (p q : Port) (s : State) : portPayload q (s.idleFrame p) = portPayload q s := by
  by_cases same : q = p
  · subst same
    unfold portPayload
    dsimp only
    rw [s.idleFrame_self]
    rfl
  · unfold portPayload
    dsimp only
    rw [PortsKeep.idleFrame_other s same]
    rfl

theorem serveReadPort_eq (p q : Port) (s : State) :
    serveReadPort [portLetter q] (s.idleFrame p) =
      .accept { s.idleFrame p with freeIndex := s.freeIndex + 1 } (portPayload q s) := by
  unfold serveReadPort
  rw [argField_oneByte, portOf_toNat, ← portPayload_idleFrame p q s]
  rfl

end Named

/-- Settles O51: each read by its payload, the reads that name a thing by what they find. -/
theorem readsAnswerAndChangeNothing : Obligations.ReadsAnswerAndChangeNothing := by
  unfold Obligations.ReadsAnswerAndChangeNothing
  refine ⟨fun p s run => ⟨?_, ?_⟩, fun p s run => ⟨?_, ?_⟩, fun p s run => ?_, fun p a b s run => ?_,
    fun p a s run => ⟨fun high => ?_, fun i index => ?_⟩, fun p a s run => ⟨fun other => ?_, fun q letter => ?_⟩,
    fun p a b s run => ⟨fun absent => ?_, fun r found => ⟨fun high => ?_, fun part => ?_, fun part => ?_, fun part => ?_⟩⟩⟩
  · exact exec_read run (n := 0) (args := []) rfl (by decide) rfl rfl
  · refine (exec_read run (n := 0) (args := []) rfl (by decide) rfl rfl).trans ?_
    exact congrArg (fun l => Host.Outcome.next (s.okAt p l)) (disciplinePayload_eq s)
  · refine (exec_read run (n := 0) (args := []) rfl (by decide) rfl rfl).trans ?_
    exact congrArg (fun l => Host.Outcome.next (s.okAt p l)) (firstOutPayload_eq s)
  · refine (exec_read run (n := 0) (args := []) rfl (by decide) rfl rfl).trans ?_
    exact congrArg (fun l => Host.Outcome.next (s.okAt p l)) (annunciationPayload_eq s)
  · refine (exec_read run (n := 0) (args := []) rfl (by decide) rfl rfl).trans ?_
    have code : beBytes 1 s.duty.state.code =
        [match s.duty.state with | .vacant => (0 : Byte) | .onDuty => 1 | .due => 2 | .released => 3] := by
      cases s.duty.state <;> rfl
    have port : optPortByte s.duty.port = [match s.duty.port with | none => (0 : Byte) | some q => portLetter q] := by
      cases s.duty.port <;> rfl
    refine congrArg (fun l => Host.Outcome.next (s.okAt p l)) ((readDutyPayload_eq s).trans ?_)
    rw [code, port]
    rfl
  · have served := serveReadPoints_eq (p := p) (a := a) (s := s) b
    split
    · next high =>
      rw [if_pos high] at served
      exact exec_readRefused run (n := 2) (args := [a, b]) rfl (by decide) rfl served
    · next low =>
      rw [if_neg low] at served
      refine ⟨exec_read run (n := 2) (args := [a, b]) rfl (by decide) rfl (served.trans ?_),
        fun n => ⟨stateVector_getLsbD s n, ?_⟩⟩
      · have range (count : Nat) : s.entryRange a.toNat count =
            ((List.finRange 32).filter fun n => decide (a.toNat ≤ n.val ∧ n.val < a.toNat + count)).flatMap
              fun n => (s.point n).entry.bytes := by
          simp only [State.entryRange, Bool.decide_and]
        rw [range]
        rfl
      · exact chatterStates_digit s n
  · refine exec_readRefused run (n := 1) (args := [a]) rfl (by decide) rfl ?_
    rw [serveReadTally, argField_oneByte, tallyIndex_above high]
  · have served := serveReadTally_eq (p := p) (s := s) i index
    dsimp only
    split
    · next permitted =>
      rw [if_pos permitted] at served
      refine (exec_answered run (n := 1) (args := [a]) rfl (by decide) rfl served rfl).trans ?_
      refine congrArg (fun l => Host.Outcome.next (State.okAt { s with freeIndex := s.freeIndex + 1 } p l))
        ((tallyPayload_eq i s).trans ?_)
      have number : beBytes 1 i.val = [a] := by rw [← index, beBytes_toNat]
      rw [number, flagsByte_eq, stagedBytes_eq]
      generalize s.entry i = x
      rfl
    · next denied =>
      rw [if_neg denied] at served
      exact exec_readRefused run (n := 1) (args := [a]) rfl (by decide) rfl served
  · refine exec_readRefused run (n := 1) (args := [a]) rfl (by decide) rfl ?_
    rw [serveReadPort, argField_oneByte, portOf_none other]
  · subst letter
    refine (exec_answered run (n := 1) (args := [portLetter q]) rfl (by decide) rfl (serveReadPort_eq p q s) rfl).trans ?_
    refine congrArg (fun l => Host.Outcome.next (State.okAt { s with freeIndex := s.freeIndex + 1 } p l)) ?_
    unfold portPayload
    dsimp only
    rw [refusalBytes_eq]
    rfl
  · refine exec_readRefused run (n := 2) (args := [a, b]) rfl (by decide) rfl ?_
    have age : argField [a, b] 0 1 = a.toNat := argField_byte rfl
    have book : (s.idleFrame p).book.records[a.toNat]? = none := absent
    unfold serveReadShiftBook
    dsimp only
    rw [age, book]
  · have served := serveReadShiftBook_found (p := p) (b := b) found
    refine exec_readRefused run (n := 2) (args := [a, b]) rfl (by decide) rfl (served.trans ?_)
    split
    · omega
    · omega
    · omega
    · rfl
  · subst part
    refine (exec_read run (n := 2) (args := [a, 0]) rfl (by decide) rfl (serveReadShiftBook_found found)).trans ?_
    rw [bookCommonBytes, beBytes_toNat]
    rfl
  · subst part
    refine (exec_read run (n := 2) (args := [a, 1]) rfl (by decide) rfl (serveReadShiftBook_found found)).trans ?_
    rw [bookCommonBytes, beBytes_toNat, tallyBytes_eq]
    simp only [tallyBlockBytes_eq]
    rfl
  · subst part
    refine (exec_read run (n := 2) (args := [a, 2]) rfl (by decide) rfl (serveReadShiftBook_found found)).trans ?_
    rw [bookCommonBytes, beBytes_toNat, tallyBytes_eq]
    simp only [tallyBlockBytes_eq]
    rfl

end Sys2Proof.Machine
end

section
/-!
SUPPORT. Rewrites of the time (R6, R7, R11, R28, R45): every point in turn, the debounces moved, the record, the move of the quality,
and the hand-over to the duty unit and to the alarms.
-/

namespace Sys2Proof.Machine

/-! ### Every point -/

/-- An action at every point that makes `g` of each point it acts on, under a condition that it keeps. -/
theorem atAllPoints_point {f : Fin 32 → State → State} {g : Fin 32 → Point → Point} {Q : State → Prop}
    (other : ∀ n s m, m ≠ n → (f n s).point m = s.point m) (kept : ∀ n s, Q s → Q (f n s))
    (own : ∀ n s, Q s → (f n s).point n = g n (s.point n)) {s : State} (h : Q s) (n : Fin 32) :
    (atAllPoints f s).point n = g n (s.point n) := by
  have fold (l : List (Fin 32)) (nodup : l.Nodup) (t : State) (ht : Q t) :
      (l.foldl (fun s n => f n s) t).point n = if n ∈ l then g n (t.point n) else t.point n := by
    induction l generalizing t with
    | nil => simp
    | cons m l ih =>
      obtain ⟨fresh, nodup⟩ := List.nodup_cons.1 nodup
      rw [List.foldl_cons, ih nodup _ (kept m t ht)]
      by_cases e : n = m
      · subst e
        simp [fresh, own n t ht]
      · simp [e, other m t n e]
  rw [atAllPoints, fold _ (List.nodup_finRange 32) s h, if_pos (List.mem_finRange n)]

/-! ### The rewrite -/

/-- A point with its debounce in progress moved (R45). -/
def Point.shifted (x : Point) (amount : Int) : Point :=
  { x with debouncing := x.debouncing.map fun d => { d with start := d.start.addUs amount } }

theorem moveDebounce_point (amount : Int) (n : Fin 32) (s : State) :
    (moveDebounce amount n s).point n = (s.point n).shifted amount := by
  unfold moveDebounce Point.shifted
  split
  · next none =>
    generalize s.point n = x at *
    cases x
    cases none
    rfl
  · next d some =>
    rw [some, State.point_withPoint_self]
    rfl

/-- The instant is replaced and the debounces in progress move; nothing else differs (R6, R45). -/
theorem rewriteTime_spec (date ms : Nat) (s : State) :
    rewriteTime date ms s = { s with
      time := { s.time with date := date, ms := ms, q := 0 }, points := (rewriteTime date ms s).points } ∧
    ∀ n, (rewriteTime date ms s).point n = (s.point n).shifted (s.rewriteAmount date ms) := by
  refine ⟨?_, fun n => ?_⟩
  · refine atAllPoints_keeps (P := fun t => t = { s with
      time := { s.time with date := date, ms := ms, q := 0 }, points := t.points }) (fun n t h => ?_) rfl
    unfold moveDebounce
    split
    · exact h
    · rw [State.withPoint, h]
  · refine atAllPoints_point (f := moveDebounce (s.rewriteAmount date ms))
      (g := fun _ x => x.shifted (s.rewriteAmount date ms)) (Q := fun _ => True) (fun n t m e => ?_) (fun _ _ _ => trivial)
      (fun n t _ => moveDebounce_point _ n t) trivial n
    unfold moveDebounce
    split
    · rfl
    · exact State.point_withPoint_other _ _ e

/-! ### A rewrite, its record and the move of the quality -/

/-- The time is rewritten to an instant and a quality, the debounces moved with it, the duty unit is as given, and the queue is one
given and then records of the tallies; nothing else differs but tallies, notices and lines. -/
structure Rewritten (s t : State) (i : Instant) (new : Quality) (d : DutyUnit) (q : EventQueue) : Prop where
  eq : t = { s with
    time := { s.time with date := i.date, ms := i.ms, q := 0, quality := new }
    points := t.points, queue := t.queue, tally := t.tally, duty := d, ports := t.ports }
  keep : PortsKeep s t
  settings : TalliesKeepSettings s t
  point : ∀ n, t.point n = (s.point n).shifted (i.minus s.now)
  reports : q.Reports t.queue

/-- The queue after the record of a rewrite and, where the quality moves, its QUALITY record (R6, R9). -/
def State.rewriteReport (s : State) (i : Instant) (new : Quality) (body : RecordBody) : EventQueue :=
  let q := s.queue.report i s.time.quality s.burstNumber false body
  if new = s.time.quality then q else q.report i new s.burstNumber false (.quality s.time.quality new)

section Rewrite

variable {s : State} {date ms : Nat} (new : Quality) (body : RecordBody)

/-- The time stands at a whole millisecond. -/
theorem State.now_of_time {t : State} (hdate : t.time.date = date) (hms : t.time.ms = ms) (hq : t.time.q = 0) :
    t.now = ⟨date, ms, 0⟩ := by
  rw [State.now, hdate, hms, hq]
  exact congrArg (Instant.mk date ms) (Nat.zero_div _)

/-- A rewrite with its record, before the quality moves. -/
theorem rewrite_recorded (date ms : Nat) (s : State) (body : RecordBody) :
    let t := produce false body (rewriteTime date ms s)
    t = { s with
      time := { s.time with date := date, ms := ms, q := 0 }
      points := t.points, queue := s.queue.report ⟨date, ms, 0⟩ s.time.quality s.burstNumber false body, ports := t.ports } ∧
    PortsKeep s t ∧ ∀ n, t.point n = (s.point n).shifted (s.rewriteAmount date ms) := by
  obtain ⟨eq, point⟩ := rewriteTime_spec date ms s
  have record := produce_frame false body (rewriteTime date ms s)
  have queue := produce_queue false body (rewriteTime date ms s)
  have keep : PortsKeep s (rewriteTime date ms s) := by rw [eq]; exact .refl s
  generalize rewriteTime date ms s = u at *
  have reported : u.reported false body = s.queue.report ⟨date, ms, 0⟩ s.time.quality s.burstNumber false body := by
    rw [State.reported, State.now_of_time (t := u) (date := date) (ms := ms) (by rw [eq]) (by rw [eq]) (by rw [eq]), State.burstNumber, eq]
    rfl
  have points : (produce false body u).points = u.points := by rw [record.1]
  refine ⟨?_, keep.trans record.2, fun n => ?_⟩
  · rw [points, ← reported, ← queue]
    refine record.1.trans ?_
    rw [eq]
  · rw [State.point, points]
    exact point n

theorem rewrite_moved (run : s.running = true) :
    let t := moveQuality new (produce false body (rewriteTime date ms s))
    Rewritten s t ⟨date, ms, 0⟩ new s.duty (s.rewriteReport ⟨date, ms, 0⟩ new body) ∧
      (new ≠ s.time.quality → RaisedAtAll .quality t) := by
  obtain ⟨eq, keep, point⟩ := rewrite_recorded date ms s body
  generalize produce false body (rewriteTime date ms s) = u at *
  have running : u.running = true := by
    rw [eq]
    exact run
  have quality : u.time.quality = s.time.quality := by rw [eq]
  have moved := moveQuality_eq new u
  have frame := moveQuality_frame new u
  have settings : TalliesKeepSettings s u := fun i => by
    rw [State.entry, eq]
    exact ⟨rfl, rfl⟩
  have points : (moveQuality new u).points = u.points := by rw [moved]
  refine ⟨⟨?_, keep.trans frame.2, settings.trans (SettingsKept.moveQuality new u).settings, fun n => ?_, ?_⟩, fun changed => ?_⟩
  · rw [points]
    refine moved.trans ?_
    rw [eq]
  · rw [State.point, points]
    exact point n
  · unfold State.rewriteReport
    dsimp only
    by_cases same : new = s.time.quality
    · rw [if_pos same, same, ← quality, moveQuality_same, eq]
      exact .refl _
    · have reports := moveQuality_reports (new := new) (s := u) (by rwa [quality]) running
      rw [if_neg same]
      rw [State.qualityReport, State.now_of_time (t := u) (date := date) (ms := ms) (by rw [eq]) (by rw [eq]) (by rw [eq]), State.burstNumber, eq] at reports
      rw [eq]
      exact reports
  · exact moveQuality_raised (by rwa [quality]) running

/-- The duty unit after the first setting of the clock at an instant (R11). -/
def State.handedDuty (s : State) (i : Instant) : DutyUnit :=
  if s.time.quality = .unset then { s.duty with lastServed := (mostRecentSlot s.duty.rota i).map fun x => x.1 } else s.duty

theorem rewrite_set (run : s.running = true) :
    let t := moveQualityBySet new (produce false body (rewriteTime date ms s))
    Rewritten s t ⟨date, ms, 0⟩ new (s.handedDuty ⟨date, ms, 0⟩) (s.rewriteReport ⟨date, ms, 0⟩ new body) ∧
      (new ≠ s.time.quality → RaisedAtAll .quality t) := by
  obtain ⟨eq, -, -⟩ := rewrite_recorded date ms s body
  obtain ⟨moved, raised⟩ := rewrite_moved (date := date) (ms := ms) new body run
  have quality : (produce false body (rewriteTime date ms s)).time.quality = s.time.quality := by rw [eq]
  dsimp only
  unfold moveQualityBySet State.handedDuty
  rw [quality]
  generalize moveQuality new (produce false body (rewriteTime date ms s)) = u at *
  by_cases unset : s.time.quality = .unset
  · rw [if_pos unset, if_pos unset]
    have duty : u.duty = s.duty := by rw [moved.eq]
    refine ⟨⟨?_, moved.keep, moved.settings, moved.point, moved.reports⟩, raised⟩
    rw [handFirstSet, State.now_of_time (t := u) (date := date) (ms := ms) (by rw [moved.eq]) (by rw [moved.eq]) (by rw [moved.eq]), duty, State.withDuty]
    exact congrArg (fun t : State => { t with duty := { s.duty with
      lastServed := (mostRecentSlot s.duty.rota ⟨date, ms, 0⟩).map fun x : Instant × Nat × Slot => x.1 } }) moved.eq
  · rw [if_neg unset, if_neg unset]
    exact ⟨moved, raised⟩

end Rewrite

/-! ### The hand-over of an instant -/

/-- In RUN every alarm is compared at a hand-over (R159). -/
theorem handInstant_alarms {s : State} (run : s.running = true) : AlarmsCompared (handInstant s) := by
  have running : (dutyCheck false s).running = true := (dutyCheck_frame false s).running.trans run
  intro p
  have keep : PortsKeep (dutyCheck false s) (handInstant s) :=
    atAllPorts_keeps (P := PortsKeep (dutyCheck false s))
      (fun q t h => h.trans (evaluateAlarm_frame q t).2) (.refl _)
  have time : (handInstant s).time = (dutyCheck false s).time := by
    rw [handInstant, evaluateAlarms_eq]
  have holds : ((handInstant s).port p).pending.has .alarm = (dutyCheck false s).alarmHolds p :=
    atAllPorts_setNotice (c := fun q t => t.alarmHolds q)
      (fun q r on t => alarmHolds_congr (by rw [(setNotice_spec r .alarm on t).1]) q
        ((PortsKeep.alarm (setNotice_frame r .alarm on t).2 q))) running p
  rw [holds, ← alarmHolds_congr time p (keep.alarm p), State.alarmHolds_eq]
  rfl

theorem handInstant_duty (s : State) : (handInstant s).duty = (dutyCheck false s).duty := by
  rw [handInstant, evaluateAlarms_eq]

/-- What a hand-over makes of the part after a rewrite (R7, R127, R159). -/
theorem Rewritten.handed {s v : State} {i : Instant} {new : Quality} {d : DutyUnit} {q : EventQueue}
    (h : Rewritten s v i new d q) (run : s.running = true) :
    let t := handInstant v
    Rewritten s t i new t.duty q ∧ AlarmsCompared t ∧
      (∀ u : State, u.time = t.time → u.duty = d → u.running = true → t.duty = (dutyCheck false u).duty) ∧
      (RaisedAtAll .quality v → RaisedAtAll .quality t) := by
  have running : v.running = true := by
    rw [h.eq]
    exact run
  have frame := handInstant_frame v
  have points : (handInstant v).points = v.points := by rw [frame.1]
  have kept := (NoticeKept.rules (n := .quality) (by decide) (by decide) (by decide)).handInstant (by decide) (by decide) v
  refine ⟨⟨?_, h.keep.trans frame.2, h.settings.trans (SettingsKept.handInstant v).settings, fun n => ?_,
      h.reports.trans (handInstant_records v).reports⟩, handInstant_alarms running, fun u time duty alike => ?_,
    fun raised p => ?_⟩
  · refine frame.1.trans ?_
    rw [points, h.eq]
  · rw [State.point, points]
    exact h.point n
  · have same : DutyAlike u v :=
      ⟨by rw [time, frame.time], by rw [duty, h.eq], by rw [running, alike]⟩
    rw [handInstant_duty, (same.dutyCheck false).duty]
  · rw [kept.has]
    exact raised p

end Sys2Proof.Machine
end

section
/-!
SUPPORT. The rewrites by SET_TIME IMMEDIATE (R13), by a staged set (R15) and by a step mark (R28), and the claims about them.
-/

namespace Sys2Proof.Machine

theorem Rewritten.frame {s t : State} {i : Instant} {new : Quality} {d : DutyUnit} {q : EventQueue}
    (h : Rewritten s t i new d q) :
    t = { s with
      time := t.time, points := t.points, queue := t.queue, tally := t.tally, duty := t.duty, ports := t.ports } := by
  rw [h.eq]

/-- An answer is no part of the compare of the alarms. -/
theorem AlarmsCompared.respond {t : State} (h : AlarmsCompared t) (p : Port) (r : Response) :
    AlarmsCompared (t.respond p r) := by
  intro q
  have alarm : ((t.respond p r).port q).alarm = (t.port q).alarm := by
    by_cases same : q = p
    · rw [same, t.respond_self]
    · rw [t.respond_other r same]
  rw [State.pending_respond, alarm]
  exact h q

/-! ### SET_TIME IMMEDIATE -/

/-- The queue after a rewrite with no burst open. -/
theorem State.rewriteReport_idle {s : State} (idle : s.trip.burst = none) (i : Instant) (new : Quality) (body : RecordBody) :
    s.rewriteReport i new body =
      if new = s.time.quality then s.queue.report i s.time.quality 0 false body
      else (s.queue.report i s.time.quality 0 false body).report i new 0 false (.quality s.time.quality new) := by
  rw [State.rewriteReport, State.burstNumber, idle]

theorem qualityAfterSet_set {q : Quality} (set : q ≠ .unset) : qualityAfterSet q = q := if_neg set

/-- A SET_TIME IMMEDIATE that passes its checks (R12, R13). -/
theorem exec_setTimeImmediate {p : Port} {date : BitVec 16} {ms : BitVec 32} {s : State} (run : s.running = true)
    (right : (s.port p).rights.time = true) (inDay : ms.toNat < 86400000) (idle : s.trip.burst = none) :
    ∃ t, exec (.setTimeImmediate p date ms) s = .next (t.respond p (.ok (timePayload t))) ∧
      t = handInstant (moveQualityBySet (qualityAfterSet s.time.quality)
        (produce false (.timeSet s.now p .immediate) (rewriteTime date.toNat ms.toNat (s.idleFrame p)))) := by
  have answer : serveSetTime p (setTimeArguments date ms 0) (s.idleFrame p) = setImmediate p date.toNat ms.toNat (s.idleFrame p) :=
    serveSetTime_immediate (by rw [s.rights_idleFrame, right])
  have inDay' : ¬ dayMs ≤ ms.toNat := Nat.not_le.mpr inDay
  have idle' : ¬ (s.idleFrame p).trip.burst.isSome = true := by
    rw [show (s.idleFrame p).trip = s.trip from rfl, idle]
    exact Bool.false_ne_true
  rw [setImmediate, if_neg inDay', if_neg idle'] at answer
  exact ⟨_, congrArg Host.Outcome.next (takeRequest_accepted run (frameArguments_setTimeFrame date ms 0) rfl answer), rfl⟩

/-- Settles O15: the set is a rewrite with its record, the move out of UNSET, and the hand-over of the instant. -/
theorem immediateSetRewritesTheTime : Obligations.ImmediateSetRewritesTheTime := by
  intro p date ms s run right inDay idle
  obtain ⟨t, served, ht⟩ := exec_setTimeImmediate run right inDay idle (date := date)
  obtain ⟨set, told⟩ := rewrite_set (s := s.idleFrame p) (date := date.toNat) (ms := ms.toNat) (qualityAfterSet s.time.quality)
    (.timeSet s.now p .immediate) run
  obtain ⟨handed, alarms, duty, kept⟩ := set.handed run
  rw [State.rewriteReport_idle (s := s.idleFrame p) idle] at handed
  rw [← ht] at handed alarms duty kept
  have time : t.time = { s.time with
      date := date.toNat, ms := ms.toNat, q := 0
      quality := if s.time.quality = .unset then .free else s.time.quality } := by
    rw [handed.eq]
    rfl
  refine ⟨_, served, ?_, .of_keep handed.keep, handed.settings, time, ⟨?_, handed.point⟩, alarms.respond p _, ?_⟩
  · exact (congrArg (State.respond · p _) handed.frame).trans rfl
  · have reports : (if qualityAfterSet s.time.quality = s.time.quality then
          s.queue.report ⟨date.toNat, ms.toNat, 0⟩ s.time.quality 0 false (.timeSet s.now p .immediate)
        else (s.queue.report ⟨date.toNat, ms.toNat, 0⟩ s.time.quality 0 false (.timeSet s.now p .immediate)).report
          ⟨date.toNat, ms.toNat, 0⟩ (qualityAfterSet s.time.quality) 0 false
          (.quality s.time.quality (qualityAfterSet s.time.quality))).Reports t.queue := handed.reports
    by_cases unset : s.time.quality = .unset
    · have changed : qualityAfterSet s.time.quality ≠ s.time.quality := by rw [unset]; decide
      rw [if_neg changed] at reports
      rw [if_pos unset]
      refine ⟨?_, fun q => ?_⟩
      · rw [unset] at reports ⊢
        exact reports
      · rw [State.pending_respond]
        exact kept (told (show qualityAfterSet s.time.quality ≠ (s.idleFrame p).time.quality from changed)) q
    · rw [if_pos (qualityAfterSet_set unset)] at reports
      rw [if_neg unset]
      exact reports
  · exact duty _ rfl rfl run

/-! ### Marks that rewrite the time -/

theorem exec_mark_accepted {s : State} (taken : s.takesMark = true) (accepted : s.acceptsMark = true) :
    exec .mark s = .next (acceptMark s) :=
  congrArg Host.Outcome.next (takeMark_accepted taken accepted)

theorem State.takesMark_running {s : State} (taken : s.takesMark = true) : s.running = true :=
  ((Bool.and_eq_true ..).mp taken).1

/-- The discipline unit once a mark has rewritten the time (R15, R28). -/
def Discipline.rewritten (d : Discipline) (elapsed : Nat) : Discipline :=
  { d with
    lastMarkAt := some elapsed, missingMark := some (elapsed + 1200 * 4096000000000)
    slewTrim := 0, lockCounter := 0, unlockCounter := 0, stepPending := false }

/-- What holds of a part whose time was rewritten at a mark, once the instant has been handed on and the mark noted (R24). -/
theorem Rewritten.marked {s t : State} {i : Instant} {new : Quality} {d : DutyUnit} {q : EventQueue}
    (h : Rewritten s t i new d q) (whole : i.us = 0) :
    setLastMark t = { s with
      time := t.time, discipline := { s.discipline with lastMark := some i }, points := t.points, queue := t.queue
      tally := t.tally, duty := t.duty, ports := t.ports } := by
  have now : t.now = i := by
    obtain ⟨date, ms, us⟩ := i
    obtain rfl : us = 0 := whole
    exact State.now_of_time (by rw [h.eq]) (by rw [h.eq]) (by rw [h.eq])
  rw [setLastMark, now]
  exact (congrArg (fun t : State => t.withDiscipline { t.discipline with lastMark := some i }) h.frame).trans rfl

/-- Settles O20: a staged set is a rewrite of the part whose discipline unit and staged set are reset. -/
theorem acceptedMarkAppliesAStagedSet : Obligations.AcceptedMarkAppliesAStagedSet := by
  intro s x taken accepted staged idle
  have run := State.takesMark_running taken
  obtain ⟨b, hb⟩ : ∃ b : State, b = { s with
      time := { s.time with staged := none }, discipline := s.discipline.rewritten s.elapsed } := ⟨_, rfl⟩
  have served : exec .mark s = .next (setLastMark (handInstant (moveQualityBySet .acquiring
      (produce false (.timeSet s.now x.port .atMark) (rewriteTime x.date x.ms b))))) := by
    rw [exec_mark_accepted taken accepted, acceptMark_staged staged idle, hb]
    rfl
  obtain ⟨set, told⟩ := rewrite_set (s := b) (date := x.date) (ms := x.ms) .acquiring
    (.timeSet s.now x.port .atMark) (by rw [hb]; exact run)
  obtain ⟨handed, alarms, duty, kept⟩ := set.handed (by rw [hb]; exact run)
  rw [State.rewriteReport_idle (by rw [hb]; exact idle)] at handed
  generalize handInstant (moveQualityBySet .acquiring
      (produce false (.timeSet s.now x.port .atMark) (rewriteTime x.date x.ms b))) = t at *
  have marked := handed.marked rfl
  have time : t.time = { s.time with date := x.date, ms := x.ms, q := 0, quality := .acquiring, staged := none } := by
    rw [handed.eq, hb]
  subst hb
  refine ⟨_, served, by rw [marked], handed.keep, handed.settings, time, ?_, handed.point, duty _ rfl rfl run, alarms, ?_⟩
  · rw [marked]
    rfl
  · by_cases same : s.time.quality = .acquiring
    · have reports := handed.reports
      rw [if_pos same.symm] at reports
      rw [if_pos same]
      exact reports
    · have reports := handed.reports
      rw [if_neg (Ne.symm same)] at reports
      rw [if_neg same]
      exact ⟨reports, kept (told (Ne.symm same))⟩

/-! ### A step mark -/

/-- The whole second nearest to an instant (R28). -/
theorem Instant.inRange.addUs_offset {i : Instant} (h : i.inRange) :
    i.addUs (-offsetOf i) =
      if i.ms % 1000 * 1000 + i.us < 500000 then ⟨i.date, i.ms - i.ms % 1000, 0⟩
      else if i.ms - i.ms % 1000 + 1000 < 86400000 then ⟨i.date, i.ms - i.ms % 1000 + 1000, 0⟩
      else if i.date = 65535 then ⟨0, 0, 0⟩ else ⟨i.date + 1, 0, 0⟩ := by
  obtain ⟨date, ms, us⟩ := h
  have moved := Instant.toUs_addUs i (-offsetOf i)
  rw [Instant.toUs_eq i, circleUs_eq] at moved
  refine (Instant.inRange_addUs _ _).eq_of_toUs ?_ (Int.ofNat_inj.mp (moved.trans ?_))
  · split_ifs <;> refine ⟨?_, ?_, ?_⟩ <;> dsimp only <;> omega
  · unfold offsetOf
    dsimp only
    split_ifs <;> rw [Instant.toUs_eq] <;> dsimp only <;> omega

/-- A mark whose step is due and not held back by a burst steps (R27, R28). -/
theorem measureMark_steps {consecutive : Bool} {s : State} {e : Int} (offset : offsetOf s.now = e)
    (due : s.discipline.settings.stepDue e = true) (idle : s.trip.burst = none) :
    measureMark consecutive s = stepMark e (s.withDiscipline { s.discipline with lastOffset := e }) := by
  unfold measureMark
  rw [offset]
  refine (if_pos due).trans (if_neg ?_)
  rw [show (s.withDiscipline { s.discipline with lastOffset := e }).trip = s.trip from rfl, idle]
  exact Bool.false_ne_true

/-- Settles O19: a step is a rewrite to the nearest whole second, of the part whose discipline unit is reset. -/
theorem stepMarkMovesToTheWholeSecond : Obligations.StepMarkMovesToTheWholeSecond := by
  intro s u e taken accepted set unstaged idle date ms q hu he enabled far second new
  have run := State.takesMark_running taken
  have inRange : s.now.inRange := ⟨date, ms, by show s.time.q / 4096000000 < 1000; omega⟩
  have offset : offsetOf s.now = e := by
    rw [he, hu]
    rfl
  have due : s.discipline.settings.stepDue e = true := by
    rw [stepDue_eq, enabled, Bool.true_and, decide_eq_true_eq]
    exact_mod_cast far
  have target : s.now.addUs (-e) = new := by
    have nearest := inRange.addUs_offset
    rw [offset] at nearest
    rw [nearest, show s.now.ms % 1000 * 1000 + s.now.us = u from hu.symm]
    rfl
  have whole : new.us = 0 := by
    unfold new
    split_ifs <;> rfl
  obtain ⟨b, hb⟩ : ∃ b : State, b = { s with
      discipline := { s.discipline.rewritten s.elapsed with lastOffset := e } } := ⟨_, rfl⟩
  have served : exec .mark s = .next (setLastMark (handInstant (moveQuality .acquiring
      (produce false (.timeStep e) (rewriteTime new.date new.ms b))))) := by
    have steps := measureMark_steps (consecutive := s.discipline.missingMark.isSome) (s := restartMarkTimers s) (e := e)
      offset due idle
    rw [exec_mark_accepted taken accepted, acceptMark_unstaged (.inl unstaged), if_neg set, steps, ← target, hb]
    rfl
  obtain ⟨moved, told⟩ := rewrite_moved (s := b) (date := new.date) (ms := new.ms) .acquiring (.timeStep e)
    (by rw [hb]; exact run)
  obtain ⟨handed, alarms, duty, kept⟩ := moved.handed (by rw [hb]; exact run)
  rw [State.rewriteReport_idle (by rw [hb]; exact idle)] at handed
  generalize handInstant (moveQuality .acquiring
      (produce false (.timeStep e) (rewriteTime new.date new.ms b))) = t at *
  have marked := handed.marked rfl
  have time : t.time = { s.time with date := new.date, ms := new.ms, q := 0, quality := .acquiring } := by
    rw [handed.eq, hb]
  have eta : (⟨new.date, new.ms, 0⟩ : Instant) = new := by rw [← whole]
  rw [eta] at handed marked
  subst hb
  refine ⟨_, served, by rw [marked], handed.keep, handed.settings, time, ?_, handed.point, duty _ rfl rfl run, alarms, ?_⟩
  · rw [marked]
    rfl
  · by_cases same : s.time.quality = .acquiring
    · have reports := handed.reports
      rw [if_pos same.symm] at reports
      dsimp only
      rw [if_pos same]
      exact reports
    · have reports := handed.reports
      rw [if_neg (Ne.symm same)] at reports
      dsimp only
      rw [if_neg same]
      exact ⟨reports, kept (told (Ne.symm same))⟩

end Sys2Proof.Machine
end

section
/-!
SUPPORT. A millisecond boundary (R3, R107, R109, R111, R113): the records that each tally gives when it counts one, the hand-over of
the boundary in RUN and in BACKUP, and the claim about MILLISECOND_BOUNDARY.
-/

namespace Sys2Proof.Machine

/-! ### The records of a tally that counts a boundary -/

/-- Due pending that turns on is recorded (R113). -/
theorem evaluateDue_queue_turned (o : Bool) (i : Fin 12) (s : State) :
    (evaluateDue o i s).queue =
      if (s.entry i).duePending = false ∧ ((evaluateDue o i s).entry i).duePending = true then
        s.reported o (.tallyDue i.val ((evaluateDue o i s).entry i).lifetime)
      else s.queue := by
  rw [evaluateDue_queue, evaluateDue_entry]
  refine if_congr ?_ rfl rfl
  show _ ↔ (s.entry i).duePending = false ∧ (s.entry i).dueHolds = true
  rw [Bool.and_eq_true, Bool.not_eq_true', and_comm]

/-- The queue after the records of a tally that counts a boundary of this state. -/
def State.countedQueue (u : State) (i : Fin 12) (q : EventQueue) : EventQueue :=
  let x := u.entry i
  let y := x.counted
  let report := fun (q : EventQueue) body => q.report u.now u.time.quality u.burstNumber false body
  let ran :=
    if x.run = .qualifying ∧ y.run = .running ∧ x.config.recordTransitions = true then report q (.tallyRun i.val) else q
  if x.duePending = false ∧ y.duePending = true then report ran (.tallyDue i.val y.lifetime) else ran

/-- A boundary that a running tally counts. -/
theorem countBoundary_running {i : Fin 12} {s : State} (run : (s.entry i).run = .running) :
    countBoundary i s = evaluateDue false i
      (s.withEntry i { (s.entry i).credit 1 with runLength := addTo lifetimeMax (s.entry i).runLength 1 }) := by
  unfold countBoundary
  simp only [run]

theorem countBoundary_qualifying {i : Fin 12} {s : State} (run : (s.entry i).run = .qualifying) :
    countBoundary i s =
      completeIfQualified i (s.withEntry i { s.entry i with qualifyCount := (s.entry i).qualifyCount + 1 }) := by
  unfold countBoundary
  simp only [run]

theorem completeQualification_queue_turned (i : Fin 12) (s : State) :
    (completeQualification false i s).queue =
      let y := (completeQualification false i s).entry i
      let ran := if (s.entry i).config.recordTransitions then s.reported false (.tallyRun i.val) else s.queue
      if (s.entry i).duePending = false ∧ y.duePending = true then
        ran.report s.now s.time.quality s.burstNumber false (.tallyDue i.val y.lifetime)
      else ran := by
  obtain ⟨x, hx⟩ : ∃ x : Tally, x = { ((s.entry i).countStart.credit (s.entry i).qualifyCount) with
    run := .running, runLength := (s.entry i).qualifyCount, qualifyCount := 0 } := ⟨_, rfl⟩
  have eq : completeQualification false i s = evaluateDue false i
      (if (s.entry i).config.recordTransitions then produce false (.tallyRun i.val) (s.withEntry i x) else s.withEntry i x) := by
    rw [hx]
    rfl
  have frame := produceIf_frame (s.entry i).config.recordTransitions false (.tallyRun i.val) (s.withEntry i x)
  have queue := produceIf_queue (s.entry i).config.recordTransitions false (.tallyRun i.val) (s.withEntry i x)
  rw [eq, evaluateDue_queue_turned]
  generalize (if (s.entry i).config.recordTransitions then produce false (.tallyRun i.val) (s.withEntry i x)
    else s.withEntry i x) = t at *
  have pending : (t.entry i).duePending = (s.entry i).duePending := by
    rw [frame.entry, State.entry_withEntry_self, hx]
    rfl
  have reported (b : RecordBody) : t.reported false b = t.queue.report s.now s.time.quality s.burstNumber false b :=
    (frame.tally.reported false b).trans rfl
  rw [pending, reported, queue]
  rfl

/-- The records of one tally at a boundary (R107, R113). -/
theorem countBoundary_queue {i : Fin 12} {s : State} (unpaused : s.tally.paused = false) :
    (countBoundary i s).queue = s.countedQueue i s.queue := by
  have after := countBoundary_entry i unpaused
  unfold State.countedQueue
  dsimp only
  rw [← after]
  cases run : (s.entry i).run with
  | idle =>
    have still : countBoundary i s = s := by
      unfold countBoundary
      simp only [run]
    rw [still, if_neg (by simp), if_neg (by simp)]
  | running =>
    rw [countBoundary_running run, evaluateDue_queue_turned, State.entry_withEntry_self]
    simp only [reduceCtorEq, false_and, if_false]
    rfl
  | qualifying =>
    rw [countBoundary_qualifying run]
    obtain ⟨x, hx⟩ : ∃ x : Tally, x = { s.entry i with qualifyCount := (s.entry i).qualifyCount + 1 } := ⟨_, rfl⟩
    rw [← hx]
    have entry : (s.withEntry i x).entry i = x := State.entry_withEntry_self ..
    have paused : (s.withEntry i x).tally.paused = false := unpaused
    have config : x.config = (s.entry i).config := by rw [hx]
    have pending : x.duePending = (s.entry i).duePending := by rw [hx]
    unfold completeIfQualified
    rw [entry, paused]
    cases reached : x.qualified with
    | false =>
      have due : ¬ ((s.entry i).duePending = false ∧ x.duePending = true) := by rw [pending]; simp
      have qualifying : x.run = .qualifying := by rw [hx, ← run]
      rw [if_neg (by decide), entry]
      simp only [due, qualifying, reduceCtorEq, false_and, and_false, if_false]
      rfl
    | true =>
      have running : ((completeQualification false i (s.withEntry i x)).entry i).run = .running := by
        rw [completeQualification_entry]
        rfl
      rw [if_pos (by decide), completeQualification_queue_turned, entry, pending, config]
      dsimp only
      rw [running]
      simp only [true_and]
      rfl

/-- The records of every tally that counts a boundary, in ascending order (log entry 28). -/
theorem tallyBoundary_queue {u : State} (unpaused : u.tally.paused = false) :
    (tallyBoundary u).queue = (List.finRange 12).foldl (fun q i => u.countedQueue i q) u.queue := by
  have fold (l : List (Fin 12)) (nodup : l.Nodup) (t : State) (frame : TallyFrame u t) (open_ : t.tally.paused = false)
      (same : ∀ i ∈ l, t.entry i = u.entry i) :
      (l.foldl (fun s i => countBoundary i s) t).queue = l.foldl (fun q i => u.countedQueue i q) t.queue := by
    induction l generalizing t with
    | nil => rfl
    | cons i l ih =>
      obtain ⟨fresh, nodup⟩ := List.nodup_cons.1 nodup
      have only := countBoundary_only i t
      have queue : (countBoundary i t).queue = u.countedQueue i t.queue := by
        rw [countBoundary_queue open_]
        unfold State.countedQueue
        rw [same i (List.mem_cons_self ..), frame.1]
        rfl
      rw [List.foldl_cons, List.foldl_cons, ← queue]
      refine ih nodup _ (frame.trans (countBoundary_frame i t)) (only.paused.trans open_) fun j member => ?_
      have other : j ≠ i := fun e => fresh (e ▸ member)
      rw [only.other j other, same j (List.mem_cons_of_mem _ member)]
  rw [tallyBoundary, unpaused, if_neg Bool.false_ne_true]
  exact fold _ (List.nodup_finRange 12) u (.refl u) unpaused fun _ _ => rfl

/-! ### The hand-over -/

theorem setNotice_backup {s : State} (p : Port) (n : Notice) (on : Bool) (backup : s.running = false) :
    setNotice p n on s = s := by
  unfold setNotice
  rw [backup]
  exact if_neg Bool.false_ne_true

/-- No hand-over of an instant in BACKUP (R123, R159). -/
theorem handInstant_backup {s : State} (backup : s.running = false) : handInstant s = s := by
  rw [handInstant, dutyCheck_backup false backup]
  exact atAllPorts_keeps (P := fun t => t = s)
    (fun p t h => by rw [evaluateAlarm, h]; exact setNotice_backup p .alarm _ backup) rfl

/-- The compare of the alarms moves no other notice. -/
theorem evaluateAlarms_others {m : Notice} (other : m ≠ .alarm) (s : State) : NoticeKept m s (atAllPorts evaluateAlarm s) :=
  atAllPorts_keeps (P := NoticeKept m s) (fun p t h => h.trans (NoticeKept.setNotice other p _ t)) (.refl s)

theorem handInstant_nothing {s : State} (h : NothingFallsDue s) : handInstant s = atAllPorts evaluateAlarm s := by
  rw [handInstant, dutyCheck_nothing false h]

/-! ### The command -/

theorem takeBoundary_waits {s : State} (waits : s.boundaryWaits = true) :
    takeBoundary s = handBoundary { s with boundaryWaits := false } := by
  rw [takeBoundary, if_pos waits]

theorem takeBoundary_taken {s : State} (taken : s.boundaryWaits = false) : takeBoundary s = s := by
  rw [takeBoundary, taken]
  exact if_neg Bool.false_ne_true

theorem exec_millisecondBoundary_here {s : State} (boundary : s.boundaryAt = some s.elapsed) :
    exec .millisecondBoundary s = .next (takeBoundary s) :=
  congrArg (fun t => Host.Outcome.next (takeBoundary t)) (if_pos (s.atBoundary_iff.mpr boundary))

theorem exec_millisecondBoundary_tick {s : State} (elsewhere : s.boundaryAt ≠ some s.elapsed) :
    exec .millisecondBoundary s = .next (takeBoundary (tick s)) :=
  congrArg (fun t => Host.Outcome.next (takeBoundary t)) (if_neg (mt s.atBoundary_iff.mp elsewhere))

end Sys2Proof.Machine
end

section
/-!
SUPPORT. The closing actions and the stages of a return as frames (R58, R59, R120, R121, R181, R183), what the end of a tick leaves of
the boundary (R3), and the claim about MILLISECOND_BOUNDARY.
-/

namespace Sys2Proof.Machine

/-! ### Restore actions -/

/-- Nothing but the points, the tally unit, the queue, the duty unit, the pending notices and the lines differs. -/
def RestoreFrame (s t : State) : Prop :=
  t = { s with points := t.points, tally := t.tally, queue := t.queue, duty := t.duty, ports := t.ports } ∧ PortsKeep s t

namespace RestoreFrame

variable {s t u : State}

theorem refl (s : State) : RestoreFrame s s := ⟨rfl, .refl s⟩

theorem trans (h : RestoreFrame s t) (k : RestoreFrame t u) : RestoreFrame s u := by
  refine ⟨?_, h.2.trans k.2⟩
  rw [k.1, h.1]

theorem of_duty (h : DutyFrame s t) : RestoreFrame s t := by
  refine ⟨?_, h.2⟩
  rw [h.1]

theorem of_tally (h : TallyFrame s t) : RestoreFrame s t := of_duty h.duty

theorem of_notice (h : NoticeFrame s t) : RestoreFrame s t := of_tally h.tally

theorem withPoint (n : Fin 32) (x : Point) (s : State) : RestoreFrame s (s.withPoint n x) := ⟨rfl, .refl s⟩

theorem withTally (x : TallyUnit) (s : State) : RestoreFrame s (s.withTally x) := ⟨rfl, .refl s⟩

section Fields

variable (h : RestoreFrame s t)
include h

theorem time : t.time = s.time := by rw [h.1]

theorem elapsed : t.elapsed = s.elapsed := by rw [h.1]

theorem lines : t.lines = s.lines := by rw [h.1]

theorem trip : t.trip = s.trip := by rw [h.1]

theorem supply : t.supply = s.supply := by rw [h.1]

theorem boundaryWaits : t.boundaryWaits = s.boundaryWaits := by rw [h.1]

theorem running : t.running = s.running := by rw [h.1]; rfl

theorem now : t.now = s.now := by rw [State.now, h.time]; rfl

end Fields

end RestoreFrame

theorem reportRelease_notice (o : Bool) (n : Fin 32) (s : State) : NoticeFrame s (reportRelease o n s) := by
  unfold reportRelease
  split
  · exact produce_frame ..
  · exact .refl s

theorem restorePoint_frame (n : Fin 32) (s : State) : RestoreFrame s (restorePoint n s) := by
  have cleared : RestoreFrame s (setChatter n .clear (reportRelease true n s)) :=
    (RestoreFrame.of_notice (reportRelease_notice ..)).trans (.withPoint ..)
  unfold restorePoint
  dsimp only
  split
  · exact .refl s
  · split
    · exact cleared
    · exact cleared.trans (.withPoint ..)

theorem pointRestore_frame (s : State) : RestoreFrame s (pointRestore s) :=
  atAllPoints_keeps (P := RestoreFrame s) (fun n _ h => h.trans (restorePoint_frame n _)) (.refl s)

theorem tallyRestore_frame (s : State) : RestoreFrame s (tallyRestore s) := by
  have evaluated (t : State) : TallyFrame t (atAllTallies restoreTally t) :=
    atAllTallies_keeps (P := TallyFrame t) (fun i _ h => h.trans (restoreTally_frame i _)) (.refl t)
  have compared (t : State) : TallyFrame t (atAllPorts syncTallyDue t) :=
    atAllPorts_keeps (P := TallyFrame t) (fun p _ h => h.trans (syncTallyDue_frame p _).tally) (.refl t)
  exact (RestoreFrame.withTally ..).trans (.of_tally ((evaluated _).trans (compared _)))

/-- The stages of a return after the ports (R183). -/
def restoreBlocks (cause : PowerCause) (s : State) : State :=
  dutyCheck true (pointRestore (tallyRestore (producePower cause s)))

theorem restoreBlocks_frame (cause : PowerCause) (s : State) : RestoreFrame s (restoreBlocks cause s) :=
  (RestoreFrame.of_notice (produce_frame ..)).trans ((tallyRestore_frame _).trans ((pointRestore_frame _).trans
    (.of_duty (dutyCheck_frame ..))))

theorem returnStages_blocks (cause : PowerCause) (pins : AddressPins) (s : State) :
    returnStages cause pins s = restoreBlocks cause (atAllPorts (returnPort pins) (s.returned pins)) := rfl

theorem returnPorts_keep (pins : AddressPins) (s : State) :
    atAllPorts (returnPort pins) s = { s with ports := (atAllPorts (returnPort pins) s).ports } := rfl

theorem returnStages_boundaryWaits (cause : PowerCause) (pins : AddressPins) (s : State) :
    (returnStages cause pins s).boundaryWaits = s.boundaryWaits := by
  rw [returnStages_blocks, (restoreBlocks_frame ..).boundaryWaits, returnPorts_keep]
  rfl

/-! ### What the end of a tick leaves of the boundary -/

theorem missMark_boundaryWaits (s : State) : (missMark s).boundaryWaits = s.boundaryWaits := by
  rw [missMark_eq, (moveQuality_frame ..).1]
  rfl

theorem timers_boundaryWaits (s : State) : (endHoldover (expireMissingMark s)).boundaryWaits = s.boundaryWaits := by
  have held (t : State) : (endHoldover t).boundaryWaits = t.boundaryWaits := by
    unfold endHoldover
    split
    · rw [(moveQuality_frame ..).1]
    · rfl
  rw [held]
  unfold expireMissingMark
  split
  · rfl
  · split
    · exact missMark_boundaryWaits s
    · rfl

theorem expireQualification_boundaryWaits (pins : AddressPins) (high : Bool) {s : State} (taken : s.boundaryWaits = false) :
    (expireQualification pins high s).boundaryWaits = false := by
  unfold expireQualification
  split
  · exact taken
  · split
    · split
      · exact (returnStages_boundaryWaits ..).trans taken
      · exact (returnStages_boundaryWaits ..).trans rfl
    · exact taken

theorem settlePoint_frame (n : Fin 32) (s : State) : PointFrame s (settlePoint n s) :=
  (expireDebounce_frame n s).trans ((expireWindow_frame n _).trans (expireStability_frame n _))

theorem settleRun_boundaryWaits (s : State) : (settleRun s).boundaryWaits = s.boundaryWaits := by
  have points (t : State) : PointFrame t (atAllPoints settlePoint t) :=
    atAllPoints_keeps (P := PointFrame t) (fun n _ h => h.trans (settlePoint_frame n _)) (.refl t)
  have quiet (t : State) : PointFrame t (expireQuietWait t) := by
    unfold expireQuietWait
    split
    · exact .refl t
    · split
      · exact closeBurst_frame t
      · exact .refl t
  have limit (t : State) : PointFrame t (expireBurstLimit t) := by
    unfold expireBurstLimit
    split
    · exact .refl t
    · split
      · exact closeBurst_frame t
      · exact .refl t
  have gaps (t : State) : (atAllPorts endPulseGap t).boundaryWaits = t.boundaryWaits := rfl
  unfold settleRun
  dsimp only
  rw [gaps, ((points _).trans ((quiet _).trans (limit _))).1]
  exact timers_boundaryWaits s

/-- No boundary waits once the end of a tick has been taken (R3; log entry 5). -/
theorem settle_boundaryWaits (s : State) : (settle s).boundaryWaits = false := by
  have taken : (takeBoundary s).boundaryWaits = false := by rw [(takeBoundary_frame s).1]
  have backup (t : State) (h : t.boundaryWaits = false) : (if t.running then t else settleBackup t).boundaryWaits = false := by
    split
    · exact h
    · exact expireQualification_boundaryWaits _ _ ((timers_boundaryWaits t).trans h)
  have run (t : State) (h : t.boundaryWaits = false) : (if t.running then settleRun t else t).boundaryWaits = false := by
    split
    · exact (settleRun_boundaryWaits t).trans h
    · exact h
  exact run _ (backup _ taken)

/-! ### MILLISECOND_BOUNDARY -/

/-- A tick at which the accumulator does not overflow makes no boundary. -/
theorem tick_boundaryWaits {s u : State} (settled : settle s = u)
    (quiet : u.retentionRuns = false ∨ u.time.q + (1000000000 + u.trim).toNat < 4096000000000) :
    (tick s).boundaryWaits = false := by
  have taken : u.boundaryWaits = false := settled ▸ settle_boundaryWaits s
  cases run : u.retentionRuns with
  | true =>
    rw [tick_running settled run, advanceClock_below (quiet.resolve_left (by rw [run]; decide))]
    exact taken
  | false =>
    rw [tick_still settled run, countUntrimmed]
    split <;> exact taken

/-- What a boundary makes of the tally unit, the queue and the pending notices (R109). -/
theorem tallyBoundary_spec (u : State) :
    let v := tallyBoundary u
    v = { u with tally := v.tally, queue := v.queue, ports := v.ports } ∧ PortsKeep u v ∧
      (u.tally.paused = true → v.tally = u.tally ∧ v.queue = u.queue ∧ v.ports = u.ports) ∧
      (u.tally.paused = false → u.queue.Reports v.queue ∧ v.tally.inputs = u.tally.inputs ∧ v.tally.paused = false ∧
        (∀ i, v.entry i = (u.entry i).counted) ∧
        v.queue = (List.finRange 12).foldl (fun q i => u.countedQueue i q) u.queue) := by
  refine ⟨(tallyBoundary_frame u).1, (tallyBoundary_frame u).2, fun paused => ?_, fun unpaused => ?_⟩
  · rw [tallyBoundary, if_pos paused]
    exact ⟨rfl, rfl, rfl⟩
  · obtain ⟨entry, inputs, open_⟩ := tallyBoundary_tally unpaused
    exact ⟨(tallyBoundary_records u).reports, inputs, open_, entry, tallyBoundary_queue unpaused⟩

/-- What the hand-over of an instant leaves in RUN (R3, R127, R159). -/
theorem handInstant_spec {v : State} (run : v.running = true) :
    let t := handInstant v
    t = { dutyCheck false v with ports := t.ports } ∧ PortsKeep v t ∧ AlarmsCompared t ∧
      (NothingFallsDue v → t = { v with ports := t.ports } ∧
        ∀ q m, m ≠ .alarm → (t.port q).pending.has m = (v.port q).pending.has m) := by
  refine ⟨evaluateAlarms_eq _, (handInstant_frame v).2, handInstant_alarms run, fun nothing => ?_⟩
  rw [handInstant_nothing nothing]
  exact ⟨evaluateAlarms_eq v, fun q m other => (evaluateAlarms_others other v).has q⟩

/-- What a boundary that is taken makes of the part (R3). -/
theorem exec_millisecondBoundary_taken {s u : State}
    (taken : exec .millisecondBoundary s = .next (handBoundary u)) :
    ∃ v t : State, exec .millisecondBoundary s = .next t ∧
      v = { u with tally := v.tally, queue := v.queue, ports := v.ports } ∧ PortsKeep u v ∧
      (u.tally.paused = true → v.tally = u.tally ∧ v.queue = u.queue ∧ v.ports = u.ports) ∧
      (u.tally.paused = false → u.queue.Reports v.queue ∧ v.tally.inputs = u.tally.inputs ∧ v.tally.paused = false ∧
        (∀ i, v.entry i = (u.entry i).counted) ∧
        v.queue = (List.finRange 12).foldl (fun q i => u.countedQueue i q) u.queue) ∧
      (u.running = false → t = v) ∧
      (u.running = true → t = { dutyCheck false v with ports := t.ports } ∧ PortsKeep v t ∧ AlarmsCompared t ∧
        (NothingFallsDue v → t = { v with ports := t.ports } ∧
          ∀ q m, m ≠ .alarm → (t.port q).pending.has m = (v.port q).pending.has m)) := by
  obtain ⟨eq, keep, paused, counted⟩ := tallyBoundary_spec u
  have same := (tallyBoundary_frame u).running
  exact ⟨tallyBoundary u, handBoundary u, taken, eq, keep, paused, counted,
    fun backup => handInstant_backup (same.trans backup), fun run => handInstant_spec (same.trans run)⟩

/-- Settles O13: the boundary that is taken is the one that waits or the one that the tick makes; the tallies count it one by one, and
the duty unit and the ports compare the instant after them. -/
theorem boundaryAdvancesTheClockAndTheTallies : Obligations.BoundaryAdvancesTheClockAndTheTallies := by
  unfold Obligations.BoundaryAdvancesTheClockAndTheTallies
  refine ⟨fun s here taken => ?_, fun s u settled elsewhere quiet => ?_, fun s u made => exec_millisecondBoundary_taken ?_⟩
  · rw [exec_millisecondBoundary_here here, takeBoundary_taken taken]
  · rw [exec_millisecondBoundary_tick elsewhere, takeBoundary_taken (tick_boundaryWaits settled quiet)]
    rfl
  · obtain ⟨here, waits, rfl⟩ | ⟨elsewhere, run, carries, eq⟩ := made
    · rw [exec_millisecondBoundary_here here, takeBoundary_waits waits]
    · have waits : (tick s).boundaryWaits = true := by
        rw [tick_running rfl run, advanceClock_carries carries]
      rw [exec_millisecondBoundary_tick elsewhere, takeBoundary_waits waits, tick_running rfl run,
        advanceClock_carries carries, eq]

end Sys2Proof.Machine
end

section
/-!
SUPPORT. A confirmed change (R44, R46 to R51, R61, R63, R68 to R70, R74): its point, the trip unit, its POINT record and the notice
FIRST_OUT; and the claims about the expiries of a debounce, of a chatter window and of a stability wait.
-/

namespace Sys2Proof.Machine

/-! ### The POINT record -/

/-- The number of the burst in which the POINT record of a change at this tick stands (R61, R63). -/
def State.changeBurst (s : State) : Nat := match (s.trip.onPointRecord s.elapsed).burst with | none => 0 | some b => b.number

theorem producePoint_queue (n : Fin 32) (a : Bool) (c : ChangeCause) (i : Instant) (o : Bool) (s : State) :
    (producePoint n a c i o s).queue = s.queue.report i s.time.quality s.changeBurst o (.point n.val a c) := by
  rw [producePoint, produceAt_queue]
  rfl

/-- In RECORD and TRIP the POINT record is the first that a confirmed change gives (R51). -/
theorem confirmChange_reported {n : Fin 32} {a : Bool} {c : ChangeCause} {i : Instant} {o : Bool} {s : State}
    (mode : (s.point n).entry.mode = .record ∨ (s.point n).entry.mode = .trip) :
    (s.queue.report i s.time.quality s.changeBurst o (.point n.val a c)).Reports (confirmChange n a c i o s).queue := by
  have first := producePoint_queue n a c i o (setActive n a s)
  have same : ((setActive n a s).point n).entry.mode = (s.point n).entry.mode := by simp [setActive]
  have head : s.queue.report i s.time.quality s.changeBurst o (.point n.val a c) =
      (producePoint n a c i o (setActive n a s)).queue := first.symm
  rw [head]
  unfold confirmChange
  dsimp only
  rw [same]
  obtain record | trip := mode
  · simp only [record]
    exact ((handInput_records ..).trans (handInput_records ..)).reports
  · simp only [trip]
    exact ((handInput_records ..).trans ((handInput_records ..).trans (takeTripChange_records ..))).reports

/-! ### The notice FIRST_OUT -/

/-- An activation at an instant raises FIRST_OUT (R68, R69, R157): it latches, or it takes rank 1 while PROVISIONAL. -/
def TripUnit.raisesFirstOut (t : TripUnit) (i : Instant) : Prop :=
  t.latch = .armed ∨ t.latch = .provisional ∧ ∀ e ∈ t.ranked, e.instant.le i = false

/-- An activation takes rank 1: no entry comes before it. -/
def TripUnit.newFirst (t : TripUnit) (i : Instant) : Bool := match t.ranked with | [] => true | h :: _ => !h.instant.le i

/-- In a ranked list the first entry decides whether an activation is before them all. -/
theorem TripUnit.newFirst_iff {t : TripUnit} (ranking : Ranking t.ranked) (i : Instant) :
    t.newFirst i = true ↔ ∀ e ∈ t.ranked, e.instant.le i = false := by
  unfold TripUnit.newFirst
  cases ranked : t.ranked with
  | nil => simp
  | cons h rest =>
    rw [ranked] at ranking
    have ordered : ∀ e ∈ rest, h.instant.le e.instant = true := (List.pairwise_cons.1 ranking).1
    rw [Bool.not_eq_true', List.forall_mem_cons]
    refine ⟨fun before => ⟨before, fun e member => ?_⟩, And.left⟩
    rw [← Bool.not_eq_true]
    exact fun earlier => absurd (Instant.le_trans (ordered e member) earlier) (by simp [before])

theorem NoticeKept.withTrip {n : Notice} (s : State) (x : TripUnit) : NoticeKept n s (s.withTrip x) := ⟨fun _ => rfl⟩

theorem noticeKept_firstOut : PortRules (Notice.firstOut ≠ ·) (NoticeKept .firstOut) :=
  NoticeKept.rules (by decide) (by decide) (by decide)

theorem latchActivation_armed {k : Nat} {i : Instant} {s : State} (armed : s.trip.latch = .armed) :
    latchActivation k i s = handInput inputFirstOut true (raiseAtAll .firstOut (s.withTrip { s.trip with
      latch := .provisional, latchingBurst := s.burstNumber, ranked := [⟨k, i, 0⟩], overflow := 0 })) := by
  unfold latchActivation
  simp only [armed]

theorem latchActivation_provisional {k : Nat} {i : Instant} {s : State} (provisional : s.trip.latch = .provisional) :
    latchActivation k i s =
      if s.trip.newFirst i then raiseAtAll .firstOut (s.withTrip (s.trip.rank k i)) else s.withTrip (s.trip.rank k i) := by
  unfold latchActivation TripUnit.newFirst
  simp only [provisional] <;> rfl

theorem latchActivation_raised {k : Nat} {i : Instant} {s : State} (run : s.running = true) (ranking : Ranking s.trip.ranked)
    (raises : s.trip.raisesFirstOut i) : RaisedAtAll .firstOut (latchActivation k i s) := by
  have raised (x : TripUnit) : RaisedAtAll .firstOut (raiseAtAll .firstOut (s.withTrip x)) :=
    raiseAtAll_raised .firstOut (s.withTrip x) run
  obtain armed | ⟨provisional, before⟩ := raises
  · rw [latchActivation_armed armed]
    exact fun q => ((noticeKept_firstOut.handInput ..).has q).trans (raised _ q)
  · rw [latchActivation_provisional provisional, if_pos ((TripUnit.newFirst_iff ranking i).mpr before)]
    exact raised _

theorem latchActivation_kept {k : Nat} {i : Instant} {s : State} (ranking : Ranking s.trip.ranked)
    (quiet : ¬ s.trip.raisesFirstOut i) : NoticeKept .firstOut s (latchActivation k i s) := by
  cases latch : s.trip.latch with
  | armed => exact absurd (.inl latch) quiet
  | provisional =>
    rw [latchActivation_provisional latch, if_neg fun h => quiet (.inr ⟨latch, (TripUnit.newFirst_iff ranking i).mp h⟩)]
    exact .withTrip ..
  | final =>
    unfold latchActivation
    simp only [latch]
    exact .refl s

section FirstOut

variable {n : Fin 32} {a : Bool} {c : ChangeCause} {i : Instant} {o : Bool} {s : State}

/-- A state that stands where a change of a TRIP point reaches the latch. -/
theorem confirmChange_trip_eq (trip : (s.point n).entry.mode = .trip) :
    confirmChange n a c i o s = takeTripChange n a i (handInput inputBurst true (handInput n.val a
      (producePoint n a c i o (setActive n a s)))) := by
  have same : ((setActive n a s).point n).entry.mode = .trip := by simpa [setActive] using trip
  unfold confirmChange
  simp only [same]

theorem TripUnit.onPointRecord_latch (t : TripUnit) (elapsed : Nat) :
    (t.onPointRecord elapsed).latch = t.latch ∧ (t.onPointRecord elapsed).ranked = t.ranked := by
  unfold TripUnit.onPointRecord
  dsimp only
  split <;> exact ⟨rfl, rfl⟩

theorem confirmChange_raised (run : s.running = true) (trip : (s.point n).entry.mode = .trip)
    (ranking : Ranking s.trip.ranked) (raises : s.trip.raisesFirstOut i) :
    RaisedAtAll .firstOut (confirmChange n true c i o s) := by
  obtain ⟨latch, ranked⟩ := s.trip.onPointRecord_latch s.elapsed
  rw [confirmChange_trip_eq trip]
  refine latchActivation_raised ?_ ?_ ?_
  · refine ((handInput_frame ..).running.trans ((handInput_frame ..).running.trans ?_))
    exact (producePoint_frame n true c i o (setActive n true s)).running.trans run
  · simp only [State.withTrip_trip, handInput_trip, producePoint_trip]
    exact ranked.symm ▸ ranking
  · unfold TripUnit.raisesFirstOut at raises ⊢
    simp only [State.withTrip_trip, handInput_trip, producePoint_trip]
    refine raises.imp (latch.trans ·) (And.imp (latch.trans ·) fun h => ?_)
    exact ranked.symm ▸ h

/-- A change that neither latches nor takes rank 1 leaves FIRST_OUT. -/
theorem confirmChange_kept (ranking : Ranking s.trip.ranked)
    (quiet : ¬ ((s.point n).entry.mode = .trip ∧ a = true ∧ s.trip.raisesFirstOut i)) :
    NoticeKept .firstOut s (confirmChange n a c i o s) := by
  have rules := noticeKept_firstOut
  have active : NoticeKept .firstOut s (setActive n a s) := .of_ports rfl
  obtain ⟨latch, ranked⟩ := s.trip.onPointRecord_latch s.elapsed
  have before : NoticeKept .firstOut s (handInput inputBurst true (handInput n.val a
      (producePoint n a c i o (setActive n a s)))) :=
    active.trans ((rules.producePoint n a c i o _).trans ((rules.handInput ..).trans (rules.handInput ..)))
  by_cases trip : (s.point n).entry.mode = .trip
  · rw [confirmChange_trip_eq trip]
    refine before.trans ?_
    unfold takeTripChange
    cases a with
    | false => exact .withTrip ..
    | true =>
      refine (NoticeKept.withTrip _ _).trans (latchActivation_kept ?_ fun raises => quiet ⟨trip, rfl, ?_⟩)
      · simp only [State.withTrip_trip, handInput_trip, producePoint_trip]
        exact ranked.symm ▸ ranking
      · unfold TripUnit.raisesFirstOut at raises ⊢
        simp only [State.withTrip_trip, handInput_trip, producePoint_trip] at raises
        refine raises.imp (latch.symm.trans ·) (And.imp (latch.symm.trans ·) fun h => ?_)
        exact ranked ▸ h
  · have same : ((setActive n a s).point n).entry.mode = (s.point n).entry.mode := by simp [setActive]
    unfold confirmChange
    dsimp only
    rw [same]
    cases mode : (s.point n).entry.mode with
    | trip => exact absurd mode trip
    | off | status => exact active.trans (rules.handInput ..)
    | record => exact before

end FirstOut

/-! ### A confirmed change of a point -/

/-- A confirmed change of a point that stood as `y`, its record and the trip unit (R50, R51). -/
structure Confirmed (s t : State) (n : Fin 32) (y : Point) (a : Bool) (c : ChangeCause) (i : Instant) (o : Bool) : Prop where
  frame : PointFrame s t
  settings : TalliesKeepSettings s t
  point : t.point n = { y with active := a }
  others : ∀ m, m ≠ n → t.point m = s.point m
  trip : t.trip = s.trip.afterChange s.elapsed y.entry.mode n a i
  reports : s.queue.Reports t.queue
  record : y.entry.mode = .record ∨ y.entry.mode = .trip →
    (s.queue.report i s.time.quality s.changeBurst o (.point n.val a c)).Reports t.queue

theorem confirmChange_confirmed (n : Fin 32) (y : Point) (a : Bool) (c : ChangeCause) (i : Instant) (o : Bool) (s : State) :
    Confirmed s (confirmChange n a c i o (s.withPoint n y)) n y a c i o := by
  have own : (s.withPoint n y).point n = y := s.point_withPoint_self n y
  refine ⟨(PointFrame.withPoint s n y).trans (confirmChange_frame ..),
    ((SettingsKept.withPoint s n y).trans (.confirmChange ..)).settings, ?_, fun m other => ?_, ?_,
    (confirmChange_records ..).reports, fun mode => ?_⟩
  · rw [confirmChange_point, own]
  · rw [(confirmChange_onlyPoint ..).point m other, s.point_withPoint_other y other]
  · rw [confirmChange_trip, own]
    rfl
  · exact confirmChange_reported (s := s.withPoint n y) (by rwa [own])

/-! ### Expiries -/

theorem expireDebounce_backup {n : Fin 32} {s : State} (backup : s.running = false) : expireDebounce n s = s := by
  unfold expireDebounce
  rw [backup]
  split <;> rfl

theorem expireDebounce_late {n : Fin 32} {d : Debounce} {s : State} (run : s.running = true)
    (waits : (s.point n).debouncing = some d) (late : d.expiry ≤ s.elapsed) :
    expireDebounce n s =
      countChange n (!(s.point n).active) (if d.atRestore then .afterRestart else .change) d.start d.atRestore
        (cancelDebounce n s) := by
  have reached : (s.running && s.reached d.expiry) = true := by simp [run, State.reached, late]
  unfold expireDebounce
  rw [waits]
  exact if_pos reached

theorem expireDebounce_early {n : Fin 32} {d : Debounce} {s : State} (waits : (s.point n).debouncing = some d)
    (early : s.elapsed < d.expiry) : expireDebounce n s = s := by
  have waiting : ¬ (s.running && s.reached d.expiry) = true := by simp [State.reached, early]
  unfold expireDebounce
  rw [waits]
  exact if_neg waiting

/-- The chatter states in which a change passes on, and the ones it leaves (R46). -/
def Point.passes (x : Point) (elapsed : Nat) (passed : Chatter) : Prop :=
  (x.entry.chatterLimit = 0 ∧ passed = x.chatter) ∨
    (x.entry.chatterLimit ≠ 0 ∧ x.chatter = .clear ∧
      passed = .counting 1 (elapsed + x.entry.chatterWindow * 1000 * 4096000000000)) ∨
    ∃ k e, x.entry.chatterLimit ≠ 0 ∧ x.chatter = .counting k e ∧ k + 1 ≤ x.entry.chatterLimit ∧ passed = .counting (k + 1) e

theorem countChange_passes {n : Fin 32} {a : Bool} {c : ChangeCause} {i : Instant} {o : Bool} {s : State} {passed : Chatter}
    (passes : (s.point n).passes s.elapsed passed) :
    countChange n a c i o s = confirmChange n a c i o (setChatter n passed s) := by
  unfold countChange
  dsimp only
  obtain ⟨unlimited, rfl⟩ | ⟨limited, clear, rfl⟩ | ⟨k, e, limited, counting, room, rfl⟩ := passes
  · rw [if_pos unlimited, setChatter]
    exact congrArg _ (s.withPoint_point n).symm
  · rw [if_neg limited, clear]
    rfl
  · rw [if_neg limited, counting]
    exact if_pos room

theorem countChange_suppresses {n : Fin 32} {a : Bool} {c : ChangeCause} {i : Instant} {o : Bool} {k e : Nat} {s : State}
    (limited : (s.point n).entry.chatterLimit ≠ 0) (counting : (s.point n).chatter = .counting k e)
    (full : k = (s.point n).entry.chatterLimit) : countChange n a c i o s = suppressPoint n (k + 1) s := by
  have above : ¬ k + 1 ≤ (s.point n).entry.chatterLimit := by omega
  unfold countChange
  dsimp only
  rw [if_neg limited, counting]
  exact if_neg above

/-- The expiry of a debounce confirms a change that passes the chatter count. -/
theorem expireDebounce_passes {n : Fin 32} {d : Debounce} {passed : Chatter} {s : State} (run : s.running = true)
    (waits : (s.point n).debouncing = some d) (late : d.expiry ≤ s.elapsed) (passes : (s.point n).passes s.elapsed passed) :
    expireDebounce n s =
      confirmChange n (!(s.point n).active) (if d.atRestore then .afterRestart else .change) d.start d.atRestore
        (s.withPoint n { s.point n with debouncing := none, chatter := passed }) := by
  have own : (cancelDebounce n s).point n = { s.point n with debouncing := none } := s.point_withPoint_self n _
  rw [expireDebounce_late run waits late, countChange_passes (passed := passed) (by rw [own]; exact passes), setChatter, own,
    cancelDebounce, State.withPoint_withPoint]

/-- Settles O24: the debounce that has come confirms the change of the point that the chatter count leaves. -/
theorem debounceExpiryConfirmsTheChange : Obligations.DebounceExpiryConfirmsTheChange := by
  unfold Obligations.DebounceExpiryConfirmsTheChange
  refine ⟨fun n s backup => congrArg Host.Outcome.next (expireDebounce_backup backup), fun n s d passed => ?_⟩
  intro x run watched waits late passes
  obtain ⟨y, stood⟩ : ∃ y : Point, y = { x with debouncing := none, chatter := passed } := ⟨_, rfl⟩
  have entry : y.entry = x.entry := by rw [stood]
  have own : (s.withPoint n y).point n = y := s.point_withPoint_self n y
  have expires := expireDebounce_passes run waits late passes
  rw [← stood] at expires
  have confirmed := confirmChange_confirmed n y (!x.active) (if d.atRestore then .afterRestart else .change) d.start d.atRestore s
  refine ⟨_, congrArg Host.Outcome.next expires, confirmed.frame.1, confirmed.frame.2, confirmed.settings, ?_, confirmed.others,
    entry ▸ confirmed.trip, fun _ => confirmed.reports, entry ▸ confirmed.record, fun raises ranking => ?_,
    fun quiet ranking q => ?_⟩
  · rw [confirmed.point, stood]
  · obtain ⟨trip, inactive, raises⟩ := raises
    rw [inactive]
    exact confirmChange_raised (s := s.withPoint n y) run (by rw [own, entry, trip]) ranking raises
  · have kept : NoticeKept .firstOut (s.withPoint n y) _ := confirmChange_kept (s := s.withPoint n y) (n := n) (a := !x.active)
      (c := if d.atRestore then .afterRestart else .change) (i := d.start) (o := d.atRestore) ranking fun ⟨trip, active, raises⟩ =>
        quiet ⟨by rw [← entry, ← own]; exact trip, by simpa using active, raises⟩
    exact kept.has q

/-! ### Chatter -/

theorem produce_withPoint (o : Bool) (b : RecordBody) (n : Fin 32) (x : Point) (s : State) :
    (produce o b s).withPoint n x =
      { s with points := s.points.set n.val x n.isLt, queue := s.reported o b, ports := (produce o b s).ports } := by
  have points : (produce o b s).points = s.points := produce_points o b s
  have eq := (produce_frame o b s).1
  rw [produce_queue] at eq
  rw [State.withPoint, points]
  exact congrArg (fun t : State => { t with points := s.points.set n.val x n.isLt }) eq

theorem suppressPoint_eq (n : Fin 32) (k : Nat) (s : State) :
    suppressPoint n k s =
      (produce false (.chatter n.val .suppressed k) s).withPoint n
        { s.point n with chatter := .suppressed 0 (s.elapsed + (s.point n).window) } := by
  have frame := (produce_frame false (.chatter n.val .suppressed k) s).tally
  rw [suppressPoint, setChatter, frame.point_eq, (RestoreFrame.of_tally frame).elapsed]

theorem expireWindow_backup {n : Fin 32} {s : State} (backup : s.running = false) : expireWindow n s = s := by
  unfold expireWindow
  rw [backup]
  split <;> rfl

theorem expireStability_backup {n : Fin 32} {s : State} (backup : s.running = false) : expireStability n s = s := by
  unfold expireStability
  rw [backup]
  split <;> rfl

/-- Settles O25: the change above the limit suppresses the point, and a window that has come clears the count. -/
theorem chatterSuppressesAndClearsThePoint : Obligations.ChatterSuppressesAndClearsThePoint := by
  unfold Obligations.ChatterSuppressesAndClearsThePoint
  refine ⟨fun n s backup => ⟨congrArg Host.Outcome.next (expireDebounce_backup backup),
    congrArg Host.Outcome.next (expireWindow_backup backup)⟩, fun n s d k e => ?_, fun n s k e counting run => ?_⟩
  · intro x run waits counting limited full
    refine ⟨fun early => congrArg Host.Outcome.next (expireDebounce_early waits early), fun late => ?_⟩
    have own : (cancelDebounce n s).point n = { x with debouncing := none } := s.point_withPoint_self n _
    have suppressed := (expireDebounce_late run waits late).trans
      (countChange_suppresses (by rw [own]; exact limited) (by rw [own]; exact counting) (by rw [own]; exact full))
    have points (y : Point) : (cancelDebounce n s).points.set n.val y n.isLt = s.points.set n.val y n.isLt :=
      congrArg State.points (s.withPoint_withPoint n _ y)
    rw [suppressPoint_eq, own, full] at suppressed
    refine ⟨_, congrArg Host.Outcome.next suppressed, (produce_frame ..).2, ?_⟩
    rw [produce_withPoint, points]
    rfl
  · refine ⟨fun early => congrArg Host.Outcome.next ?_, fun late => congrArg Host.Outcome.next ?_⟩ <;>
      unfold expireWindow <;> rw [counting]
    · exact if_neg (by simp [State.reached, early])
    · exact if_pos (by simp [run, State.reached, late])

/-- A release that finds the line at the frozen state gives its record alone (R48). -/
theorem releasePoint_still {n : Fin 32} {k : Nat} {s : State} (same : s.lineActive n = (s.point n).active) :
    releasePoint n k s = (produce false (.chatter n.val .released k) s).withPoint n { s.point n with chatter := .clear } := by
  have frame := (produce_frame false (.chatter n.val .released k) s).tally
  have kept := RestoreFrame.of_tally frame
  have point := frame.point_eq n
  have line : ((produce false (.chatter n.val .released k) s).withPoint n
      { s.point n with chatter := .clear }).lineActive n = s.lineActive n := by
    simp only [State.lineActive, State.point_withPoint_self, State.withPoint_lines, kept.lines]
  rw [releasePoint, setChatter, point]
  dsimp only
  rw [line, State.point_withPoint_self]
  exact if_pos same

/-- A release that finds the line elsewhere confirms a change dated at the release (R48). -/
theorem releasePoint_moved {n : Fin 32} {k : Nat} {s : State} (differs : s.lineActive n ≠ (s.point n).active) :
    releasePoint n k s = confirmChange n (s.lineActive n) .afterChatter s.now false
      ((produce false (.chatter n.val .released k) s).withPoint n { s.point n with chatter := .clear }) := by
  have frame := (produce_frame false (.chatter n.val .released k) s).tally
  have kept := RestoreFrame.of_tally frame
  have point := frame.point_eq n
  have line : ((produce false (.chatter n.val .released k) s).withPoint n
      { s.point n with chatter := .clear }).lineActive n = s.lineActive n := by
    simp only [State.lineActive, State.point_withPoint_self, State.withPoint_lines, kept.lines]
  rw [releasePoint, setChatter, point]
  dsimp only
  rw [line, State.point_withPoint_self, if_neg differs]
  exact congrArg (fun i => confirmChange n _ .afterChatter i false _) kept.now

/-- What a release makes of a point whose line differs, with the record of the release first. -/
theorem releasePoint_confirmed {n : Fin 32} {k : Nat} {s : State} (differs : s.lineActive n ≠ (s.point n).active) :
    Confirmed (produce false (.chatter n.val .released k) s) (releasePoint n k s) n
      { s.point n with chatter := .clear } (s.lineActive n) .afterChatter s.now false := by
  rw [releasePoint_moved differs]
  exact confirmChange_confirmed ..

/-- The facts about a release, over the state before its record. -/
theorem releasePoint_released {n : Fin 32} {k : Nat} {s : State} (differs : s.lineActive n ≠ (s.point n).active) :
    let t := releasePoint n k s
    let released := s.reported false (.chatter n.val .released k)
    t.point n = { s.point n with active := s.lineActive n, chatter := .clear } ∧
      t.trip = s.trip.afterChange s.elapsed (s.point n).entry.mode n (s.lineActive n) s.now ∧ released.Reports t.queue ∧
      ((s.point n).entry.mode = .record ∨ (s.point n).entry.mode = .trip →
        (released.report s.now s.time.quality s.changeBurst false
          (.point n.val (s.lineActive n) .afterChatter)).Reports t.queue) := by
  have frame := (produce_frame false (.chatter n.val .released k) s).tally
  have kept := RestoreFrame.of_tally frame
  have queue := produce_queue false (.chatter n.val .released k) s
  have confirmed := releasePoint_confirmed (k := k) differs
  generalize produce false (.chatter n.val .released k) s = r at *
  have burst : r.changeBurst = s.changeBurst := by rw [State.changeBurst, kept.trip, kept.elapsed, State.changeBurst]
  have record := confirmed.record
  have reports := confirmed.reports
  rw [queue] at reports
  rw [queue, kept.time, burst] at record
  refine ⟨confirmed.point, ?_, reports, record⟩
  rw [confirmed.trip, kept.trip, kept.elapsed]

/-- Settles O26: a stability wait that has come releases the point. -/
theorem stabilityWaitReleasesThePoint : Obligations.StabilityWaitReleasesThePoint := by
  unfold Obligations.StabilityWaitReleasesThePoint
  refine ⟨fun n s backup => congrArg Host.Outcome.next (expireStability_backup backup), fun n s edges e => ?_⟩
  intro x run watched suppressed late released number
  have expires : expireStability n s = releasePoint n edges s := by
    unfold expireStability
    rw [suppressed]
    exact if_pos (by simp [run, State.reached, late])
  refine ⟨fun same => ?_, fun differs => ?_⟩
  · refine ⟨_, congrArg Host.Outcome.next (expires.trans (releasePoint_still same)), (produce_frame ..).2, ?_⟩
    rw [produce_withPoint]
  · have frame := releasePoint_frame n edges s
    obtain ⟨point, trip, reports, record⟩ := releasePoint_released (k := edges) differs
    exact ⟨_, congrArg Host.Outcome.next expires, frame.1, frame.2, (SettingsKept.releasePoint n edges s).settings, point,
      (releasePoint_onlyPoint ..).point, trip, fun _ => reports, record⟩

end Sys2Proof.Machine
end

section
/-!
SUPPORT. The close of a burst (R63 to R65, R71): its record and its notice.
-/

namespace Sys2Proof.Machine

theorem finaliseFirstOut_provisional {s : State} (provisional : s.trip.latch = .provisional) :
    finaliseFirstOut s = raiseAtAll .firstOut
      (produce false (.firstOut (s.trip.firstOut.getD .zero) s.trip.overflow s.trip.ranks)
        (s.withTrip { s.trip with latch := .final })) := by
  rw [finaliseFirstOut, if_pos provisional]
  rfl

/-- The FIRST_OUT record of a PROVISIONAL latch is the first of the close (R65). -/
theorem closeBurst_reported {s : State} {b : Burst} (burst : s.trip.burst = some b) (provisional : s.trip.latch = .provisional) :
    (s.reported false (.firstOut (s.trip.firstOut.getD .zero) s.trip.overflow s.trip.ranks)).Reports (closeBurst s).queue := by
  have head : (finaliseFirstOut s).queue =
      s.reported false (.firstOut (s.trip.firstOut.getD .zero) s.trip.overflow s.trip.ranks) := by
    rw [finaliseFirstOut_provisional provisional, raiseAtAll_queue, produce_queue]
    rfl
  rw [← head]
  unfold closeBurst
  rw [burst]
  exact (handInput_records inputBurst false
    ((finaliseFirstOut s).withTrip { (finaliseFirstOut s).trip with burst := none })).reports

theorem closeBurst_raised {s : State} {b : Burst} (run : s.running = true) (burst : s.trip.burst = some b)
    (provisional : s.trip.latch = .provisional) : RaisedAtAll .firstOut (closeBurst s) := by
  have running : (produce false (.firstOut (s.trip.firstOut.getD .zero) s.trip.overflow s.trip.ranks)
      (s.withTrip { s.trip with latch := .final })).running = true := (produce_frame ..).tally.running.trans run
  have raised : RaisedAtAll .firstOut (finaliseFirstOut s) := by
    rw [finaliseFirstOut_provisional provisional]
    exact raiseAtAll_raised .firstOut _ running
  unfold closeBurst
  rw [burst]
  exact fun q => ((noticeKept_firstOut.handInput inputBurst false
    ((finaliseFirstOut s).withTrip { (finaliseFirstOut s).trip with burst := none })).has q).trans (raised q)

/-- The ranks of a list with a first entry (R71). -/
theorem TripUnit.ranks_cons {t : TripUnit} {first : Ranked} {rest : List Ranked} (ranked : t.ranked = first :: rest) :
    t.firstOut.getD .zero = first.instant ∧
      t.ranks = t.ranked.map fun e => (e.point, rankOffset e.instant first.instant) := by
  have instant : t.firstOut.getD .zero = first.instant := by rw [TripUnit.firstOut, ranked]; rfl
  exact ⟨instant, by rw [TripUnit.ranks, instant]⟩

/-- The close of a burst touches no point (R65). -/
theorem closeBurst_points (s : State) : (closeBurst s).points = s.points := by
  have final : (finaliseFirstOut s).points = s.points := by
    unfold finaliseFirstOut
    split
    · simp
    · rfl
  unfold closeBurst
  split
  · rfl
  · exact (handInput_points ..).trans final

/-- Both waits of a burst close it once they have come, and in RUN alone (R63, R64). -/
theorem exec_burstExpiry {c : Instr} {s : State} {b : Burst} {expiry : Nat} (run : s.running = true)
    (burst : s.trip.burst = some b)
    (waits : c = .quietWaitExpiry ∧ expiry = b.quietExpiry ∨ c = .burstLimitExpiry ∧ expiry = b.limitExpiry) :
    exec c s = .next (if s.elapsed < expiry then s else closeBurst s) := by
  have reached : (s.running && s.reached expiry) = decide (¬ s.elapsed < expiry) := by simp [run, State.reached]
  have closes : (if s.running && s.reached expiry then closeBurst s else s) =
      if s.elapsed < expiry then s else closeBurst s := by
    rw [reached]
    by_cases early : s.elapsed < expiry <;> simp [early]
  obtain ⟨rfl, rfl⟩ | ⟨rfl, rfl⟩ := waits
  · have expire : expireQuietWait s = if s.running && s.reached b.quietExpiry then closeBurst s else s := by
      unfold expireQuietWait
      rw [burst]
    exact congrArg Host.Outcome.next (expire.trans closes)
  · have expire : expireBurstLimit s = if s.running && s.reached b.limitExpiry then closeBurst s else s := by
      unfold expireBurstLimit
      rw [burst]
    exact congrArg Host.Outcome.next (expire.trans closes)

/-- Settles O29: the wait that has come closes the burst. -/
theorem burstExpiryClosesTheBurst : Obligations.BurstExpiryClosesTheBurst := by
  unfold Obligations.BurstExpiryClosesTheBurst
  refine ⟨fun s backup => ⟨congrArg Host.Outcome.next ?_, congrArg Host.Outcome.next ?_⟩, fun c s b expiry run burst waits => ?_⟩
  · unfold expireQuietWait
    rw [backup]
    split <;> rfl
  · unfold expireBurstLimit
    rw [backup]
    split <;> rfl
  · have expires := exec_burstExpiry run burst waits
    refine ⟨fun early => expires.trans (by rw [if_pos early]), fun late => ?_⟩
    rw [if_neg (Nat.not_lt.mpr late)] at expires
    have frame := closeBurst_frame s
    have isOpen : (s.trip.burst.isSome = true ∧ s.trip.latch = .provisional) = (s.trip.latch = .provisional) := by simp [burst]
    have trip := closeBurst_trip s
    simp only [TripUnit.closed, isOpen] at trip
    have points : (closeBurst s).points = s.points := closeBurst_points s
    refine ⟨_, expires, ?_, frame.2, (SettingsKept.closeBurst s).settings, fun _ => (closeBurst_records s).reports,
      fun first rest provisional ranked => ⟨closeBurst_raised run burst provisional, ?_⟩⟩
    · rw [← trip]
      refine frame.1.trans ?_
      rw [points]
    · have reported := closeBurst_reported burst provisional
      obtain ⟨instant, ranks⟩ := TripUnit.ranks_cons ranked
      have number : s.burstNumber = b.number := by rw [State.burstNumber, burst]
      rw [State.reported, instant, ranks, number] at reported
      exact reported

end Sys2Proof.Machine
end

section
/-!
SUPPORT. What an accepted request makes of the part does not look at the frame that has just ended at its port (R169), and nothing but
the supply monitor looks at the RESET line (R185): each operation commutes with such a change.
-/

namespace Sys2Proof.Machine

/-- A change of the ports, of the supply monitor and of the time base that none of these operations looks at. -/
structure Veil where
  ports : PerPort PortUnit → PerPort PortUnit
  supply : SupplyMonitor → SupplyMonitor
  time : TimeBase → TimeBase
  clock : ∀ t, (time t).date = t.date ∧ (time t).ms = t.ms ∧ (time t).q = t.q ∧ (time t).quality = t.quality
  state : ∀ m, (supply m).state = m.state
  notice : ∀ (u : PerPort PortUnit) q elapsed n on,
    (ports u).set q (((ports u).get q).setNotice elapsed n on) = ports (u.set q ((u.get q).setNotice elapsed n on))
  readMask : ∀ (u : PerPort PortUnit) q, ((ports u).get q).readMask = (u.get q).readMask
  alarm : ∀ (u : PerPort PortUnit) q, ((ports u).get q).alarm = (u.get q).alarm

namespace Veil

/-- The state with the change made. -/
def on (v : Veil) (s : State) : State :=
  { s with ports := v.ports s.ports, supply := v.supply s.supply, time := v.time s.time }

theorem set_comm {α : Type} (u : PerPort α) {p q : Port} (other : q ≠ p) (a b : α) :
    (u.set p a).set q b = (u.set q b).set p a := by
  cases p <;> cases q <;> simp [PerPort.set] at other ⊢

theorem setNotice_frame (u : PortUnit) (elapsed : Nat) (n : Notice) (on : Bool) :
    ({ u with frame := none } : PortUnit).setNotice elapsed n on = { u.setNotice elapsed n on with frame := none } := by
  unfold PortUnit.setNotice
  split <;> rfl

/-- The frame of a port becoming idle (R169). -/
def frame (p : Port) : Veil where
  ports u := u.set p { u.get p with frame := none }
  supply m := m
  time t := t
  clock _ := ⟨rfl, rfl, rfl, rfl⟩
  state _ := rfl
  notice u q elapsed n on := by
    by_cases e : q = p
    · subst e
      rw [PerPort.get_set_self, PerPort.get_set_self, setNotice_frame]
      cases q <;> rfl
    · rw [PerPort.get_set_other _ _ e, PerPort.get_set_other _ _ (Ne.symm e), set_comm u e]
  readMask u q := by
    by_cases e : q = p
    · rw [e, PerPort.get_set_self]
    · rw [PerPort.get_set_other _ _ e]
  alarm u q := by
    by_cases e : q = p
    · rw [e, PerPort.get_set_self]
    · rw [PerPort.get_set_other _ _ e]

/-- Recognition of the RESET line disarmed (R185). -/
def reset : Veil where
  ports u := u
  supply m := { m with resetArmed := false, resetHigh := false }
  time t := t
  clock _ := ⟨rfl, rfl, rfl, rfl⟩
  state _ := rfl
  notice _ _ _ _ _ := rfl
  readMask _ _ := rfl
  alarm _ _ := rfl

/-- What was staged discarded (R16). -/
def unstaged : Veil where
  ports u := u
  supply m := m
  time t := { t with staged := none }
  clock _ := ⟨rfl, rfl, rfl, rfl⟩
  state _ := rfl
  notice _ _ _ _ _ := rfl
  readMask _ _ := rfl
  alarm _ _ := rfl

theorem on_frame (p : Port) (s : State) : (frame p).on s = s.idleFrame p := rfl

/-- An operation that commutes with the change. -/
def Commutes (v : Veil) (f : State → State) : Prop := ∀ s, f (v.on s) = v.on (f s)

variable {v : Veil} {s : State}

theorem condition (i : Fin 12) : (v.on s).condition i = s.condition i := rfl

theorem entry (i : Fin 12) : (v.on s).entry i = s.entry i := rfl

theorem point (n : Fin 32) : (v.on s).point n = s.point n := rfl

theorem on_queue : (v.on s).queue = s.queue := rfl

theorem on_quality : (v.on s).time.quality = s.time.quality := (v.clock s.time).2.2.2

theorem on_elapsed : (v.on s).elapsed = s.elapsed := rfl

theorem on_trip : (v.on s).trip = s.trip := rfl

theorem on_tally : (v.on s).tally = s.tally := rfl

theorem on_lines : (v.on s).lines = s.lines := rfl

theorem on_duty : (v.on s).duty = s.duty := rfl

theorem on_now : (v.on s).now = s.now := by
  obtain ⟨date, ms, q, -⟩ := v.clock s.time
  simp only [State.now, on, date, ms, q]

theorem running : (v.on s).running = s.running := by
  rw [State.running, State.running, on, v.state]

theorem withTally (x : TallyUnit) : (v.on s).withTally x = v.on (s.withTally x) := rfl

theorem withEntry (i : Fin 12) (x : Tally) : (v.on s).withEntry i x = v.on (s.withEntry i x) := rfl

theorem withQueue (x : EventQueue) : (v.on s).withQueue x = v.on (s.withQueue x) := rfl

theorem withTrip (x : TripUnit) : (v.on s).withTrip x = v.on (s.withTrip x) := rfl

theorem withPoint (n : Fin 32) (x : Point) : (v.on s).withPoint n x = v.on (s.withPoint n x) := rfl

theorem withDuty (d : DutyUnit) : (v.on s).withDuty d = v.on (s.withDuty d) := rfl

theorem withHandover (h : HandoverFields) : (v.on s).withHandover h = v.on (s.withHandover h) := rfl

theorem setNotice (q : Port) (n : Notice) (on : Bool) : setNotice q n on (v.on s) = v.on (setNotice q n on s) := by
  unfold Machine.setNotice
  rw [running]
  split
  · exact congrArg (fun u : PerPort PortUnit => ({ s with ports := u, supply := v.supply s.supply, time := v.time s.time } : State))
      (v.notice s.ports q s.elapsed n on)
  · rfl

theorem allPorts {f : Port → State → State} (h : ∀ q, Commutes v (f q)) : Commutes v (atAllPorts f) := fun s => by
  unfold atAllPorts
  rw [h .a, h .b, h .c]

theorem fold {ι : Type} {f : ι → State → State} (h : ∀ i, Commutes v (f i)) (l : List ι) :
    Commutes v (fun s => l.foldl (fun s i => f i s) s) := by
  induction l with
  | nil => exact fun s => rfl
  | cons i l ih =>
    intro s
    have head := ih (f i s)
    dsimp only at head ⊢
    rw [List.foldl_cons, List.foldl_cons, h i, head]

theorem allTallies {f : Fin 12 → State → State} (h : ∀ i, Commutes v (f i)) : Commutes v (atAllTallies f) := fold h _

theorem allPoints {f : Fin 32 → State → State} (h : ∀ n, Commutes v (f n)) : Commutes v (atAllPoints f) := fold h _

theorem raiseAtAll (n : Notice) : Commutes v (raiseAtAll n) := allPorts fun _ _ => setNotice ..

theorem syncEvents (q : Port) : Commutes v (syncEvents q) := fun _ => setNotice ..

theorem loseAt (q : Port) (k : Nat) : Commutes v (loseAt q k) := fun s => by
  unfold Machine.loseAt
  rw [on_queue, withQueue, setNotice]

theorem discardAt (q : Port) : Commutes v (discardAt q) := fun s => by
  unfold Machine.discardAt
  rw [on_queue, withQueue]
  split
  · exact setNotice ..
  · rfl

theorem enterRecord (r : Record) : Commutes v (enterRecord r) := fun s => by
  unfold Machine.enterRecord
  rw [on_queue, withQueue, allPorts syncEvents]

theorem loseRemoved (h : Held) (q : Port) : Commutes v (loseRemoved h q) := fun s => by
  unfold Machine.loseRemoved
  split
  · rfl
  · rw [loseAt, syncEvents]

theorem removeOldest : Commutes v removeOldest := fun s => by
  unfold Machine.removeOldest
  rw [on_queue]
  split
  · rfl
  · rw [withQueue, allPorts (loseRemoved _)]

theorem storeRecord (r : Record) : Commutes v (storeRecord r) := fun s => by
  unfold Machine.storeRecord
  rw [on_queue]
  split
  · split
    · exact enterRecord r s
    · split
      · exact allPorts discardAt s
      · rw [removeOldest, enterRecord]
  · rfl

theorem produceAt (i : Instant) (o : Bool) (b : RecordBody) : Commutes v (produceAt i o b) := fun s => by
  have burst : (v.on s).burstNumber = s.burstNumber := rfl
  unfold Machine.produceAt
  rw [on_queue, on_quality, burst, withQueue, storeRecord]

theorem produce (o : Bool) (b : RecordBody) : Commutes v (produce o b) := fun s => by
  unfold Machine.produce
  rw [on_now, produceAt]

/-! ### The tally unit -/

theorem syncTallyDue (q : Port) : Commutes v (syncTallyDue q) := fun s => by
  have mask : ((v.on s).port q).readMask = (s.port q).readMask := v.readMask s.ports q
  unfold Machine.syncTallyDue
  rw [mask]
  exact setNotice ..

theorem evaluateDue (o : Bool) (i : Fin 12) : Commutes v (evaluateDue o i) := fun s => by
  unfold Machine.evaluateDue
  dsimp only
  rw [entry]
  split
  · rfl
  · rw [withEntry]
    split
    · rw [produce, allPorts syncTallyDue]
    · rw [allPorts syncTallyDue]

theorem applyPreset (o : Bool) (i : Fin 12) (x : StagedPreset) : Commutes v (applyPreset o i x) := fun s => by
  unfold Machine.applyPreset
  dsimp only
  rw [entry, withEntry, produce, evaluateDue, entry, withEntry]

theorem completeQualification (o : Bool) (i : Fin 12) : Commutes v (completeQualification o i) := fun s => by
  unfold Machine.completeQualification
  dsimp only
  rw [entry, withEntry]
  split
  · rw [produce, evaluateDue]
  · rw [evaluateDue]

theorem enterQualifying (o : Bool) (i : Fin 12) : Commutes v (enterQualifying o i) := fun s => by
  unfold Machine.enterQualifying
  dsimp only
  rw [entry, withEntry]
  split
  · rw [completeQualification]
  · rfl

theorem applyStagedPreset (o : Bool) (i : Fin 12) : Commutes v (applyStagedPreset o i) := fun s => by
  unfold Machine.applyStagedPreset
  rw [entry]
  split
  · rfl
  · exact applyPreset ..

theorem endRun (o : Bool) (i : Fin 12) : Commutes v (endRun o i) := fun s => by
  unfold Machine.endRun
  dsimp only
  rw [entry]
  split
  · rw [produce, applyStagedPreset, entry, withEntry]
  · rw [applyStagedPreset, entry, withEntry]

theorem evaluateTally (o : Bool) (i : Fin 12) : Commutes v (evaluateTally o i) := fun s => by
  unfold Machine.evaluateTally
  rw [entry, condition]
  split
  · exact enterQualifying ..
  · rfl
  · exact endRun ..
  · rfl

theorem handInput (k : Nat) (b : Bool) : Commutes v (handInput k b) := fun s => by
  unfold Machine.handInput
  rw [on_tally]
  split
  · rfl
  · rw [withTally, allTallies (evaluateTally false)]

/-! ### The point unit -/

theorem producePoint (n : Fin 32) (a : Bool) (c : ChangeCause) (i : Instant) (o : Bool) : Commutes v (producePoint n a c i o) :=
  fun s => by
  unfold Machine.producePoint
  rw [on_trip, on_elapsed, withTrip, produceAt]

theorem latchActivation (n : Nat) (i : Instant) : Commutes v (latchActivation n i) := fun s => by
  unfold Machine.latchActivation
  have burst : (v.on s).burstNumber = s.burstNumber := rfl
  rw [on_trip]
  split
  · dsimp only
    rw [burst, withTrip, raiseAtAll, handInput]
  · dsimp only
    rw [withTrip]
    split <;> split
    · rw [raiseAtAll]
    · rfl
    · rw [raiseAtAll]
    · rfl
  · rfl

theorem takeTripChange (n : Fin 32) (a : Bool) (i : Instant) : Commutes v (takeTripChange n a i) := fun s => by
  unfold Machine.takeTripChange
  dsimp only
  rw [on_trip]
  split
  · rw [withTrip, latchActivation]
  · rfl

theorem confirmChange (n : Fin 32) (a : Bool) (c : ChangeCause) (i : Instant) (o : Bool) :
    Commutes v (confirmChange n a c i o) := fun s => by
  have active : setActive n a (v.on s) = v.on (setActive n a s) := rfl
  unfold Machine.confirmChange
  dsimp only
  rw [active, point]
  split
  · exact handInput ..
  · exact handInput ..
  · rw [producePoint, handInput, handInput]
  · rw [producePoint, handInput, handInput, takeTripChange]

theorem setChatter (n : Fin 32) (c : Chatter) : Commutes v (setChatter n c) := fun _ => rfl

theorem releasePoint (n : Fin 32) (k : Nat) : Commutes v (releasePoint n k) := fun s => by
  have line (t : State) : (v.on t).lineActive n = t.lineActive n := rfl
  unfold Machine.releasePoint
  dsimp only
  rw [produce, setChatter, line, point, on_now]
  split
  · rfl
  · exact confirmChange ..

theorem reportRelease (o : Bool) (n : Fin 32) : Commutes v (reportRelease o n) := fun s => by
  unfold Machine.reportRelease
  rw [point]
  split
  · exact produce ..
  · rfl

theorem takeFresh (n : Fin 32) (e : PointEntry) : Commutes v (takeFresh n e) := fun s => by
  unfold Machine.takeFresh
  dsimp only
  rw [reportRelease, on_lines, withPoint, handInput]

theorem takeEdge (n : Fin 32) : Commutes v (takeEdge n) := fun s => by
  rw [takeEdge_eq, takeEdge_eq, on_now]
  rfl

theorem invertLine (n : Fin 32) : Commutes v (invertLine n) := fun s => by
  have cancelled : cancelDebounce n (v.on s) = v.on (cancelDebounce n s) := rfl
  unfold Machine.invertLine
  rw [point]
  split
  · rfl
  · rw [cancelled, takeEdge]

theorem stopChatter (n : Fin 32) : Commutes v (stopChatter n) := fun s => by
  unfold Machine.stopChatter
  rw [point]
  split
  · rfl
  · rfl
  · exact releasePoint ..

theorem applySettings (n : Fin 32) (e : PointEntry) : Commutes v (applySettings n e) := fun s => by
  have inverted (c : Prop) [Decidable c] (t : State) :
      (if c then v.on t else Machine.invertLine n (v.on t)) = v.on (if c then t else Machine.invertLine n t) := by
    rw [invertLine]
    exact (apply_ite v.on c t (Machine.invertLine n t)).symm
  unfold Machine.applySettings
  dsimp only
  rw [point, withPoint, inverted]
  split
  · exact stopChatter ..
  · rfl

/-- An entry is written whatever stands in the frame of a port. -/
theorem writeEntry (n : Fin 32) (e : PointEntry) : Commutes v (writeEntry n e) := fun s => by
  unfold Machine.writeEntry
  rw [point]
  split
  · exact applySettings ..
  · exact takeFresh ..

/-! ### A boundary -/

theorem completeIfQualified (i : Fin 12) : Commutes v (completeIfQualified i) := fun s => by
  unfold Machine.completeIfQualified
  rw [entry, on_tally]
  split
  · exact completeQualification ..
  · rfl

theorem countBoundary (i : Fin 12) : Commutes v (countBoundary i) := fun s => by
  unfold Machine.countBoundary
  dsimp only
  rw [entry]
  split
  · rfl
  · rw [withEntry, completeIfQualified]
  · rw [withEntry, evaluateDue]

theorem tallyBoundary : Commutes v tallyBoundary := fun s => by
  unfold Machine.tallyBoundary
  rw [on_tally]
  split
  · rfl
  · exact allTallies countBoundary s

theorem produceHandover (o : Bool) (phase : HandoverPhase) (x y : Nat) (k : Option Nat) (r z : Nat) :
    Commutes v (produceHandover o phase x y k r z) := fun s => by
  unfold Machine.produceHandover
  rw [produce, raiseAtAll]

theorem reportHandover (o : Bool) (phase : HandoverPhase) (n : Nat) : Commutes v (reportHandover o phase n) :=
  fun s => produceHandover o phase s.duty.crew s.duty.handover.expected s.duty.handover.slot s.duty.handover.reoffers n s

theorem applyRota (o : Bool) : Commutes v (applyRota o) := fun s => by
  unfold Machine.applyRota
  rw [on_duty]
  split
  · rfl
  · rw [on_now, withDuty, produce]

theorem handDutyHeld : Commutes v handDutyHeld := fun s => handInput inputDuty (s.duty.state != .vacant) s

theorem expireRelease (o : Bool) : Commutes v (expireRelease o) := fun s => by
  unfold Machine.expireRelease
  rw [on_duty, on_now]
  split
  · split
    · rw [withHandover, reportHandover]
    · rfl
  · rfl

theorem reoffer (o : Bool) : Commutes v (reoffer o) := fun s => by
  unfold Machine.reoffer
  rw [on_duty, on_now, withHandover, reportHandover]

theorem lapse (o : Bool) : Commutes v (lapse o) := fun s => by
  unfold Machine.lapse
  rw [on_duty]
  dsimp only
  split
  · rw [produceHandover, on_duty, withDuty]
  · split
    · rw [produceHandover, on_duty, withDuty, applyRota, handDutyHeld]
    · rw [produceHandover, on_duty, withDuty]

theorem expireAccept (o : Bool) : Commutes v (expireAccept o) := fun s => by
  unfold Machine.expireAccept
  rw [on_duty, on_now]
  split
  · split
    · split
      · exact reoffer o s
      · exact lapse o s
    · rfl
  · rfl

theorem slotFalls (o : Bool) (due : Instant) (k : Nat) (x : Slot) (n : Nat) : Commutes v (slotFalls o due k x n) := fun s => by
  unfold Machine.slotFalls
  rw [on_duty, withDuty]
  dsimp only
  rw [on_duty]
  split
  · rfl
  · rw [withDuty, reportHandover]
    split
    · rfl
    · rw [reportHandover]
  · rw [withHandover, reportHandover]
  · rw [withHandover, reportHandover]

theorem checkSlots (o : Bool) : Commutes v (checkSlots o) := fun s => by
  unfold Machine.checkSlots
  rw [on_duty, on_now]
  split
  · rfl
  · split
    · rw [withDuty]
    · split
      · exact slotFalls ..
      · rfl

theorem dutyCheck (o : Bool) : Commutes v (dutyCheck o) := fun s => by
  unfold Machine.dutyCheck
  rw [running, expireRelease, expireAccept]
  dsimp only
  rw [on_quality]
  split
  · split
    · rfl
    · rw [checkSlots, expireRelease]
  · rfl

theorem evaluateAlarm (q : Port) : Commutes v (evaluateAlarm q) := fun s => by
  have alarm : ((v.on s).port q).alarm = (s.port q).alarm := v.alarm s.ports q
  have holds : (v.on s).alarmHolds q = s.alarmHolds q := by
    rw [State.alarmHolds_eq, State.alarmHolds_eq, on_quality, on_now, alarm]
  unfold Machine.evaluateAlarm
  rw [holds, setNotice]

theorem handBoundary : Commutes v handBoundary := fun s => by
  unfold Machine.handBoundary Machine.handInstant
  rw [tallyBoundary, dutyCheck, allPorts evaluateAlarm]

/-- A boundary that waits is taken in the same way under the change. -/
theorem takeBoundary : Commutes v takeBoundary := fun s => by
  have taken : ({ v.on s with boundaryWaits := false } : State) = v.on { s with boundaryWaits := false } := rfl
  have waits : (v.on s).boundaryWaits = s.boundaryWaits := rfl
  unfold Machine.takeBoundary
  rw [waits]
  split
  · rw [taken, handBoundary]
  · rfl

end Veil

end Sys2Proof.Machine
end

section
/-!
SUPPORT. An entry written to a point (R42, R48, R52 to R56): what it makes of the point, and the claims about SET_POINT and SET_POINTS.
-/

namespace Sys2Proof.Machine

/-! ### An entry that leaves the mode -/

/-- A new polarity acts on its point (R56): in OFF it has no effect beyond the stored field. -/
def Point.inverts (x : Point) (e : PointEntry) : Bool := decide (e.polarity ≠ x.entry.polarity ∧ e.mode ≠ .off)

/-- A point with an entry stored and the polarity acted on, before the chatter limit acts (R56; log entry 18). -/
def Point.stored (x : Point) (e : PointEntry) (level : Bool) (now : Instant) (elapsed : Nat) : Point :=
  if x.inverts e then ({ x with entry := e, debouncing := none } : Point).edged level now elapsed else { x with entry := e }

theorem Point.stored_suppressed {x : Point} {edges w : Nat} (h : x.chatter = .suppressed edges w) (e : PointEntry) (level : Bool)
    (now : Instant) (elapsed : Nat) :
    x.stored e level now elapsed = { x with
      entry := e
      debouncing := if x.inverts e then none else x.debouncing
      chatter := if x.inverts e then
          .suppressed (if edges < 65535 then edges + 1 else 65535) (elapsed + e.chatterWindow * 1000 * 4096000000000)
        else .suppressed edges w } := by
  unfold Point.stored
  cases x.inverts e with
  | true => simp [Point.edged, h]
  | false => simp [← h]

theorem Point.stored_unsuppressed {x : Point} (h : ∀ edges w, x.chatter ≠ .suppressed edges w) (e : PointEntry) (level : Bool)
    (now : Instant) (elapsed : Nat) :
    x.stored e level now elapsed = { x with
      entry := e
      debouncing := if x.inverts e then
          if level = x.active then none else some ⟨now, elapsed + e.debounce * 4096000000000, false⟩
        else x.debouncing } := by
  unfold Point.stored
  cases x.inverts e with
  | false => rfl
  | true =>
    rw [if_pos rfl, Point.edged_unsuppressed (x := { x with entry := e, debouncing := none }) h]
    by_cases same : level = x.active <;> simp [same]

/-- An entry with a chatter limit of its own is stored, and its polarity acts. -/
theorem Point.written_limited {x : Point} {e : PointEntry} (mode : e.mode = x.entry.mode) (limited : e.chatterLimit ≠ 0)
    (high : Bool) (now : Instant) (elapsed : Nat) :
    x.written e high now elapsed = x.stored e (e.polarity.level high) now elapsed := by
  cases chatter : x.chatter with
  | suppressed edges w =>
    rw [Point.stored_suppressed chatter]
    simp [Point.written, Point.inverts, mode, limited, chatter]
  | clear =>
    rw [Point.stored_unsuppressed (by simp [chatter])]
    cases polarity : e.polarity <;>
      simp [Point.written, Point.inverts, mode, limited, chatter, Polarity.level, polarity] <;> congr
  | counting k w =>
    rw [Point.stored_unsuppressed (by simp [chatter])]
    cases polarity : e.polarity <;>
      simp [Point.written, Point.inverts, mode, limited, chatter, Polarity.level, polarity] <;> congr

/-- A chatter limit of 0 clears the chatter state of a point that is not suppressed. -/
theorem Point.written_cleared {x : Point} {e : PointEntry} (mode : e.mode = x.entry.mode) (unlimited : e.chatterLimit = 0)
    (awake : ∀ edges w, x.chatter ≠ .suppressed edges w) (high : Bool) (now : Instant) (elapsed : Nat) :
    x.written e high now elapsed = { x.stored e (e.polarity.level high) now elapsed with chatter := .clear } := by
  rw [Point.stored_unsuppressed awake]
  cases chatter : x.chatter with
  | suppressed edges w => exact absurd chatter (awake edges w)
  | clear =>
    cases polarity : e.polarity <;>
      simp [Point.written, Point.inverts, mode, unlimited, chatter, Polarity.level, polarity] <;> congr
  | counting k w =>
    cases polarity : e.polarity <;>
      simp [Point.written, Point.inverts, mode, unlimited, chatter, Polarity.level, polarity] <;> congr

/-- A chatter limit of 0 releases a suppressed point, which takes its line's level. -/
theorem Point.written_released {x : Point} {e : PointEntry} (mode : e.mode = x.entry.mode) (unlimited : e.chatterLimit = 0)
    {edges w : Nat} (suppressed : x.chatter = .suppressed edges w) (high : Bool) (now : Instant) (elapsed : Nat) :
    x.written e high now elapsed = { x.stored e (e.polarity.level high) now elapsed with
      active := e.polarity.level high, chatter := .clear } := by
  rw [Point.stored_suppressed suppressed]
  cases polarity : e.polarity <;> simp [Point.written, Point.inverts, mode, unlimited, suppressed, Polarity.level, polarity]

section Apply

variable {n : Fin 32} {e : PointEntry} {s : State}

/-- The point as the polarity leaves it, before the chatter limit acts. -/
def State.storedPoint (s : State) (n : Fin 32) (e : PointEntry) : Point :=
  (s.point n).stored e (e.polarity.level (s.lines.getLsbD n.val)) s.now s.elapsed

/-- A new polarity of a watched point acts as an edge taken now, its debounce cancelled (R56). -/
theorem invertLine_withPoint (x : Point) : invertLine n (s.withPoint n x) =
    s.withPoint n (if x.entry.mode = .off then x
      else ({ x with debouncing := none } : Point).edged (x.entry.polarity.level (s.lines.getLsbD n.val)) s.now s.elapsed) := by
  have own (y : Point) : (s.withPoint n y).point n = y := s.point_withPoint_self n y
  have line (y : Point) : (s.withPoint n y).lineActive n = y.entry.polarity.level (s.lines.getLsbD n.val) := by
    rw [State.lineActive, own]
    rfl
  rw [invertLine, own]
  split
  · rfl
  · rw [cancelDebounce, own, State.withPoint_withPoint, takeEdge_eq, own, line, State.withPoint_withPoint]
    rfl

theorem applySettings_eq :
    applySettings n e s =
      if e.chatterLimit = 0 then stopChatter n (s.withPoint n (s.storedPoint n e)) else s.withPoint n (s.storedPoint n e) := by
  have acted : (if e.polarity = (s.point n).entry.polarity then s.withPoint n { s.point n with entry := e }
      else invertLine n (s.withPoint n { s.point n with entry := e })) = s.withPoint n (s.storedPoint n e) := by
    rw [invertLine_withPoint]
    unfold State.storedPoint Point.stored Point.inverts
    by_cases polarity : e.polarity = (s.point n).entry.polarity
    · simp [polarity]
    · by_cases off : e.mode = .off <;> simp [polarity, off]
  unfold applySettings
  dsimp only
  rw [acted]

theorem State.storedPoint_lineActive : (s.withPoint n (s.storedPoint n e)).lineActive n =
    e.polarity.level (s.lines.getLsbD n.val) := by
  have entry : (s.storedPoint n e).entry = e := by
    unfold State.storedPoint Point.stored Point.edged
    repeat' split
    all_goals rfl
  rw [State.lineActive, State.point_withPoint_self, entry]
  rfl

end Apply

/-! ### An entry written -/

section Write

variable {n : Fin 32} {e : PointEntry} {s : State}

/-- The point after an entry is written to it (R55, R56). -/
def State.writtenPoint (s : State) (n : Fin 32) (e : PointEntry) : Point :=
  (s.point n).written e (s.lines.getLsbD n.val) s.now s.elapsed

theorem writeEntry_same (mode : e.mode = (s.point n).entry.mode) : writeEntry n e s = applySettings n e s := if_pos mode

theorem writeEntry_fresh (mode : e.mode ≠ (s.point n).entry.mode) : writeEntry n e s = takeFresh n e s := if_neg mode

/-- Where no release comes of it, an entry that leaves the mode writes its point and nothing else. -/
theorem writeEntry_quiet (mode : e.mode = (s.point n).entry.mode)
    (quiet : e.chatterLimit ≠ 0 ∨ ∀ edges w, (s.point n).chatter ≠ .suppressed edges w) :
    writeEntry n e s = s.withPoint n (s.writtenPoint n e) := by
  rw [writeEntry_same mode, applySettings_eq]
  by_cases limit : e.chatterLimit = 0
  · have awake := quiet.resolve_left (fun h => h limit)
    have kept : (s.storedPoint n e).chatter = (s.point n).chatter := by
      rw [State.storedPoint, Point.stored_unsuppressed awake]
    rw [if_pos limit, State.writtenPoint, Point.written_cleared mode limit awake, stopChatter, State.point_withPoint_self, kept]
    cases chatter : (s.point n).chatter with
    | suppressed edges w => exact absurd chatter (awake edges w)
    | clear =>
      have still : { s.storedPoint n e with chatter := .clear } = s.storedPoint n e := by rw [← chatter, ← kept]
      exact congrArg (s.withPoint n) still.symm
    | counting k w =>
      refine (congrArg (fun x => (s.withPoint n (s.storedPoint n e)).withPoint n x) ?_).trans (s.withPoint_withPoint n _ _)
      rw [State.point_withPoint_self]
      rfl
  · rw [if_neg limit, State.writtenPoint, Point.written_limited mode limit, State.storedPoint]

/-- The edge count with which a suppressed point is released by an entry (R48, R56; log entry 18). -/
def Point.countedEdges (x : Point) (e : PointEntry) (edges : Nat) : Nat :=
  if x.inverts e then if edges < 65535 then edges + 1 else 65535 else edges

/-- A chatter limit of 0 releases a suppressed point, its polarity having acted. -/
theorem writeEntry_release {edges w : Nat} (mode : e.mode = (s.point n).entry.mode) (unlimited : e.chatterLimit = 0)
    (suppressed : (s.point n).chatter = .suppressed edges w) :
    writeEntry n e s = releasePoint n ((s.point n).countedEdges e edges) (s.withPoint n (s.storedPoint n e)) := by
  have counted : ∃ w', (s.storedPoint n e).chatter = .suppressed ((s.point n).countedEdges e edges) w' := by
    rw [State.storedPoint, Point.stored_suppressed suppressed, Point.countedEdges]
    cases (s.point n).inverts e <;> exact ⟨_, rfl⟩
  obtain ⟨w', counted⟩ := counted
  rw [writeEntry_same mode, applySettings_eq, if_pos unlimited, stopChatter, State.point_withPoint_self, counted]

theorem State.storedPoint_active {edges w : Nat} (suppressed : (s.point n).chatter = .suppressed edges w) :
    (s.storedPoint n e).active = (s.point n).active ∧ (s.storedPoint n e).entry = e := by
  rw [State.storedPoint, Point.stored_suppressed suppressed]
  exact ⟨rfl, rfl⟩

theorem State.writtenPoint_released {edges w : Nat} (mode : e.mode = (s.point n).entry.mode) (unlimited : e.chatterLimit = 0)
    (suppressed : (s.point n).chatter = .suppressed edges w) :
    s.writtenPoint n e =
      { s.storedPoint n e with active := e.polarity.level (s.lines.getLsbD n.val), chatter := .clear } :=
  Point.written_released mode unlimited suppressed ..

/-- The point that a release leaves (R48). -/
theorem releasePoint_point (n : Fin 32) (k : Nat) (s : State) :
    (releasePoint n k s).point n = { s.point n with active := s.lineActive n, chatter := .clear } := by
  by_cases same : s.lineActive n = (s.point n).active
  · rw [releasePoint_still same, State.point_withPoint_self, same]
  · exact (releasePoint_released same).1

theorem takeFresh_point (n : Fin 32) (e : PointEntry) (s : State) :
    (takeFresh n e s).point n =
      ⟨e, decide (e.mode ≠ .off) && e.polarity.level (s.lines.getLsbD n.val), none, .clear⟩ := by
  have lines := (RestoreFrame.of_notice (reportRelease_notice false n s)).lines
  have off : (e.mode != .off) = decide (e.mode ≠ .off) := by cases e.mode <;> rfl
  rw [takeFresh]
  rw [(handInput_frame ..).point_eq, State.point_withPoint_self, lines, off]

/-- An entry written makes of the point what `Point.written` says. -/
theorem writeEntry_point (n : Fin 32) (e : PointEntry) (s : State) :
    (writeEntry n e s).point n = s.writtenPoint n e := by
  by_cases mode : e.mode = (s.point n).entry.mode
  · by_cases quiet : e.chatterLimit ≠ 0 ∨ ∀ edges w, (s.point n).chatter ≠ .suppressed edges w
    · rw [writeEntry_quiet mode quiet, State.point_withPoint_self]
    · obtain ⟨unlimited, edges, w, suppressed⟩ :
          e.chatterLimit = 0 ∧ ∃ edges w, (s.point n).chatter = .suppressed edges w := by
        simpa only [not_or, not_forall, not_not] using quiet
      rw [writeEntry_release mode unlimited suppressed, releasePoint_point, State.storedPoint_lineActive,
        State.point_withPoint_self, s.writtenPoint_released mode unlimited suppressed]
  · rw [writeEntry_fresh mode, takeFresh_point, State.writtenPoint, Point.written, Polarity.level_eq]
    exact (if_pos mode).symm

/-- A new mode leaves the trip unit, and the record of a release is the first it gives (R55). -/
theorem takeFresh_trip (n : Fin 32) (e : PointEntry) (s : State) : (takeFresh n e s).trip = s.trip := by
  rw [takeFresh]
  rw [handInput_trip]
  exact (RestoreFrame.of_notice (reportRelease_notice false n s)).trip

theorem takeFresh_reports {edges w : Nat} (suppressed : (s.point n).chatter = .suppressed edges w) :
    (s.reported false (.chatter n.val .released edges)).Reports (takeFresh n e s).queue := by
  have reported : reportRelease false n s = produce false (.chatter n.val .released edges) s := by
    rw [reportRelease, suppressed]
  have queue := produce_queue false (.chatter n.val .released edges) s
  rw [← queue, ← reported]
  exact ((RecordFrame.withPoint ..).trans (handInput_records ..)).reports

end Write

/-! ### SET_POINT -/

theorem pointIndex_val (n : Fin 32) : pointIndex n.val = some n := dif_pos n.isLt

theorem pointIndex_above {n : Nat} (h : 31 < n) : pointIndex n = none := dif_neg (by omega)

theorem pointModeOf_above {k : Nat} (h : 3 < k) : pointModeOf k = none := by
  obtain ⟨m, rfl⟩ : ∃ m, k = m + 4 := ⟨k - 4, by omega⟩
  rfl

theorem pointModeOf_some {k : Nat} (h : k ≤ 3) :
    ∃ mode, pointModeOf k = some mode ∧ mode.code.toNat = k ∧ (mode = .trip ↔ k = 3) ∧
      mode = if k = 0 then .off else if k = 1 then .status else if k = 2 then .record else .trip := by
  interval_cases k
  · exact ⟨.off, rfl, rfl, by decide, rfl⟩
  · exact ⟨.status, rfl, rfl, by decide, rfl⟩
  · exact ⟨.record, rfl, rfl, by decide, rfl⟩
  · exact ⟨.trip, rfl, rfl, by decide, rfl⟩

theorem polarityOf_above {k : Nat} (h : 1 < k) : polarityOf k = none := by
  obtain ⟨m, rfl⟩ : ∃ m, k = m + 2 := ⟨k - 2, by omega⟩
  rfl

theorem polarityOf_some {k : Nat} (h : k ≤ 1) :
    ∃ polarity, polarityOf k = some polarity ∧ polarity.code.toNat = k ∧
      polarity = if k = 0 then .activeHigh else .activeLow := by
  interval_cases k
  · exact ⟨.activeHigh, rfl, rfl, rfl⟩
  · exact ⟨.activeLow, rfl, rfl, rfl⟩

theorem State.frozen_iff (s : State) : s.frozen = true ↔ s.trip.latch ≠ .armed := by
  rw [State.frozen]
  cases s.trip.latch <;> decide

theorem State.holdsTrip_iff (s : State) (n : Fin 32) (mode : PointMode) :
    s.holdsTrip n mode = true ↔ (s.point n).entry.mode = .trip ∧ mode ≠ .trip ∧ s.trip.entry n ≠ .normal := by
  simp [State.holdsTrip, and_assoc]

/-- The entry that SET_POINT stores (R42, R52). -/
def pointEntryOf (mode : PointMode) (polarity : Polarity) (args : List Byte) : PointEntry :=
  ⟨mode, polarity, min 250 (argField args 3 2), if argField args 5 2 = 0 then 0 else max 2 (min 30 (argField args 5 2)),
    max 1 (min 60 (argField args 7 2))⟩

theorem clampDebounce_eq (k : Nat) : clampDebounce k = min 250 k := Nat.zero_max _

section SetPoint

variable {p : Port} {args : List Byte} {s : State}

theorem exec_setPoint (run : s.running = true) (length : args.length = 9) : exec (.setPoint p (9 :: args)) s =
    .next (s.reply p 0x11 (serveSetPoint p args (s.idleFrame p))) :=
  congrArg Host.Outcome.next (takeRequest_exactly run length (by decide))

/-- What SET_POINT answers once its fields name a point, a mode and a polarity. -/
theorem serveSetPoint_named {n : Fin 32} {mode : PointMode} {polarity : Polarity} (permitted : (s.port p).rights.config = true)
    (index : argField args 0 1 = n.val) (named : pointModeOf (argField args 1 1) = some mode)
    (sense : polarityOf (argField args 2 1) = some polarity) :
    serveSetPoint p args (s.idleFrame p) =
      if s.frozen then .refuse .frozen n.val
      else if s.holdsTrip n mode then .refuse .state n.val
      else .accept (writeEntry n (pointEntryOf mode polarity args) (s.idleFrame p))
        (beBytes 1 n.val ++ (pointEntryOf mode polarity args).bytes) := by
  rw [serveSetPoint, s.rights_idleFrame, if_pos permitted, index, pointIndex_val, named, sense, pointEntryOf,
    ← clampDebounce_eq]
  rfl

/-- The refusals of SET_POINT, in the order of R52. -/
theorem exec_setPoint_checks (run : s.running = true) (length : args.length = 9) :
    let n := argField args 0 1
    let mode := argField args 1 1
    let polarity := argField args 2 1
    let outcome := exec (.setPoint p (9 :: args)) s
    if (s.port p).rights.config = false then outcome = .next (s.refusedAt p 0x11 .denied 0)
    else if 31 < n then outcome = .next (s.refusedAt p 0x11 .badIndex n)
    else if 3 < mode then outcome = .next (s.refusedAt p 0x11 .range mode)
    else if 1 < polarity then outcome = .next (s.refusedAt p 0x11 .range polarity)
    else if s.trip.latch ≠ .armed then outcome = .next (s.refusedAt p 0x11 .frozen n)
    else if ∃ k : Fin 32, k.val = n ∧ (s.point k).entry.mode = .trip ∧ mode ≠ 3 ∧ s.trip.entry k ≠ .normal then
      outcome = .next (s.refusedAt p 0x11 .state n)
    else ∃ t payload, outcome = .next t ∧ (t.port p).response = .ok payload := by
  have refused {why : RefusalCode} {detail : Nat} (h : serveSetPoint p args (s.idleFrame p) = .refuse why detail) :
      exec (.setPoint p (9 :: args)) s = .next (s.refusedAt p 0x11 why detail) := by
    rw [exec_setPoint run length, h]
    rfl
  dsimp only
  split_ifs with denied index mode polarity frozen standing
  · exact refused (by rw [serveSetPoint, s.rights_idleFrame, denied]; rfl)
  all_goals have permitted : (s.port p).rights.config = true := by simpa using denied
  · exact refused (by rw [serveSetPoint, s.rights_idleFrame, if_pos permitted, pointIndex_above index])
  all_goals obtain ⟨n, hn⟩ : ∃ n : Fin 32, argField args 0 1 = n.val := ⟨⟨argField args 0 1, by omega⟩, rfl⟩
  · refine refused ?_
    rw [serveSetPoint, s.rights_idleFrame, if_pos permitted, hn, pointIndex_val, pointModeOf_above mode]
  all_goals obtain ⟨m, named, -, trip, -⟩ := pointModeOf_some (Nat.not_lt.mp mode)
  · refine refused ?_
    rw [serveSetPoint, s.rights_idleFrame, if_pos permitted, hn, pointIndex_val, named, polarityOf_above polarity]
  all_goals
    obtain ⟨q, sense, -⟩ := polarityOf_some (Nat.not_lt.mp polarity)
    have served := serveSetPoint_named permitted hn named sense
  · exact hn ▸ refused (served.trans (if_pos (s.frozen_iff.mpr frozen)))
  all_goals rw [if_neg (mt s.frozen_iff.mp frozen)] at served
  all_goals
    have holds : s.holdsTrip n m = true ↔ ∃ k : Fin 32, k.val = argField args 0 1 ∧ (s.point k).entry.mode = .trip ∧
        argField args 1 1 ≠ 3 ∧ s.trip.entry k ≠ .normal := by
      rw [s.holdsTrip_iff, Ne, trip, hn]
      exact ⟨fun h => ⟨n, rfl, h⟩, fun ⟨k, same, h⟩ => Fin.ext same ▸ h⟩
  · exact hn ▸ refused (served.trans (if_pos (holds.mpr standing)))
  · rw [if_neg (mt holds.mp standing)] at served
    rw [exec_setPoint run length, served]
    exact ⟨_, _, rfl, congrArg PortUnit.response (State.respond_self ..)⟩

end SetPoint

/-! ### What an accepted SET_POINT leaves -/

section Accepted

variable {n : Fin 32} {e : PointEntry} {s : State}

/-- What a release by a chatter limit of 0 makes of the part (R48, R56; log entries 10 and 18). -/
theorem writeEntry_released {edges w : Nat} (mode : e.mode = (s.point n).entry.mode) (unlimited : e.chatterLimit = 0)
    (suppressed : (s.point n).chatter = .suppressed edges w) :
    let t := writeEntry n e s
    let y := s.writtenPoint n e
    let released := s.reported false (.chatter n.val .released ((s.point n).countedEdges e edges))
    (y.active = (s.point n).active → t.trip = s.trip ∧ t.tally = s.tally ∧ t.queue = released) ∧
      (y.active ≠ (s.point n).active →
        t.trip = s.trip.afterChange s.elapsed e.mode n y.active s.now ∧ released.Reports t.queue ∧
        (e.mode = .record ∨ e.mode = .trip →
          (released.report s.now s.time.quality s.changeBurst false (.point n.val y.active .afterChatter)).Reports t.queue)) := by
  obtain ⟨z, stored⟩ : ∃ z, z = s.storedPoint n e := ⟨_, rfl⟩
  have own : (s.withPoint n z).point n = z := s.point_withPoint_self n z
  have line := s.storedPoint_lineActive (n := n) (e := e)
  have release := writeEntry_release mode unlimited suppressed
  obtain ⟨active, entry⟩ := s.storedPoint_active (e := e) suppressed
  dsimp only
  rw [s.writtenPoint_released mode unlimited suppressed]
  rw [← stored] at line release active entry
  rw [release]
  refine ⟨fun same => ?_, fun differs => ?_⟩
  · rw [releasePoint_still (by rw [line, own, active]; exact same), produce_withPoint]
    exact ⟨rfl, rfl, rfl⟩
  · obtain ⟨-, trip, reports, record⟩ :=
      releasePoint_released (k := (s.point n).countedEdges e edges) (by rw [line, own, active]; exact differs)
    rw [line, own, entry] at trip record
    exact ⟨trip, reports, record⟩

theorem writeEntry_respond (p : Port) (payload : List Byte) :
    (writeEntry n e (s.idleFrame p)).respond p (.ok payload) = (writeEntry n e s).okAt p payload := by
  rw [← Veil.on_frame, Veil.writeEntry, Veil.on_frame]
  exact State.respond_idleFrame ..

end Accepted

/-- Settles O27: the checks along R52, and the entry written through `Point.written`. -/
theorem pointWriteChecksAndStores : Obligations.PointWriteChecksAndStores := by
  unfold Obligations.PointWriteChecksAndStores
  refine ⟨fun p args s run length => exec_setPoint_checks run length, fun p args s n mode polarity => ?_⟩
  intro run length permitted index named sense armed normal limit e x y payload
  have served := serveSetPoint_named permitted index named sense
  have thawed : ¬ s.frozen = true := fun h => s.frozen_iff.mp h armed
  have free : ¬ s.holdsTrip n mode = true := fun h => by
    obtain ⟨trip, leaves, standing⟩ := (s.holdsTrip_iff n mode).mp h
    exact standing (normal trip leaves)
  rw [if_neg thawed, if_neg free] at served
  have next : exec (.setPoint p (9 :: args)) s = .next ((writeEntry n e (s.idleFrame p)).respond p (.ok payload)) := by
    rw [exec_setPoint run length, served]
    rfl
  have frame := writeEntry_frame n e (s.idleFrame p)
  have point : (writeEntry n e s).point n = y := writeEntry_point n e s
  have respond := writeEntry_respond (n := n) (e := e) (s := s) p payload
  refine ⟨_, next, respond, (congrArg (State.respond · p _) frame.1).trans rfl, .of_keep frame.2, ?_⟩
  rw [respond]
  refine ⟨(SettingsKept.writeEntry n e s).settings, point, (writeEntry_onlyPoint ..).point, fun moved => ?_,
    fun mode quiet => congrArg (State.okAt · p payload) (writeEntry_quiet mode quiet), fun edges w mode watched unlimited
    suppressed => ?_⟩
  · have fresh : writeEntry n e s = takeFresh n e s := writeEntry_fresh moved
    refine ⟨?_, fun _ => (writeEntry_records n e s).reports, fun edges w suppressed => ?_⟩
    · exact (congrArg State.trip fresh).trans (takeFresh_trip n e s)
    · have reports := takeFresh_reports (e := e) suppressed
      rw [← fresh] at reports
      exact reports
  · obtain ⟨still, moved⟩ := writeEntry_released (n := n) (e := e) (s := s) mode unlimited suppressed
    have counted : (s.point n).countedEdges e edges =
        if polarity = x.entry.polarity then edges else if edges < 65535 then edges + 1 else 65535 := by
      unfold Point.countedEdges Point.inverts
      by_cases same : polarity = x.entry.polarity
      · have keeps : ¬ (e.polarity ≠ (s.point n).entry.polarity ∧ e.mode ≠ .off) := fun h => h.1 same
        rw [decide_eq_false keeps, if_pos same]
        rfl
      · have inverts : e.polarity ≠ (s.point n).entry.polarity ∧ e.mode ≠ .off := ⟨same, watched⟩
        rw [decide_eq_true inverts, if_neg same]
        rfl
    rw [counted] at still moved
    refine ⟨still, fun differs => ?_⟩
    obtain ⟨trip, reports, record⟩ := moved differs
    exact ⟨trip, fun _ => reports, record⟩

end Sys2Proof.Machine
end

section
/-!
SUPPORT. One field written to the points of a mask (R53): the named field, the checks, the mask's points one by one, and the claim about
SET_POINTS.
-/

namespace Sys2Proof.Machine

/-! ### Fields and bytes -/

/-- Bytes spell the number that they lay out. -/
theorem beBytes_beNumber (bs : List Byte) : beBytes bs.length (beNumber bs) = bs := by
  have step (k v a : Nat) : beBytes k (a * 256 ^ k + v) = beBytes k v := by
    refine List.map_congr_left fun i member => ?_
    have below : i < k := by simpa using member
    have split : a * 256 ^ k = 256 ^ i * (256 * (a * 256 ^ (k - i - 1))) := by
      rw [show k = i + (1 + (k - i - 1)) by omega, pow_add, pow_add]
      simp
      ring
    refine BitVec.eq_of_toNat_eq ?_
    rw [BitVec.toNat_ofNat, BitVec.toNat_ofNat, split, Nat.mul_add_div (by positivity), Nat.mul_add_mod]
  have spelled (b : Byte) (bs : List Byte) : beNumber (b :: bs) = b.toNat * 256 ^ bs.length + beNumber bs := by
    have shift (l : List Byte) (acc : Nat) :
        l.foldl (fun n b => n * 256 + b.toNat) acc = acc * 256 ^ l.length + l.foldl (fun n b => n * 256 + b.toNat) 0 := by
      induction l generalizing acc with
      | nil => simp
      | cons c l ih =>
        rw [List.foldl_cons, List.foldl_cons, ih, ih (0 * 256 + c.toNat), List.length_cons, pow_succ]
        ring
    rw [beNumber, List.foldl_cons, shift]
    simp [beNumber]
  induction bs with
  | nil => rfl
  | cons b bs ih =>
    have fits : beNumber bs < 256 ^ bs.length := by simpa [beNumber] using beNumber_foldl_lt bs 0
    have head : (b.toNat * 256 ^ bs.length + beNumber bs) / 256 ^ bs.length = b.toNat := by
      rw [Nat.add_comm, Nat.add_mul_div_right _ _ (by positivity), Nat.div_eq_of_lt fits, Nat.zero_add]
    rw [List.length_cons, beBytes_succ, spelled, step, ih, head, BitVec.ofNat_toNat, BitVec.setWidth_eq]

theorem beBytes_argField {args : List Byte} {off len : Nat} (h : off + len ≤ args.length) :
    beBytes len (argField args off len) = (args.drop off).take len := by
  have length : ((args.drop off).take len).length = len := by rw [List.length_take, List.length_drop]; omega
  have bytes := beBytes_beNumber ((args.drop off).take len)
  rwa [length] at bytes

/-- The value that SET_POINTS stores (R42, R53). -/
def storedValue (selector value : Nat) : Nat :=
  if selector = 2 then min 250 value
  else if selector = 3 then if value = 0 then 0 else max 2 (min 30 value)
  else if selector = 4 then max 1 (min 60 value)
  else value

/-- An entry with the field named by a selector holding a value (R53). -/
def writtenEntry (selector value : Nat) (e : PointEntry) : PointEntry :=
  if selector = 0 then
    { e with mode := if value = 0 then .off else if value = 1 then .status else if value = 2 then .record else .trip }
  else if selector = 1 then { e with polarity := if value = 0 then .activeHigh else .activeLow }
  else if selector = 2 then { e with debounce := storedValue selector value }
  else if selector = 3 then { e with chatterLimit := storedValue selector value }
  else { e with chatterWindow := storedValue selector value }

theorem fieldWriteOf_none {selector value : Nat} (h : selector = 0 ∧ 3 < value ∨ selector = 1 ∧ 1 < value) :
    fieldWriteOf selector value = none := by
  obtain ⟨rfl, above⟩ | ⟨rfl, above⟩ := h
  · rw [fieldWriteOf, pointModeOf_above above]
    rfl
  · rw [fieldWriteOf, polarityOf_above above]
    rfl

/-- The field that a selector and a value of its choices name. -/
theorem fieldWriteOf_some {selector value : Nat} (field : selector ≤ 4)
    (choice : ¬ (selector = 0 ∧ 3 < value ∨ selector = 1 ∧ 1 < value)) :
    ∃ w, fieldWriteOf selector value = some w ∧ w.into = writtenEntry selector value ∧ w.value = storedValue selector value ∧
      (selector = 0 → ∃ m, w = .mode m ∧ (m = .trip ↔ value = 3)) ∧ (selector ≠ 0 → ∀ m, w ≠ .mode m) := by
  interval_cases selector
  · obtain ⟨m, named, code, trip, eq⟩ := pointModeOf_some (k := value) (by omega)
    refine ⟨.mode m, by rw [fieldWriteOf, named]; rfl, ?_, code, fun _ => ⟨m, rfl, trip⟩, fun h => absurd rfl h⟩
    funext e
    rw [eq]
    rfl
  · obtain ⟨q, named, code, eq⟩ := polarityOf_some (k := value) (by omega)
    refine ⟨.polarity q, by rw [fieldWriteOf, named]; rfl, ?_, code, nofun, nofun⟩
    funext e
    rw [eq]
    rfl
  · refine ⟨.debounce (clampDebounce value), rfl, ?_, clampDebounce_eq value, nofun, nofun⟩
    funext e
    rw [clampDebounce_eq]
    rfl
  · exact ⟨.chatterLimit (clampChatterLimit value), rfl, rfl, rfl, nofun, nofun⟩
  · exact ⟨.chatterWindow (clampChatterWindow value), rfl, rfl, rfl, nofun, nofun⟩

/-! ### The checks -/

/-- A point of the mask that a mode write takes out of TRIP with a standing entry (R53). -/
def State.standsInMask (s : State) (selector value : Nat) (mask : BitVec 32) (n : Fin 32) : Prop :=
  selector = 0 ∧ value ≠ 3 ∧ mask.getLsbD n.val = true ∧ (s.point n).entry.mode = .trip ∧ s.trip.entry n ≠ .normal

section Checks

variable {s : State} {selector value : Nat} {mask : BitVec 32} {w : FieldWrite}

theorem firstHeldTrip_iff (mode : selector = 0 → ∃ m, w = .mode m ∧ (m = .trip ↔ value = 3))
    (other : selector ≠ 0 → ∀ m, w ≠ .mode m) (n : Fin 32) :
    firstHeldTrip w mask s = some n ↔
      s.standsInMask selector value mask n ∧ ∀ m, m < n → ¬ s.standsInMask selector value mask m := by
  by_cases zero : selector = 0
  · obtain ⟨m, rfl, trip⟩ := mode zero
    have holds (k : Fin 32) : (mask.getLsbD k.val && s.holdsTrip k m) = true ↔ s.standsInMask selector value mask k := by
      rw [Bool.and_eq_true, s.holdsTrip_iff, State.standsInMask, Ne, Ne, trip]
      exact ⟨fun ⟨bit, held, leaves, entry⟩ => ⟨zero, leaves, bit, held, entry⟩,
        fun ⟨_, leaves, bit, held, entry⟩ => ⟨bit, held, leaves, entry⟩⟩
    have first : firstHeldTrip (.mode m) mask s = Fin.find? fun k => mask.getLsbD k.val && s.holdsTrip k m :=
      Fin.find?_eq_find?_finRange.symm
    rw [first, Fin.find?_eq_some_iff, holds]
    refine and_congr_right fun _ => forall_congr' fun k => imp_congr_right fun _ => ?_
    rw [← Bool.not_eq_true, holds]
  · have none : firstHeldTrip w mask s = none := by
      cases w with
      | mode m => exact absurd rfl (other zero m)
      | polarity _ | debounce _ | chatterLimit _ | chatterWindow _ => rfl
    rw [none]
    exact ⟨nofun, fun h => absurd h.1.1 zero⟩

theorem firstHeldTrip_isNone (mode : selector = 0 → ∃ m, w = .mode m ∧ (m = .trip ↔ value = 3))
    (other : selector ≠ 0 → ∀ m, w ≠ .mode m) (free : ¬ ∃ n, s.standsInMask selector value mask n) :
    firstHeldTrip w mask s = none := by
  cases held : firstHeldTrip w mask s with
  | none => rfl
  | some n => exact absurd ⟨n, ((firstHeldTrip_iff mode other n).mp held).1⟩ free

theorem lowestPoint_zero : lowestPoint 0 = 0 := by decide

theorem lowestPoint_eq {n : Fin 32} (bit : mask.getLsbD n.val = true) (lowest : ∀ m, m < n → mask.getLsbD m.val = false) :
    lowestPoint mask = n.val := by
  have found : ((List.range 32).find? fun k => mask.getLsbD k) = some n.val :=
    List.find?_range_eq_some.2 ⟨bit, List.mem_range.2 n.isLt, fun k below => by
      simpa using lowest ⟨k, below.trans n.isLt⟩ below⟩
  rw [lowestPoint, found]
  rfl

end Checks

/-! ### The points of the mask -/

/-- The field of one point of the mask written, as `writeField` does for a named field. -/
def writeMasked (mask : BitVec 32) (f : PointEntry → PointEntry) (n : Fin 32) (s : State) : State :=
  if mask.getLsbD n.val then writeEntry n (f (s.point n).entry) s else s

section Mask

variable {mask : BitVec 32} {f : PointEntry → PointEntry} {s : State}

/-- What each entry written keeps, the field written to every point of the mask keeps. -/
theorem writeMasked_keeps {P : State → Prop} (h : ∀ n e t, P t → P (writeEntry n e t)) (hs : P s) :
    P (atAllPoints (writeMasked mask f) s) := by
  refine atAllPoints_keeps (fun n t ht => ?_) hs
  unfold writeMasked
  split
  · exact h n _ t ht
  · exact ht

theorem writeMasked_frame : PointFrame s (atAllPoints (writeMasked mask f) s) :=
  writeMasked_keeps (fun n e t h => h.trans (writeEntry_frame n e t)) (.refl s)

theorem writeMasked_settings : SettingsKept s (atAllPoints (writeMasked mask f) s) :=
  writeMasked_keeps (fun n e t h => h.trans (.writeEntry n e t)) (.refl s)

theorem writeMasked_records : RecordFrame s (atAllPoints (writeMasked mask f) s) :=
  writeMasked_keeps (fun n e t h => h.trans (writeEntry_records n e t)) (.refl s)

/-- Each point of the mask takes its entry, and no other point moves. -/
theorem writeMasked_point (n : Fin 32) :
    (atAllPoints (writeMasked mask f) s).point n =
      if mask.getLsbD n.val then (s.point n).written (f (s.point n).entry) (s.lines.getLsbD n.val) s.now s.elapsed
      else s.point n := by
  refine atAllPoints_point (f := writeMasked mask f)
    (g := fun n x => if mask.getLsbD n.val then x.written (f x.entry) (s.lines.getLsbD n.val) s.now s.elapsed else x)
    (Q := PointFrame s) (fun n t m other => ?_) (fun n t frame => ?_) (fun n t frame => ?_) (.refl s) n
  · unfold writeMasked
    split
    · exact (writeEntry_onlyPoint ..).point m other
    · rfl
  · unfold writeMasked
    split
    · exact frame.trans (writeEntry_frame ..)
    · exact frame
  · have lines : t.lines = s.lines := by rw [frame.1]
    have time : t.time = s.time := by rw [frame.1]
    have elapsed : t.elapsed = s.elapsed := by rw [frame.1]
    have now : t.now = s.now := by rw [State.now, time]; rfl
    unfold writeMasked
    split
    · rw [writeEntry_point, State.writtenPoint, lines, elapsed, now]
    · rfl

/-- A point that an entry leaves suppressed has that entry, with a chatter limit of its own (R48, R55, R56). -/
theorem Point.written_suppressed {x : Point} {e : PointEntry} {high : Bool} {now : Instant} {elapsed edges w : Nat}
    (h : (x.written e high now elapsed).chatter = .suppressed edges w) : e.chatterLimit ≠ 0 := by
  intro unlimited
  unfold Point.written at h
  dsimp only at h
  split at h
  · exact absurd h nofun
  · split at h <;> exact absurd h nofun

theorem Point.written_entry (x : Point) (e : PointEntry) (high : Bool) (now : Instant) (elapsed : Nat) :
    (x.written e high now elapsed).entry = e := by
  unfold Point.written
  dsimp only
  split
  · rfl
  · split <;> rfl

/-- No point of the mask comes to be released. -/
def NoneReleased (mask : BitVec 32) (f : PointEntry → PointEntry) (s : State) : Prop :=
  ∀ (n : Fin 32) (edges w : Nat), mask.getLsbD n.val = true → (s.point n).chatter = .suppressed edges w →
    (f (s.point n).entry).chatterLimit ≠ 0

/-- An entry that releases no point leaves the trip unit (R55, R56). -/
theorem writeEntry_trip {n : Fin 32} {e : PointEntry}
    (quiet : ∀ edges w, (s.point n).chatter = .suppressed edges w → e.chatterLimit ≠ 0) :
    (writeEntry n e s).trip = s.trip := by
  by_cases mode : e.mode = (s.point n).entry.mode
  · have still : e.chatterLimit ≠ 0 ∨ ∀ edges w, (s.point n).chatter ≠ .suppressed edges w :=
      or_iff_not_imp_left.mpr fun unlimited edges w suppressed => unlimited (quiet edges w suppressed)
    rw [writeEntry_quiet mode still]
    rfl
  · rw [writeEntry_fresh mode, takeFresh_trip]

theorem writeMasked_trip (again : ∀ e, f (f e) = f e) (none : NoneReleased mask f s) :
    (atAllPoints (writeMasked mask f) s).trip = s.trip := by
  have kept : (atAllPoints (writeMasked mask f) s).trip = s.trip ∧ NoneReleased mask f (atAllPoints (writeMasked mask f) s) := by
    refine atAllPoints_keeps (P := fun t => t.trip = s.trip ∧ NoneReleased mask f t) (fun n t ⟨trip, quiet⟩ => ?_) ⟨rfl, none⟩
    unfold writeMasked
    split
    · next bit =>
      refine ⟨(writeEntry_trip fun edges w => quiet n edges w bit).trans trip, fun m edges w mbit suppressed => ?_⟩
      by_cases same : m = n
      · subst same
        rw [writeEntry_point, State.writtenPoint] at suppressed ⊢
        rw [Point.written_entry, again]
        exact Point.written_suppressed suppressed
      · rw [(writeEntry_onlyPoint ..).point m same] at suppressed ⊢
        exact quiet m edges w mbit suppressed
    · exact ⟨trip, quiet⟩
  exact kept.1

theorem writeMasked_empty (empty : mask = 0) : atAllPoints (writeMasked mask f) s = s := by
  refine atAllPoints_keeps (P := fun t => t = s) (fun n t h => ?_) rfl
  have clear : mask.getLsbD n.val = false := by rw [empty]; exact BitVec.getLsbD_zero
  rw [writeMasked, clear, if_neg Bool.false_ne_true, h]

/-- The points are written whatever stands in the frame of a port. -/
theorem writeMasked_respond (p : Port) (payload : List Byte) :
    (atAllPoints (writeMasked mask f) (s.idleFrame p)).respond p (.ok payload) =
      (atAllPoints (writeMasked mask f) s).okAt p payload := by
  have each (n : Fin 32) : Veil.Commutes (.frame p) (writeMasked mask f n) := fun t => by
    unfold writeMasked
    rw [Veil.point]
    split
    · exact Veil.writeEntry ..
    · rfl
  rw [← Veil.on_frame, Veil.allPoints each, Veil.on_frame]
  exact State.respond_idleFrame ..

end Mask

theorem writtenEntry_again (selector value : Nat) (e : PointEntry) :
    writtenEntry selector value (writtenEntry selector value e) = writtenEntry selector value e := by
  unfold writtenEntry
  split_ifs <;> rfl

/-! ### The request -/

section SetPoints

variable {p : Port} {args : List Byte} {s : State}

theorem exec_setPoints (run : s.running = true) (length : args.length = 7) : exec (.setPoints p (7 :: args)) s =
    .next (s.reply p 0x12 (serveSetPoints p args (s.idleFrame p))) :=
  congrArg Host.Outcome.next (takeRequest_exactly run length (by decide))

/-- What SET_POINTS answers once its selector and value name a field. -/
theorem serveSetPoints_named {w : FieldWrite} (permitted : (s.port p).rights.config = true) (field : argField args 4 1 ≤ 4)
    (named : fieldWriteOf (argField args 4 1) (argField args 5 2) = some w) :
    serveSetPoints p args (s.idleFrame p) =
      let mask := BitVec.ofNat 32 (argField args 0 4)
      if s.frozen then .refuse .frozen (lowestPoint mask)
      else match firstHeldTrip w mask s with
        | some n => .refuse .state n.val
        | none => .accept (atAllPoints (writeMasked mask w.into) (s.idleFrame p))
            (beBytes 4 mask.toNat ++ beBytes 1 (argField args 4 1) ++ beBytes 2 w.value) := by
  rw [serveSetPoints, s.rights_idleFrame, if_pos permitted]
  dsimp only
  rw [named, if_neg (Nat.not_lt.mpr field)]
  rfl

theorem setPoints_payload (length : args.length = 7) (v : Nat) :
    beBytes 4 (BitVec.ofNat 32 (argField args 0 4)).toNat ++ beBytes 1 (argField args 4 1) ++ beBytes 2 v =
      args.take 5 ++ beBytes 2 v := by
  have fits : argField args 0 4 < 2 ^ 32 := argField_lt args 0 4
  have bytes : args.take 5 = (args.drop 0).take 4 ++ (args.drop 4).take 1 := List.take_add (i := 4) (j := 1)
  rw [BitVec.toNat_ofNat, Nat.mod_eq_of_lt fits, beBytes_argField (by omega), beBytes_argField (by omega), bytes]

end SetPoints

/-- Settles O28: the checks along R53, and the field written to each point of the mask. -/
theorem pointsWriteStoresTheFieldInTheMask : Obligations.PointsWriteStoresTheFieldInTheMask := by
  unfold Obligations.PointsWriteStoresTheFieldInTheMask
  intro p args s run length mask selector value outcome standing stored written payload
  have refused {why : RefusalCode} {detail : Nat} (h : serveSetPoints p args (s.idleFrame p) = .refuse why detail) :
      outcome = .next (s.refusedAt p 0x12 why detail) := by
    refine (exec_setPoints run length).trans ?_
    rw [h]
    rfl
  by_cases denied : (s.port p).rights.config = false
  · rw [if_pos denied]
    exact refused (by rw [serveSetPoints, s.rights_idleFrame, denied]; rfl)
  have permitted : (s.port p).rights.config = true := by simpa using denied
  rw [if_neg denied]
  by_cases above : 4 < selector
  · rw [if_pos above]
    refine refused ?_
    rw [serveSetPoints, s.rights_idleFrame, if_pos permitted]
    exact if_pos above
  have field : selector ≤ 4 := Nat.not_lt.mp above
  rw [if_neg above]
  by_cases choice : selector = 0 ∧ 3 < value ∨ selector = 1 ∧ 1 < value
  · rw [if_pos choice]
    refine refused ?_
    rw [serveSetPoints, s.rights_idleFrame, if_pos permitted]
    exact (if_neg above).trans (by rw [fieldWriteOf_none choice])
  rw [if_neg choice]
  obtain ⟨w, named, into, stores, mode, other⟩ := fieldWriteOf_some field choice
  have served := serveSetPoints_named permitted field named
  dsimp only at served
  by_cases frozen : s.trip.latch ≠ .armed
  · rw [if_pos frozen]
    rw [if_pos (s.frozen_iff.mpr frozen)] at served
    refine ⟨fun empty => refused (served.trans ?_), fun n bit lowest => refused (served.trans ?_)⟩
    · have zero : lowestPoint mask = 0 := by rw [empty]; exact lowestPoint_zero
      exact congrArg _ zero
    · exact congrArg _ (lowestPoint_eq bit lowest)
  rw [if_neg frozen]
  rw [if_neg (mt s.frozen_iff.mp frozen)] at served
  by_cases held : ∃ n, standing n
  · rw [if_pos held]
    intro n stands lowest
    have first : firstHeldTrip w mask s = some n := (firstHeldTrip_iff mode other n).mpr ⟨stands, lowest⟩
    rw [first] at served
    exact refused served
  rw [if_neg held]
  rw [firstHeldTrip_isNone (s := s) (mask := mask) mode other held, into, setPoints_payload length, stores] at served
  have next : outcome = .next ((atAllPoints (writeMasked mask (writtenEntry selector value)) (s.idleFrame p)).respond p
      (.ok payload)) := by
    refine (exec_setPoints run length).trans ?_
    rw [served]
    rfl
  have frame := writeMasked_frame (mask := mask) (f := writtenEntry selector value) (s := s.idleFrame p)
  have respond := writeMasked_respond (mask := mask) (f := writtenEntry selector value) (s := s) p payload
  refine ⟨_, next, respond, (congrArg (State.respond · p _) frame.1).trans rfl, .of_keep frame.2, ?_⟩
  rw [respond]
  exact ⟨writeMasked_settings.settings, writeMasked_records.reports, writeMasked_point,
    fun none => writeMasked_trip (writtenEntry_again selector value) none,
    fun empty => congrArg (State.okAt · p payload) (writeMasked_empty empty)⟩

end Sys2Proof.Machine
end

section
/-!
SUPPORT. The closing actions of every block (R16, R58, R65, R81, R120, R167, R178, R181), and the claim about the supply monitor's
commands.
-/

namespace Sys2Proof.Machine

/-! ### The points and the tallies -/

theorem pointClosing_eq (s : State) : pointClosing s = { s with points := (pointClosing s).points } :=
  atAllPoints_keeps (P := fun t => t = { s with points := t.points }) (fun n t h => by
    rw [cancelDebounce, State.withPoint, h]) rfl

theorem pointClosing_point (s : State) (n : Fin 32) : (pointClosing s).point n = { s.point n with debouncing := none } :=
  atAllPoints_point (f := cancelDebounce) (g := fun _ x => { x with debouncing := none }) (Q := fun _ => True)
    (fun _ _ _ other => State.point_withPoint_other _ _ other) (fun _ _ _ => trivial)
    (fun _ _ _ => State.point_withPoint_self ..) trivial n

theorem tallyClosing_eq (s : State) : tallyClosing s = { s with tally := (tallyClosing s).tally } := by
  have closed : atAllTallies closeTally s = { s with tally := (atAllTallies closeTally s).tally } :=
    atAllTallies_keeps (P := fun t => t = { s with tally := t.tally }) (fun i t h => by
      unfold closeTally
      split
      · rw [abandonQualifying, State.withEntry, State.withTally, h]
      · exact h) rfl
  unfold tallyClosing
  dsimp only
  rw [State.withTally, closed]

theorem tallyClosing_queue (s : State) : (tallyClosing s).queue = s.queue := by rw [tallyClosing_eq]

theorem tallyClosing_ports (s : State) : (tallyClosing s).ports = s.ports := by rw [tallyClosing_eq]

theorem tallyClosing_trip_eq (s : State) : (tallyClosing s).trip = s.trip := by rw [tallyClosing_eq]

/-! ### The trip unit and the tallies, in either order -/

theorem closeBurst_none {s : State} (burst : s.trip.burst = none) : closeBurst s = s := by
  rw [closeBurst, burst]

theorem closeBurst_some {s : State} {b : Burst} (burst : s.trip.burst = some b) :
    closeBurst s = handInput inputBurst false
      ((finaliseFirstOut s).withTrip { (finaliseFirstOut s).trip with burst := none }) := by
  rw [closeBurst, burst]

theorem closeBurst_paused (s : State) : (closeBurst s).tally.paused = s.tally.paused := (SettingsKept.closeBurst s).paused

/-- A paused tally unit takes no input (R120). -/
theorem closeBurst_tally {s : State} (paused : s.tally.paused = true) : (closeBurst s).tally = s.tally := by
  have final : (finaliseFirstOut s).tally = s.tally := by
    unfold finaliseFirstOut
    split
    · exact (raiseAtAll_frame ..).tally_eq.trans ((produce_frame ..).tally_eq.trans rfl)
    · rfl
  cases burst : s.trip.burst with
  | none => rw [closeBurst_none burst]
  | some b =>
    have still := handInput_same inputBurst false
      ((finaliseFirstOut s).withTrip { (finaliseFirstOut s).trip with burst := none })
      (.inl ((congrArg TallyUnit.paused final).trans paused))
    rw [closeBurst_some burst, still]
    exact final

theorem closeBurst_queue {s : State} (paused : s.tally.paused = true) (done : s.trip.latch ≠ .provisional) :
    (closeBurst s).queue = s.queue := by
  have final : finaliseFirstOut s = s := if_neg done
  cases burst : s.trip.burst with
  | none => rw [closeBurst_none burst]
  | some b =>
    have still := handInput_same inputBurst false (s.withTrip { s.trip with burst := none }) (.inl paused)
    rw [closeBurst_some burst, final, still]
    rfl

section Close

variable (order : ClosingOrder) (s : State)

theorem closeBurst_eq : closeBurst s =
    { s with
      trip := s.trip.closed, tally := (closeBurst s).tally, queue := (closeBurst s).queue, ports := (closeBurst s).ports } := by
  have frame := (closeBurst_frame s).1
  rw [closeBurst_points, closeBurst_trip] at frame
  exact frame

theorem closeBurstAndTallies_frame :
    let t := closeBurstAndTallies order s
    t = { s with trip := s.trip.closed, tally := t.tally, queue := t.queue, ports := t.ports } ∧ PortsKeep s t := by
  cases order with
  | tripFirst =>
    have closed := tallyClosing_eq (closeBurst s)
    have queue := tallyClosing_queue (closeBurst s)
    have ports := tallyClosing_ports (closeBurst s)
    have keep := (closeBurst_frame s).2
    have eq := closeBurst_eq s
    dsimp only [closeBurstAndTallies]
    generalize closeBurst s = u at *
    generalize tallyClosing u = v at *
    refine ⟨?_, fun q => ?_⟩
    · rw [queue, ports]
      exact closed.trans (congrArg (fun u : State => { u with tally := v.tally }) eq)
    · rw [State.port, ports]
      exact keep q
  | tallyFirst =>
    have closed := tallyClosing_eq s
    have keep := (closeBurst_frame (tallyClosing s)).2
    have eq := closeBurst_eq (tallyClosing s)
    dsimp only [closeBurstAndTallies]
    generalize closeBurst (tallyClosing s) = v at keep eq ⊢
    refine ⟨?_, fun q => (keep q).trans ?_⟩
    · exact eq.trans (congrArg (fun w : State => { w with
        trip := w.trip.closed, tally := v.tally, queue := v.queue, ports := v.ports }) closed)
    · rw [State.port, tallyClosing_ports]
      rfl

theorem closeBurstAndTallies_paused : (closeBurstAndTallies order s).tally.paused = true := by
  cases order <;> rw [closeBurstAndTallies]
  case tripFirst => exact (tallyClosing_tally (closeBurst s)).2.2
  case tallyFirst => exact (closeBurst_paused (tallyClosing s)).trans (tallyClosing_tally s).2.2

theorem closeBurstAndTallies_settings : TalliesKeepSettings s (closeBurstAndTallies order s) := by
  have trans {t u : State} (h : TalliesKeepSettings s t) (k : TalliesKeepSettings t u) : TalliesKeepSettings s u :=
    fun i => ⟨(k i).1.trans (h i).1, (k i).2.trans (h i).2⟩
  cases order <;> rw [closeBurstAndTallies]
  case tripFirst => exact trans (SettingsKept.closeBurst s).settings (tallyClosing_settings _)
  case tallyFirst => exact trans (tallyClosing_settings s) (SettingsKept.closeBurst _).settings

variable {order s}

theorem closeBurstAndTallies_queue (quiet : s.trip.burst = none ∨ s.trip.latch ≠ .provisional ∧ order = .tallyFirst) :
    (closeBurstAndTallies order s).queue = s.queue := by
  have closed : (tallyClosing s).trip = s.trip ∧ (tallyClosing s).queue = s.queue :=
    ⟨tallyClosing_trip_eq s, tallyClosing_queue s⟩
  obtain burst | ⟨done, rfl⟩ := quiet
  · cases order with
    | tripFirst => rw [closeBurstAndTallies, closeBurst_none burst, closed.2]
    | tallyFirst => rw [closeBurstAndTallies, closeBurst_none (by rw [closed.1, burst]), closed.2]
  · exact (closeBurst_queue (tallyClosing_tally s).2.2 (by rw [closed.1]; exact done)).trans closed.2

theorem closeBurstAndTallies_entry (unmoved : s.trip.burst = none ∨ order = .tallyFirst) (i : Fin 12) :
    (closeBurstAndTallies order s).entry i = (s.entry i).closed := by
  obtain ⟨entries, -, paused⟩ := tallyClosing_tally s
  cases order with
  | tripFirst =>
    rw [closeBurstAndTallies, closeBurst_none (unmoved.resolve_right (by decide)), entries]
  | tallyFirst => rw [closeBurstAndTallies, State.entry, closeBurst_tally paused, ← entries i, State.entry]

/-- The FIRST_OUT record of a PROVISIONAL latch is the first record of the close, in either order (R81). -/
theorem closeBurstAndTallies_reported {b : Burst} (burst : s.trip.burst = some b) (provisional : s.trip.latch = .provisional) :
    (s.reported false (.firstOut (s.trip.firstOut.getD .zero) s.trip.overflow s.trip.ranks)).Reports
      (closeBurstAndTallies order s).queue := by
  cases order with
  | tripFirst => exact (closeBurst_reported burst provisional).trans (tallyClosing_records _).reports
  | tallyFirst =>
    have closed := tallyClosing_eq s
    rw [closeBurstAndTallies]
    generalize tallyClosing s = u at closed ⊢
    have trip : u.trip = s.trip := by rw [closed]
    have first := closeBurst_reported (s := u) (by rw [trip, burst]) (by rw [trip, provisional])
    have same : u.reported false (.firstOut (s.trip.firstOut.getD .zero) s.trip.overflow s.trip.ranks) =
        s.reported false (.firstOut (s.trip.firstOut.getD .zero) s.trip.overflow s.trip.ranks) := by rw [closed]; rfl
    rw [trip, same] at first
    exact first

end Close

/-! ### Every block -/

/-- What the closing actions of every block make of the part (R181). -/
structure Closed (order : ClosingOrder) (s t : State) : Prop where
  eq : t = { s with
    time := { s.time with staged := none }, points := t.points, trip := s.trip.closed, tally := t.tally, queue := t.queue
    ports := t.ports }
  point : ∀ n, t.point n = { s.point n with debouncing := none }
  port : ∀ q, t.port q = (s.port q).close
  paused : t.tally.paused = true
  settings : TalliesKeepSettings s t
  reports : s.queue.Reports t.queue
  quiet : s.trip.burst = none ∨ s.trip.latch ≠ .provisional ∧ order = .tallyFirst → t.queue = s.queue
  entry : s.trip.burst = none ∨ order = .tallyFirst → ∀ i, t.entry i = (s.entry i).closed
  firstOut : ∀ b, s.trip.burst = some b → s.trip.latch = .provisional →
    (s.reported false (.firstOut (s.trip.firstOut.getD .zero) s.trip.overflow s.trip.ranks)).Reports t.queue

theorem closingActions_closed (order : ClosingOrder) (s : State) : Closed order s (closingActions order s) := by
  have points := pointClosing_eq s
  have point := pointClosing_point s
  unfold closingActions
  generalize pointClosing s = u at points point ⊢
  have trip : u.trip = s.trip := by rw [points]
  have queue : u.queue = s.queue := by rw [points]
  have reported (b : RecordBody) : u.reported false b = s.reported false b := by rw [points]; rfl
  have entry (i : Fin 12) : u.entry i = s.entry i := by rw [points]; rfl
  have port (q : Port) : u.port q = s.port q := by rw [points]; rfl
  obtain ⟨eq, keep⟩ := closeBurstAndTallies_frame order u
  have paused := closeBurstAndTallies_paused order u
  have settings := closeBurstAndTallies_settings order u
  have reports := (closeBurstAndTallies_records order u).reports
  have quiet := closeBurstAndTallies_queue (order := order) (s := u)
  have entries := closeBurstAndTallies_entry (order := order) (s := u)
  have first := fun b => closeBurstAndTallies_reported (order := order) (s := u) (b := b)
  generalize closeBurstAndTallies order u = v at *
  have still : v.points = u.points := by rw [eq]
  refine ⟨?_, fun n => ?_, fun q => ?_, paused, fun i => entry i ▸ settings i, queue ▸ reports, fun h => ?_, fun h i => ?_,
    fun b burst provisional => ?_⟩
  · have ports : atAllPorts closePort (discardStaged v) =
        { discardStaged v with ports := (atAllPorts closePort (discardStaged v)).ports } := rfl
    rw [ports, discardStaged, State.withTime, eq, points]
  · exact (congrArg (fun x : Vector Point 32 => x[n.val]) still).trans (point n)
  · rw [closePorts_port]
    have unit : v.port q = { s.port q with pending := (v.port q).pending, line := (v.port q).line } := by rw [← port q]; exact keep q
    have same : (discardStaged v).port q = v.port q := rfl
    rw [same, unit]
    rfl
  · exact (quiet (by rwa [trip])).trans queue
  · exact (entries (by rwa [trip]) i).trans (by rw [entry])
  · have reported_first := first b (by rw [trip, burst]) (by rw [trip, provisional])
    rw [trip, reported] at reported_first
    exact reported_first

/-- Settles O58: the warning takes the closing actions of every block, and each other command writes its own fields. -/
theorem mainLossAndSupplyEvents : Obligations.MainLossAndSupplyEvents := by
  unfold Obligations.MainLossAndSupplyEvents
  refine ⟨fun order low s => ⟨fun backup => ?_, fun run => ?_⟩, fun s => ⟨fun run => ?_, fun backup => ?_⟩⟩
  · refine congrArg Host.Outcome.next ?_
    rw [mainLoss, backup]
    exact if_neg Bool.false_ne_true
  · have closed := closingActions_closed order (writeStart s)
    have next : exec (.mainLossWarning order low) s = .next (mainLoss order low s) := rfl
    rw [mainLoss, if_pos run] at next
    dsimp only at next
    generalize closingActions order (writeStart s) = u at closed next
    refine ⟨_, next, ?_, closed.point, closed.port, closed.paused, closed.settings, closed.reports, closed.quiet, closed.entry,
      fun b first more burst provisional ranked => ?_⟩
    · refine (congrArg (fun v : State => v.withSupply { v.supply with
        state := .backup, qualification := none, retentionValid := v.supply.retentionValid && !low }) closed.eq).trans ?_
      rfl
    · have reported := closed.firstOut b burst provisional
      obtain ⟨instant, ranks⟩ := TripUnit.ranks_cons ranked
      have number : (writeStart s).burstNumber = b.number := by
        show s.burstNumber = b.number
        rw [State.burstNumber, burst]
      have trip : (writeStart s).trip = s.trip := rfl
      rw [trip, instant, ranks, State.reported, number] at reported
      exact reported
  · refine ⟨congrArg Host.Outcome.next ?_, congrArg Host.Outcome.next ?_, congrArg Host.Outcome.next ?_,
      congrArg Host.Outcome.next ?_⟩
    · exact if_pos run
    · rw [startQualification, run]
      exact if_pos rfl
    · exact if_pos run
    · exact if_pos run
  · have stopped : ¬ s.running = true := by rw [backup]; decide
    refine ⟨congrArg Host.Outcome.next (if_neg stopped), congrArg Host.Outcome.next (if_neg stopped),
      congrArg Host.Outcome.next (if_neg stopped), fun idle => congrArg Host.Outcome.next ?_,
      fun runs => congrArg Host.Outcome.next ?_⟩
    · rw [startQualification, backup, idle]
      exact if_neg Bool.false_ne_true
    · rw [startQualification, Option.isSome_iff_ne_none.mpr runs, Bool.or_true]
      exact if_pos rfl

end Sys2Proof.Machine
end

section
/-!
SUPPORT. The records of the restore actions (R59, R84, R110, R121, R146): each action tells its records with the header of the state that
it starts from, and which records are among them.
-/

namespace Sys2Proof.Machine

/-! ### What an action tells -/

/-- A record that a state produces now (R84). -/
def State.recordNow (s : State) (o : Bool) (b : RecordBody) : Produced := ⟨s.now, s.time.quality, s.burstNumber, o, b⟩

/-- The queue after some records are produced. -/
def EventQueue.after (q : EventQueue) (l : List Produced) : EventQueue :=
  l.foldl (fun q r => q.report r.instant r.quality r.burst r.outage r.body) q

/-- An action that tells records of the kinds in `ok` alone, those in `must` among them, and leaves the time and the trip unit. -/
structure Told (ok must : Bool → RecordBody → Prop) (s t : State) : Prop where
  time : t.time = s.time
  trip : t.trip = s.trip
  records : ∃ l, t.queue = s.queue.after l ∧ (∀ r ∈ l, ∃ o b, ok o b ∧ r = s.recordNow o b) ∧ ∀ o b, must o b → s.recordNow o b ∈ l

/-- No record in particular. -/
def noRecord : Bool → RecordBody → Prop := fun _ _ => False

namespace Told

variable {ok must more : Bool → RecordBody → Prop} {s t u : State}

theorem recordNow (time : t.time = s.time) (trip : t.trip = s.trip) (o : Bool) (b : RecordBody) :
    t.recordNow o b = s.recordNow o b := by
  simp only [State.recordNow, State.now, State.burstNumber, time, trip]

theorem of_queue (time : t.time = s.time) (trip : t.trip = s.trip) (queue : t.queue = s.queue) : Told ok noRecord s t :=
  ⟨time, trip, [], queue, nofun, nofun⟩

theorem refl (s : State) : Told ok noRecord s s := of_queue rfl rfl rfl

theorem trans (h : Told ok must s t) (k : Told ok more t u) : Told ok (fun o b => must o b ∨ more o b) s u := by
  obtain ⟨l, hq, hl, hm⟩ := h.records
  obtain ⟨m, kq, kl, km⟩ := k.records
  have same := recordNow h.time h.trip
  refine ⟨k.time.trans h.time, k.trip.trans h.trip, l ++ m, ?_, fun r member => ?_, fun o b told => ?_⟩
  · rw [kq, hq, EventQueue.after, EventQueue.after, EventQueue.after, List.foldl_append]
  · obtain early | late := List.mem_append.1 member
    · exact hl r early
    · obtain ⟨o, b, good, rfl⟩ := kl r late
      exact ⟨o, b, good, same o b⟩
  · exact List.mem_append.2 (told.imp (hm o b) fun later => same o b ▸ km o b later)

/-- Fewer records in particular, and more kinds. -/
theorem mono {ok' must' : Bool → RecordBody → Prop} (h : Told ok must s t) (kinds : ∀ o b, ok o b → ok' o b)
    (fewer : ∀ o b, must' o b → must o b) : Told ok' must' s t := by
  obtain ⟨l, queue, all, among⟩ := h.records
  refine ⟨h.time, h.trip, l, queue, fun r member => ?_, fun o b told => among o b (fewer o b told)⟩
  obtain ⟨o, b, good, eq⟩ := all r member
  exact ⟨o, b, kinds o b good, eq⟩

theorem quiet (h : Told ok must s t) : Told ok noRecord s t := h.mono (fun _ _ => id) nofun

theorem then_quiet (h : Told ok must s t) (k : Told ok noRecord t u) : Told ok must s u :=
  (h.trans k).mono (fun _ _ => id) fun _ _ => .inl

theorem after_quiet (h : Told ok noRecord s t) (k : Told ok must t u) : Told ok must s u :=
  (h.trans k).mono (fun _ _ => id) fun _ _ => .inr

theorem notice (h : NoticeFrame s t) (queue : t.queue = s.queue) : Told ok noRecord s t :=
  of_queue (RestoreFrame.of_notice h).time h.tally.trip queue

theorem produce {o : Bool} {b : RecordBody} (good : ok o b) (s : State) :
    Told ok (fun o' b' => o' = o ∧ b' = b) s (produce o b s) :=
  ⟨(RestoreFrame.of_notice (produce_frame o b s)).time, (produce_frame o b s).tally.trip, [s.recordNow o b], produce_queue o b s,
    fun _ member => ⟨o, b, good, List.mem_singleton.1 member⟩, fun _ _ ⟨flag, body⟩ => by rw [flag, body]; exact List.mem_singleton.2 rfl⟩

theorem produceIf {o : Bool} {b : RecordBody} (c : Bool) (good : ok o b) (s : State) :
    Told ok (fun o' b' => c = true ∧ o' = o ∧ b' = b) s (if c then Machine.produce o b s else s) := by
  cases c with
  | true => exact (produce good s).mono (fun _ _ => id) fun _ _ => And.right
  | false => exact (refl s).mono (fun _ _ => id) fun _ _ h => absurd h.1 Bool.false_ne_true

/-- An action at each of a list, where each finds what it needs as the first state has it. -/
theorem fold {ι : Type} {f : ι → State → State} {P : ι → State → Prop} {must : ι → Bool → RecordBody → Prop}
    (other : ∀ i j t, j ≠ i → P j t → P j (f i t)) (told : ∀ i t, P i t → Told ok (must i) t (f i t)) (l : List ι)
    (nodup : l.Nodup) (s : State) (found : ∀ i ∈ l, P i s) :
    Told ok (fun o b => ∃ i ∈ l, must i o b) s (l.foldl (fun s i => f i s) s) := by
  induction l generalizing s with
  | nil => exact (refl s).mono (fun _ _ => id) fun _ _ h => absurd h (by simp)
  | cons i l ih =>
    obtain ⟨fresh, nodup⟩ := List.nodup_cons.1 nodup
    have rest := ih nodup (f i s) fun j member => other i j s (fun e => fresh (e ▸ member)) (found j (List.mem_cons_of_mem _ member))
    refine ((told i s (found i (List.mem_cons_self ..))).trans rest).mono (fun _ _ => id) fun o b ⟨j, member, h⟩ => ?_
    obtain rfl | member := List.mem_cons.1 member
    · exact .inl h
    · exact .inr ⟨j, member, h⟩

/-! ### The tally unit -/

section Tally

variable {o : Bool} (tally : ∀ b : RecordBody, b.ofTally = true → ok o b)

theorem withEntry (s : State) (i : Fin 12) (x : Tally) : Told ok noRecord s (s.withEntry i x) := of_queue rfl rfl rfl

theorem withTally (s : State) (x : TallyUnit) : Told ok noRecord s (s.withTally x) := of_queue rfl rfl rfl

theorem compare (s : State) : Told ok noRecord s (atAllPorts syncTallyDue s) :=
  notice (compare_frame s) (atAllPorts_keeps (P := fun t => t.queue = s.queue)
    (fun p t h => (setNotice_queue p .tallyDue _ t).trans h) rfl)

include tally

theorem evaluateDue (i : Fin 12) (s : State) : Told ok noRecord s (evaluateDue o i s) := by
  unfold Machine.evaluateDue
  dsimp only
  split
  · exact refl s
  · exact ((withEntry ..).then_quiet (produceIf _ (tally _ rfl) _).quiet).then_quiet (compare _)

theorem applyPreset (i : Fin 12) (x : StagedPreset) (s : State) : Told ok noRecord s (applyPreset o i x s) :=
  (((withEntry ..).then_quiet (produce (tally _ rfl) _).quiet).then_quiet (evaluateDue tally i _)).then_quiet (withEntry ..)

theorem applyStagedPreset (i : Fin 12) (s : State) : Told ok noRecord s (applyStagedPreset o i s) := by
  unfold Machine.applyStagedPreset
  split
  · exact refl s
  · exact applyPreset tally ..

theorem completeQualification (i : Fin 12) (s : State) : Told ok noRecord s (completeQualification o i s) :=
  ((withEntry ..).then_quiet (produceIf _ (tally _ rfl) _).quiet).then_quiet (evaluateDue tally i _)

theorem enterQualifying (i : Fin 12) (s : State) : Told ok noRecord s (enterQualifying o i s) := by
  unfold Machine.enterQualifying
  dsimp only
  split
  · exact (withEntry ..).then_quiet (completeQualification tally i _)
  · exact withEntry ..

/-- A run that ends tells its TALLY_STOP record (R110). -/
theorem endRun (i : Fin 12) (s : State) :
    Told ok (fun o' b => (s.entry i).config.recordTransitions = true ∧ o' = o ∧ b = .tallyStop i.val (s.entry i).runLength) s
      (endRun o i s) :=
  ((produceIf _ (tally _ rfl) s).then_quiet (applyStagedPreset tally i _)).then_quiet (withEntry ..)

theorem evaluateTally (i : Fin 12) (s : State) :
    Told ok (fun o' b => s.condition i = false ∧ (s.entry i).run = .running ∧ (s.entry i).config.recordTransitions = true ∧
      o' = o ∧ b = .tallyStop i.val (s.entry i).runLength) s (evaluateTally o i s) := by
  unfold Machine.evaluateTally
  split
  · next run _ => exact (enterQualifying tally i s).mono (fun _ _ => id) fun _ _ h => absurd (run.symm.trans h.2.1) nofun
  · next run _ => exact (withEntry ..).mono (fun _ _ => id) fun _ _ h => absurd (run.symm.trans h.2.1) nofun
  · exact (endRun tally i s).mono (fun _ _ => id) fun _ _ h => h.2.2
  · next others => exact (refl s).mono (fun _ _ => id) fun _ _ h => absurd h.1 fun ended => others h.2.1 ended

theorem restoreTally (flag : o = true) (i : Fin 12) (s : State) :
    Told ok (fun o' b => s.condition i = false ∧ (s.entry i).run = .running ∧ (s.entry i).config.recordTransitions = true ∧
      o' = true ∧ b = .tallyStop i.val (s.entry i).runLength) s (restoreTally i s) := by
  subst flag
  exact (evaluateTally tally i s).then_quiet (evaluateDue tally i _)

end Tally

theorem handInput (tally : ∀ b : RecordBody, b.ofTally = true → ok false b) (k : Nat) (v : Bool) (s : State) :
    Told ok noRecord s (handInput k v s) := by
  have all (t : State) : Told ok noRecord t (atAllTallies (Machine.evaluateTally false) t) :=
    atAllTallies_keeps (P := Told ok noRecord t) (fun i _ h => h.then_quiet (evaluateTally tally i _).quiet) (refl t)
  unfold Machine.handInput
  split
  · exact refl s
  · exact (withTally ..).then_quiet (all _)

end Told

/-! ### The restore actions -/

theorem reportRelease_points (o : Bool) (n : Fin 32) (s : State) : (reportRelease o n s).points = s.points :=
  (reportRelease_notice o n s).tally.points

/-- A point at the restore action (R59). -/
def State.restoredPoint (s : State) (n : Fin 32) : Point :=
  if (s.point n).entry.mode = .off then s.point n
  else { s.point n with
    chatter := .clear
    debouncing :=
      if s.lineActive n = (s.point n).active then (s.point n).debouncing
      else some ⟨s.now, s.elapsed + (s.point n).entry.debounce * 4096000000000, true⟩ }

theorem restorePoint_point (n : Fin 32) (s : State) : (restorePoint n s).point n = s.restoredPoint n := by
  have kept := RestoreFrame.of_notice (reportRelease_notice true n s)
  have point : (reportRelease true n s).point n = s.point n := (reportRelease_notice true n s).tally.point_eq n
  obtain ⟨x, cleared⟩ : ∃ x : Point, x = { s.point n with chatter := .clear } := ⟨_, rfl⟩
  have own : ((reportRelease true n s).withPoint n x).point n = x := State.point_withPoint_self ..
  have line : ((reportRelease true n s).withPoint n x).lineActive n = s.lineActive n := by
    rw [State.lineActive, own, cleared, State.withPoint_lines, kept.lines]
    rfl
  unfold restorePoint State.restoredPoint
  split
  · rfl
  · dsimp only
    rw [setChatter, point, ← cleared, line, own]
    split
    · next same => rw [own, cleared, if_pos (by rw [cleared] at same; exact same)]
    · next differs =>
      rw [startDebounce, State.point_withPoint_self, own, if_neg (by rw [cleared] at differs; exact differs)]
      have now : ((reportRelease true n s).withPoint n x).now = s.now := kept.now
      rw [now, State.withPoint_elapsed, kept.elapsed, cleared]
      rfl

theorem restorePoint_other {n m : Fin 32} (other : m ≠ n) (s : State) : (restorePoint n s).point m = s.point m := by
  have released : (reportRelease true n s).point m = s.point m := (reportRelease_notice true n s).tally.point_eq m
  have cleared : (setChatter n .clear (reportRelease true n s)).point m = s.point m :=
    (State.point_withPoint_other _ _ other).trans released
  unfold restorePoint
  split
  · rfl
  · dsimp only
    split
    · exact cleared
    · exact (State.point_withPoint_other _ _ other).trans cleared

/-- Every point is taken up again at its line (R59). -/
theorem pointRestore_point (s : State) (n : Fin 32) : (pointRestore s).point n = s.restoredPoint n := by
  refine (atAllPoints_point (f := restorePoint) (Q := RestoreFrame s)
    (g := fun n x => if x.entry.mode = .off then x else { x with
      chatter := .clear
      debouncing :=
        if x.entry.polarity.level (s.lines.getLsbD n.val) = x.active then x.debouncing
        else some ⟨s.now, s.elapsed + x.entry.debounce * 4096000000000, true⟩ })
    (fun n t m other => restorePoint_other other t) (fun n t h => h.trans (restorePoint_frame n t)) (fun n t h => ?_) (.refl s) n)
  rw [restorePoint_point, State.restoredPoint, State.lineActive, h.lines, h.now, h.elapsed]

section Restore

variable {ok : Bool → RecordBody → Prop} (flagged : ∀ b, ok true b)

/-- The TALLY_STOP records of the runs that end at the restore action (R110, R121). -/
def State.stopsAtRestore (s : State) : Bool → RecordBody → Prop := fun o b =>
  ∃ i, (s.entry i).config.holds s.presentInputs = false ∧ (s.entry i).run = .running ∧
    (s.entry i).config.recordTransitions = true ∧ o = true ∧ b = .tallyStop i.val (s.entry i).runLength

/-- The RELEASED records of the suppressed points at the restore action (R59). -/
def State.releasesAtRestore (s : State) : Bool → RecordBody → Prop := fun o b =>
  ∃ (n : Fin 32) (edges w : Nat), (s.point n).entry.mode ≠ .off ∧ (s.point n).chatter = .suppressed edges w ∧ o = true ∧
    b = .chatter n.val .released edges

/-- The HANDOVER record of a release deadline that has passed (R137, R146). -/
def State.overdueNow (s : State) (o : Bool) : Bool → RecordBody → Prop := fun o' b =>
  ∃ d, s.duty.state = .due ∧ s.duty.handover.releaseDeadline = some d ∧ s.now.atOrAfter d = true ∧ o' = o ∧
    b = .handover .overdue s.duty.crew s.duty.handover.expected s.duty.handover.slot s.duty.handover.reoffers 0

namespace Told

include flagged

theorem tallyRestore (s : State) : Told ok s.stopsAtRestore s (tallyRestore s) := by
  obtain ⟨u, handed⟩ : ∃ u : State, u = s.withTally { s.tally with inputs := s.presentInputs, paused := false } := ⟨_, rfl⟩
  have taken : Told ok noRecord s u := handed ▸ withTally ..
  have entry (i : Fin 12) : u.entry i = s.entry i := by rw [handed]; rfl
  have inputs : u.tally.inputs = s.presentInputs := by rw [handed]; rfl
  have each := fold (ok := ok) (f := Machine.restoreTally) (P := fun i t => t.entry i = s.entry i ∧ t.tally.inputs = s.presentInputs)
    (must := fun i o b => (s.entry i).config.holds s.presentInputs = false ∧ (s.entry i).run = .running ∧
      (s.entry i).config.recordTransitions = true ∧ o = true ∧ b = .tallyStop i.val (s.entry i).runLength)
    (fun i j t other ⟨same, read⟩ => ⟨((restoreTally_only i t).other j other).trans same, (restoreTally_only i t).inputs.trans read⟩)
    (fun i t ⟨same, read⟩ => by
      have told := restoreTally (fun b _ => flagged b) rfl i t
      rw [State.condition, same, read] at told
      exact told)
    (List.finRange 12) (List.nodup_finRange 12) u fun i _ => ⟨entry i, inputs⟩
  unfold Machine.tallyRestore
  rw [← handed]
  exact ((taken.after_quiet each).then_quiet (compare _)).mono (fun _ _ => id) fun o b ⟨i, h⟩ => ⟨i, List.mem_finRange i, h⟩

theorem reportRelease (n : Fin 32) (s : State) :
    Told ok (fun o b => ∃ edges w, (s.point n).chatter = .suppressed edges w ∧ o = true ∧ b = .chatter n.val .released edges) s
      (reportRelease true n s) := by
  unfold Machine.reportRelease
  split
  · next edges w suppressed =>
    refine (produce (flagged (.chatter n.val .released edges)) s).mono (fun _ _ => id)
      fun o b ⟨k, v, again, flag, body⟩ => ⟨flag, ?_⟩
    obtain ⟨rfl, -⟩ := Chatter.suppressed.inj (suppressed.symm.trans again)
    exact body
  · next others => exact (refl s).mono (fun _ _ => id) fun o b ⟨k, v, again, _⟩ => absurd again (others k v)

theorem restorePoint (n : Fin 32) (s : State) :
    Told ok (fun o b => ∃ edges w, (s.point n).entry.mode ≠ .off ∧ (s.point n).chatter = .suppressed edges w ∧ o = true ∧
      b = .chatter n.val .released edges) s (restorePoint n s) := by
  have written (t : State) (x : Point) : Told ok noRecord t (t.withPoint n x) := of_queue rfl rfl rfl
  have cleared := ((reportRelease flagged n s).then_quiet
    (written _ { (Machine.reportRelease true n s).point n with chatter := .clear })).mono
    (must' := fun o b => ∃ edges w, (s.point n).entry.mode ≠ .off ∧ (s.point n).chatter = .suppressed edges w ∧ o = true ∧
      b = .chatter n.val .released edges) (fun _ _ => id) fun o b ⟨edges, w, _, h⟩ => ⟨edges, w, h⟩
  unfold Machine.restorePoint
  split
  · next off => exact (refl s).mono (fun _ _ => id) fun o b ⟨_, _, watched, _⟩ => absurd off watched
  · dsimp only
    split
    · exact cleared
    · exact cleared.then_quiet (written _ _)

theorem pointRestore (s : State) : Told ok s.releasesAtRestore s (pointRestore s) := by
  have each := fold (ok := ok) (f := Machine.restorePoint) (P := fun n t => t.point n = s.point n)
    (must := fun n o b => ∃ edges w, (s.point n).entry.mode ≠ .off ∧ (s.point n).chatter = .suppressed edges w ∧ o = true ∧
      b = .chatter n.val .released edges)
    (fun n m t other same => (restorePoint_other other t).trans same)
    (fun n t same => by
      have told := restorePoint flagged n t
      rw [same] at told
      exact told)
    (List.finRange 32) (List.nodup_finRange 32) s fun n _ => rfl
  exact each.mono (fun _ _ => id) fun o b ⟨n, edges, w, h⟩ => ⟨n, List.mem_finRange n, edges, w, h⟩

end Told

end Restore

end Sys2Proof.Machine
end

section
/-!
SUPPORT. The check of the duty unit at a return (R127, R137 to R139, R146): its records, and what it makes of the tallies, which is
nothing but at a lapse into VACANT.
-/

namespace Sys2Proof.Machine

/-- An action of the duty unit that tells records and leaves the tallies. -/
structure DutyTold (ok must : Bool → RecordBody → Prop) (s t : State) : Prop where
  told : Told ok must s t
  tally : t.tally = s.tally

namespace DutyTold

variable {ok must : Bool → RecordBody → Prop} {s t u : State} {o : Bool}

theorem refl (s : State) : DutyTold ok noRecord s s := ⟨.refl s, rfl⟩

theorem withDuty (s : State) (d : DutyUnit) : DutyTold ok noRecord s (s.withDuty d) := ⟨.of_queue rfl rfl rfl, rfl⟩

theorem withHandover (s : State) (h : HandoverFields) : DutyTold ok noRecord s (s.withHandover h) := withDuty ..

theorem then_quiet (h : DutyTold ok must s t) (k : DutyTold ok noRecord t u) : DutyTold ok must s u :=
  ⟨h.told.then_quiet k.told, k.tally.trans h.tally⟩

theorem after_quiet (h : DutyTold ok noRecord s t) (k : DutyTold ok must t u) : DutyTold ok must s u :=
  ⟨h.told.after_quiet k.told, k.tally.trans h.tally⟩

theorem quiet (h : DutyTold ok must s t) : DutyTold ok noRecord s t := ⟨h.told.quiet, h.tally⟩

theorem mono {must' : Bool → RecordBody → Prop} (h : DutyTold ok must s t) (fewer : ∀ o b, must' o b → must o b) :
    DutyTold ok must' s t := ⟨h.told.mono (fun _ _ => id) fewer, h.tally⟩

variable (flagged : ∀ b, ok o b)
include flagged

theorem produceHandover (phase : HandoverPhase) (x y : Nat) (k : Option Nat) (r z : Nat) (s : State) :
    DutyTold ok (fun o' b => o' = o ∧ b = .handover phase x y k r z) s (produceHandover o phase x y k r z s) := by
  have raised (t : State) : Told ok noRecord t (raiseAtAll .handover t) := .notice (raiseAtAll_frame ..) (raiseAtAll_queue ..)
  exact ⟨(Told.produce (flagged _) s).then_quiet (raised _), (raiseAtAll_frame ..).tally_eq.trans (produce_frame ..).tally_eq⟩

theorem reportHandover (phase : HandoverPhase) (n : Nat) (s : State) :
    DutyTold ok (fun o' b => o' = o ∧ b = .handover phase s.duty.crew s.duty.handover.expected s.duty.handover.slot
      s.duty.handover.reoffers n) s (reportHandover o phase n s) :=
  produceHandover flagged ..

theorem applyRota (s : State) : DutyTold ok noRecord s (applyRota o s) := by
  have told (b : RecordBody) (t : State) : DutyTold ok noRecord t (Machine.produce o b t) :=
    ⟨(Told.produce (flagged b) t).quiet, (produce_frame ..).tally_eq⟩
  unfold Machine.applyRota
  split
  · exact refl s
  · exact (withDuty ..).then_quiet (told ..)

/-- A release deadline that has passed tells its OVERDUE record (R137). -/
theorem expireRelease (s : State) : DutyTold ok (s.overdueNow o) s (expireRelease o s) := by
  unfold Machine.expireRelease
  split
  · next d state inForce =>
    split
    · exact ((withHandover s _).after_quiet (reportHandover flagged ..)).mono fun o' b ⟨_, _, _, _, flag, body⟩ => ⟨flag, body⟩
    · next early =>
      exact (refl s).mono fun o' b ⟨d', _, same, late, _⟩ => early (Option.some.inj (inForce.symm.trans same) ▸ late)
  · next others => exact (refl s).mono fun o' b ⟨d, state, inForce, _⟩ => others d state inForce

theorem reoffer (s : State) : DutyTold ok noRecord s (reoffer o s) := (withHandover ..).then_quiet (reportHandover flagged ..).quiet

theorem slotFalls (due : Instant) (k : Nat) (x : Slot) (n : Nat) (s : State) : DutyTold ok noRecord s (slotFalls o due k x n s) := by
  unfold Machine.slotFalls
  dsimp only
  split
  · exact withDuty ..
  · split
    · exact ((withDuty ..).then_quiet (withDuty ..)).then_quiet (reportHandover flagged ..).quiet
    · exact (((withDuty ..).then_quiet (withDuty ..)).then_quiet (reportHandover flagged ..).quiet).then_quiet
        (reportHandover flagged ..).quiet
  · exact ((withDuty ..).then_quiet (withHandover ..)).then_quiet (reportHandover flagged ..).quiet
  · exact ((withDuty ..).then_quiet (withHandover ..)).then_quiet (reportHandover flagged ..).quiet

theorem checkSlots (s : State) : DutyTold ok noRecord s (checkSlots o s) := by
  unfold Machine.checkSlots
  split
  · exact refl s
  · split
    · exact withDuty ..
    · split
      · exact slotFalls flagged ..
      · exact refl s

end DutyTold

/-! ### The states of a check -/

theorem reportHandover_duty (o : Bool) (phase : HandoverPhase) (n : Nat) (s : State) :
    (reportHandover o phase n s).duty = s.duty := by rw [(reportHandover_frame ..).1]

theorem expireRelease_state (o : Bool) (s : State) : (expireRelease o s).duty.state = s.duty.state := by
  unfold expireRelease
  split
  · split
    · rw [reportHandover_duty]
      rfl
    · rfl
  · rfl

/-- A slot that falls due leaves VACANT as it is, and enters it from no other state (R130). -/
theorem slotFalls_vacancy (o : Bool) (due : Instant) (k : Nat) (x : Slot) (n : Nat) (s : State) :
    (slotFalls o due k x n s).duty.state = .vacant ↔ s.duty.state = .vacant := by
  cases state : s.duty.state with
  | vacant => simp [slotFalls_vacant o state, state]
  | released => rw [(slotFalls_released o state).1.duty]; simp [state]
  | due => rw [(slotFalls_due o state).1.duty]; simp [state]
  | onDuty => rw [(slotFalls_onDuty o state).1.duty]; simp

theorem checkSlots_vacancy (o : Bool) (s : State) : (checkSlots o s).duty.state = .vacant ↔ s.duty.state = .vacant := by
  unfold checkSlots
  split
  · rfl
  · split
    · rfl
    · split
      · exact slotFalls_vacancy ..
      · rfl

/-- A check ends in VACANT exactly where the accept deadline leaves VACANT (R127). -/
theorem dutyCheck_vacancy {s : State} (o : Bool) (run : s.running = true) :
    (dutyCheck o s).duty.state = .vacant ↔ (expireAccept o (expireRelease o s)).duty.state = .vacant := by
  rw [dutyCheck_run o run]
  dsimp only
  split
  · rfl
  · rw [expireRelease_state, checkSlots_vacancy]

/-! ### The accept deadline -/

/-- The accept deadline leaves a released duty vacant (R139). -/
def State.Vacates (s : State) (o : Bool) : Prop := s.duty.state = .released ∧ (expireAccept o s).duty.state = .vacant

/-- The kinds of record of a restore action: the OUTAGE flag, but for the tallies at a lapse into VACANT (R146; log entry 11). -/
def restoreKind (lapsed : Prop) : Bool → RecordBody → Prop := fun o b => o = true ∨ lapsed ∧ b.ofTally = true

theorem restoreKind_flagged (lapsed : Prop) (b : RecordBody) : restoreKind lapsed true b := .inl rfl

/-- A lapse that keeps a crew on duty tells its record and leaves the tallies. -/
theorem lapse_stays {ok : Bool → RecordBody → Prop} (flagged : ∀ b, ok true b) {s : State}
    (stays : ¬ (s.duty.settings.lapse = .standing ∧ s.duty.settings.standingCrew = 0)) :
    DutyTold ok noRecord s (lapse true s) := by
  unfold lapse
  dsimp only
  split
  · exact (DutyTold.produceHandover flagged ..).quiet.then_quiet (.withDuty ..)
  · next standing =>
    rw [if_neg fun crew => stays ⟨standing, crew⟩]
    exact (DutyTold.produceHandover flagged ..).quiet.then_quiet (.withDuty ..)

/-- A lapse into VACANT hands the duty-held input to the tallies, an ordinary input change (R131, R139; log entry 11). -/
theorem lapse_vacates {ok : Bool → RecordBody → Prop} (flagged : ∀ b, ok true b)
    (tally : ∀ b : RecordBody, b.ofTally = true → ok false b) {s : State}
    (standing : s.duty.settings.lapse = .standing) (crew : s.duty.settings.standingCrew = 0) :
    Told ok noRecord s (lapse true s) ∧ (lapse true s).duty.state = .vacant ∧
      (s.tally.paused = false → (lapse true s).tally.inputs = putBit s.tally.inputs 34 false) := by
  obtain ⟨v, produced⟩ : ∃ v, v = produceHandover true .lapsedStanding s.duty.crew 0 s.duty.handover.slot
    s.duty.handover.reoffers 0 s := ⟨_, rfl⟩
  obtain ⟨u, vacated⟩ : ∃ u, u = applyRota true (v.withDuty { v.duty with
    state := .vacant, crew := 0, port := none, handover := .clear }) := ⟨_, rfl⟩
  have eq : lapse true s = handDutyHeld u := by
    rw [vacated, produced]
    unfold lapse
    simp only [standing, crew, if_true]
  have told : DutyTold ok noRecord s u := by
    rw [vacated, produced]
    exact ((DutyTold.produceHandover flagged ..).quiet.then_quiet (.withDuty ..)).then_quiet (.applyRota flagged _)
  have state : u.duty.state = .vacant := by
    rw [vacated]
    unfold applyRota
    split
    · rfl
    · rw [(produce_frame ..).1]
      rfl
  have handed : handDutyHeld u = handInput inputDuty false u := by rw [handDutyHeld, state]; rfl
  refine ⟨?_, ?_, fun unpaused => ?_⟩ <;> rw [eq]
  · exact told.told.then_quiet (handed ▸ Told.handInput tally ..)
  · rw [(handDutyHeld_frame u).1]
    exact state
  · have open_ : u.tally.paused = false := by rw [told.tally]; exact unpaused
    have inputs := handInput_inputs false (by decide : inputDuty < 36) open_
    rw [handed, inputs, told.tally]
    rfl

theorem expireAccept_released {o : Bool} {s : State} (other : s.duty.state ≠ .released) : expireAccept o s = s :=
  expireAccept_waits fun _ released => absurd released other

/-- What the accept deadline of a return tells, and what it makes of the tallies. -/
theorem expireAccept_told (s : State) :
    Told (restoreKind (s.Vacates true)) noRecord s (expireAccept true s) ∧
      (¬ s.Vacates true → (expireAccept true s).tally = s.tally) ∧
      (s.Vacates true → s.tally.paused = false → (expireAccept true s).tally.inputs = putBit s.tally.inputs 34 false) := by
  have flagged := restoreKind_flagged (s.Vacates true)
  have kept (h : DutyTold (restoreKind (s.Vacates true)) noRecord s (expireAccept true s)) (stays : ¬ s.Vacates true) :
      Told (restoreKind (s.Vacates true)) noRecord s (expireAccept true s) ∧
        (¬ s.Vacates true → (expireAccept true s).tally = s.tally) ∧
        (s.Vacates true → s.tally.paused = false → (expireAccept true s).tally.inputs = putBit s.tally.inputs 34 false) :=
    ⟨h.told, fun _ => h.tally, fun vacates => absurd vacates stays⟩
  by_cases waits : s.AcceptWaits
  · have still := expireAccept_waits (o := true) waits
    exact kept (by rw [still]; exact .refl s) fun ⟨released, vacant⟩ => by
      rw [still, released] at vacant
      exact absurd vacant nofun
  · simp only [State.AcceptWaits, not_forall, Bool.not_eq_false] at waits
    obtain ⟨deadline, state, inForce, late⟩ := waits
    have passes := expireAccept_passes (o := true) state inForce late
    by_cases below : s.duty.handover.reoffers < s.duty.settings.reofferLimit
    · rw [if_pos below] at passes
      exact kept (passes ▸ .reoffer flagged s) fun ⟨_, vacant⟩ => by
        rw [passes, reoffer, reportHandover_duty] at vacant
        exact absurd (state.symm.trans vacant) nofun
    · rw [if_neg below] at passes
      by_cases action : s.duty.settings.lapse = .standing ∧ s.duty.settings.standingCrew = 0
      · obtain ⟨standing, crew⟩ := action
        have vacates : s.Vacates true :=
          ⟨state, passes ▸ (lapse_vacates (ok := fun _ _ => True) (fun _ => trivial) (fun _ _ => trivial) standing crew).2.1⟩
        obtain ⟨told, -, inputs⟩ := lapse_vacates flagged (fun b ofTally => .inr ⟨vacates, ofTally⟩) standing crew
        rw [passes]
        exact ⟨told, fun stays => absurd vacates stays, fun _ => inputs⟩
      · refine kept (passes ▸ lapse_stays flagged action) fun ⟨_, vacant⟩ => ?_
        rw [passes] at vacant
        cases lapse : s.duty.settings.lapse with
        | revert =>
          rw [(lapse_revert true lapse).duty] at vacant
          exact absurd vacant nofun
        | standing =>
          rw [(lapse_standing true lapse fun crew => action ⟨lapse, crew⟩).duty] at vacant
          exact absurd vacant nofun

/-! ### The check -/

/-- Duty lapses into VACANT from one state to another. -/
def LapsesVacant (s t : State) : Prop := t.duty.state ≠ s.duty.state ∧ t.duty.state = .vacant

/-- The check of a return: its records, and what it makes of the tallies (R127, R146). -/
theorem dutyCheck_told {s : State} (run : s.running = true) :
    let t := dutyCheck true s
    Told (restoreKind (LapsesVacant s t)) (s.overdueNow true) s t ∧ (¬ LapsesVacant s t → t.tally = s.tally) ∧
      (LapsesVacant s t → s.tally.paused = false → t.tally.inputs = putBit s.tally.inputs 34 false) := by
  have vacancy := dutyCheck_vacancy true run
  have eq := dutyCheck_run true run
  dsimp only at eq ⊢
  have state := expireRelease_state true s
  have first := DutyTold.expireRelease (ok := restoreKind (LapsesVacant s (dutyCheck true s))) (restoreKind_flagged _) s
  generalize expireRelease true s = a at *
  obtain ⟨told, still, inputs⟩ := expireAccept_told a
  have lapses : a.Vacates true ↔ LapsesVacant s (dutyCheck true s) := by
    rw [State.Vacates, LapsesVacant, vacancy]
    refine ⟨fun ⟨released, vacant⟩ => ⟨?_, vacant⟩, fun ⟨moved, vacant⟩ => ⟨?_, vacant⟩⟩
    · rw [vacancy.mpr vacant, ← state, released]
      decide
    · by_contra other
      rw [expireAccept_released other, state] at vacant
      rw [vacancy.mpr (by rw [expireAccept_released other, state]; exact vacant), vacant] at moved
      exact moved rfl
  rw [lapses] at told still inputs
  generalize expireAccept true a = b at *
  have last : DutyTold (restoreKind (LapsesVacant s (dutyCheck true s))) noRecord b (dutyCheck true s) := by
    have flagged := restoreKind_flagged (LapsesVacant s (dutyCheck true s))
    generalize LapsesVacant s (dutyCheck true s) = lapsed at *
    rw [eq]
    split
    · exact .refl b
    · exact (DutyTold.checkSlots flagged b).then_quiet (DutyTold.expireRelease flagged _).quiet
  refine ⟨(first.told.then_quiet told).then_quiet last.told, fun stays => ?_, fun lapsed unpaused => ?_⟩
  · rw [last.tally, still stays, first.tally]
  · rw [last.tally, inputs lapsed (by rw [first.tally]; exact unpaused), first.tally]

end Sys2Proof.Machine
end

section
/-!
SUPPORT. The stages of a return after the ports (R183), what they make of the part from the state that the closing actions left, and the
claims about RETURN and about warm restarts.
-/

namespace Sys2Proof.Machine

/-! ### The restore records -/

/-- What a chain of restore actions tells is what `RestoreRecords` asks. -/
theorem RestoreRecords.of_told {s d t : State} {lapsed : Prop} {ends : Fin 12 → Prop} {must : Bool → RecordBody → Prop}
    (told : Told (restoreKind lapsed) must d t) (time : d.time = s.time) (burst : d.trip.burst = none)
    (stops : ∀ i, ends i → (s.entry i).run = .running → (s.entry i).config.recordTransitions = true →
      must true (.tallyStop i.val (s.entry i).runLength))
    (releases : ∀ (n : Fin 32) edges w, (s.point n).entry.mode ≠ .off → (s.point n).chatter = .suppressed edges w →
      must true (.chatter n.val .released edges))
    (overdue : ∀ x, s.duty.state = .due → s.duty.handover.releaseDeadline = some x → s.now.atOrAfter x = true →
      must true (.handover .overdue s.duty.crew s.duty.handover.expected s.duty.handover.slot s.duty.handover.reoffers 0)) :
    RestoreRecords s lapsed ends d.queue t.queue := by
  have header (o : Bool) (b : RecordBody) : d.recordNow o b = ⟨s.now, s.time.quality, 0, o, b⟩ := by
    simp only [State.recordNow, State.now, State.burstNumber, time, burst]
  obtain ⟨l, queue, all, among⟩ := told.records
  refine ⟨l, queue, fun r member => ?_, fun i ended run recorded => ?_, fun n edges w watched suppressed => ?_,
    fun x state inForce late => ?_⟩
  · obtain ⟨o, b, kind, rfl⟩ := all r member
    rw [header]
    exact ⟨rfl, rfl, rfl, kind⟩
  · exact header _ _ ▸ among _ _ (stops i ended run recorded)
  · exact header _ _ ▸ among _ _ (releases n edges w watched suppressed)
  · exact header _ _ ▸ among _ _ (overdue x state inForce late)

/-! ### The stages after the ports -/

theorem tallyRestore_only (s : State) : TallyFrame s (tallyRestore s) := by
  have handed (x : TallyUnit) : TallyFrame s (s.withTally x) := ⟨rfl, .refl s⟩
  have evaluated (t : State) : TallyFrame t (atAllTallies restoreTally t) :=
    atAllTallies_keeps (P := TallyFrame t) (fun i _ h => h.trans (restoreTally_frame i _)) (.refl t)
  exact (handed _).trans ((evaluated _).trans (compare_frame _).tally)

theorem restorePoint_only (n : Fin 32) (s : State) :
    (restorePoint n s).tally = s.tally ∧ (restorePoint n s).duty = s.duty := by
  have notice := reportRelease_notice true n s
  have released : (setChatter n .clear (reportRelease true n s)).tally = s.tally ∧
      (setChatter n .clear (reportRelease true n s)).duty = s.duty :=
    ⟨notice.tally_eq, (DutyAlike.of_notice notice).duty⟩
  unfold restorePoint
  split
  · exact ⟨rfl, rfl⟩
  · dsimp only
    split
    · exact released
    · exact released

theorem pointRestore_only (s : State) : (pointRestore s).tally = s.tally ∧ (pointRestore s).duty = s.duty :=
  atAllPoints_keeps (P := fun t => t.tally = s.tally ∧ t.duty = s.duty)
    (fun n t h => ⟨(restorePoint_only n t).1.trans h.1, (restorePoint_only n t).2.trans h.2⟩) ⟨rfl, rfl⟩

section Blocks

variable (cause : PowerCause) {r : State}

theorem producePower_frame (r : State) : NoticeFrame r (producePower cause r) := produce_frame ..

theorem presentInputs_congr {s t : State} (points : t.points = s.points) (trip : t.trip = s.trip) (time : t.time = s.time)
    (duty : t.duty = s.duty) : t.presentInputs = s.presentInputs := by
  simp only [State.presentInputs, State.stateVector, State.point, points, trip, time, duty]

/-- The tally unit, and what else the tally and the point unit leave, before the check of the duty unit. -/
theorem restoreBlocks_before (r : State) :
    let y := pointRestore (tallyRestore (producePower cause r))
    RestoreFrame r y ∧ y.duty = r.duty ∧ y.tally.inputs = r.presentInputs ∧ y.tally.paused = false ∧ TalliesKeepSettings r y ∧
      (∀ i, y.entry i = (r.entry i).restored ((r.entry i).config.holds r.presentInputs)) ∧
      (∀ n, y.point n = r.restoredPoint n) ∧
      Told (restoreKind False) (fun o b => r.stopsAtRestore o b ∨ r.releasesAtRestore o b) (producePower cause r) y := by
  have power := producePower_frame cause r
  have powered : RestoreFrame r (producePower cause r) := .of_notice power
  have entry := power.entry
  have points := power.tally.points
  have tally := power.tally_eq
  have duty : (producePower cause r).duty = r.duty := by rw [power.1]
  dsimp only
  generalize producePower cause r = d at *
  have inputs : d.presentInputs = r.presentInputs := presentInputs_congr points powered.trip powered.time duty
  have stops : d.stopsAtRestore = r.stopsAtRestore := by
    funext o b
    simp only [State.stopsAtRestore, entry, inputs]
  have toldTally := Told.tallyRestore (restoreKind_flagged False) d
  rw [stops] at toldTally
  obtain ⟨entries, read, unpaused⟩ := tallyRestore_tally d
  have settings := tallyRestore_settings d
  have restored := tallyRestore_frame d
  have xpoints : (tallyRestore d).points = d.points := (tallyRestore_only d).points
  have xduty : (tallyRestore d).duty = d.duty := by rw [(tallyRestore_only d).1]
  generalize tallyRestore d = x at *
  have frame := powered.trans restored
  have point (n : Fin 32) : x.point n = r.point n := by rw [State.point, State.point, xpoints, points]
  have releases : x.releasesAtRestore = r.releasesAtRestore := by
    funext o b
    simp only [State.releasesAtRestore, point]
  have toldPoint := Told.pointRestore (restoreKind_flagged False) x
  rw [releases] at toldPoint
  obtain ⟨ptally, pduty⟩ := pointRestore_only x
  have own := pointRestore_point x
  have final := frame.trans (pointRestore_frame x)
  generalize pointRestore x = y at *
  refine ⟨final, pduty.trans (xduty.trans duty), ?_, ?_, fun i => ?_, fun i => ?_, fun n => ?_, toldTally.trans toldPoint⟩
  · rw [ptally, read, inputs]
  · rw [ptally, unpaused]
  · rw [State.entry, ptally, ← entry i]
    exact settings i
  · rw [State.entry, ptally, ← entry i, ← inputs]
    exact entries i
  · rw [own n, State.restoredPoint, State.restoredPoint, point, frame.now, frame.elapsed, State.lineActive, State.lineActive, point,
      frame.lines]

end Blocks

/-! ### The stages from the state that the closing actions left -/

/-- What the stages after the ports make of a part that stands as `s` but for its supply and its ports (R121, R146, R183). -/
structure Restored (cause : PowerCause) (s r t : State) : Prop where
  frame : RestoreFrame r t
  settings : TalliesKeepSettings s t
  paused : t.tally.paused = false
  stays : ¬ LapsesVacant s t → t.tally.inputs = s.presentInputs ∧
    ∀ i, t.entry i = (s.entry i).restored ((s.entry i).config.holds s.presentInputs)
  vacates : LapsesVacant s t → t.tally.inputs = putBit s.presentInputs 34 false
  point : ∀ n, t.point n = s.restoredPoint n
  duty : t.duty = (dutyCheck true { s with supply := t.supply }).duty
  records : RestoreRecords s (LapsesVacant s t) (fun i => (s.entry i).config.holds s.presentInputs = false)
    (producePower cause r).queue t.queue
  notice : ∀ m : Notice, m ≠ .gap → m ≠ .events → m ≠ .tallyDue → m ≠ .handover → NoticeKept m r t
  handover : NothingFallsDue s → NoticeKept .handover r t

/-- Nothing falls due at a check of a part with the same instant, quality and duty unit (R127). -/
theorem NothingFallsDue.alike {s t : State} (h : NothingFallsDue s) (now : t.now = s.now)
    (quality : t.time.quality = s.time.quality) (duty : t.duty = s.duty) : NothingFallsDue t := by
  unfold NothingFallsDue at *
  rw [quality, duty, now]
  exact h

theorem restoreBlocks_restored (cause : PowerCause) (s : State) (m : SupplyMonitor) (ports : PerPort PortUnit)
    (run : ({ s with supply := m, ports := ports } : State).running = true) (burst : s.trip.burst = none) :
    Restored cause s { s with supply := m, ports := ports }
      (restoreBlocks cause { s with supply := m, ports := ports }) := by
  obtain ⟨r, standing⟩ : ∃ r : State, r = { s with supply := m, ports := ports } := ⟨_, rfl⟩
  have time : r.time = s.time := by rw [standing]
  have duty : r.duty = s.duty := by rw [standing]
  have trip : r.trip.burst = none := by rw [standing]; exact burst
  have supply : r.supply = m := by rw [standing]
  rw [← standing] at run ⊢
  obtain ⟨before, yduty, inputs, paused, settings, entries, point, told⟩ := restoreBlocks_before cause r
  have wholeFrame := restoreBlocks_frame cause r
  have rules (k : Notice) (gap : k ≠ .gap) (events : k ≠ .events) (due : k ≠ .tallyDue) :=
    NoticeKept.rules (n := k) gap events due
  have notice (k : Notice) (gap : k ≠ .gap) (events : k ≠ .events) (due : k ≠ .tallyDue) (handover : k ≠ .handover) :
      NoticeKept k r (restoreBlocks cause r) := (rules k gap events due).returnBlocks handover cause r
  have still : NoticeKept .handover r (pointRestore (tallyRestore (producePower cause r))) :=
    let kept := rules .handover (by decide) (by decide) (by decide)
    kept.trans (kept.producePower cause r) (kept.trans (kept.tallyRestore _) (kept.pointRestore _))
  have powered := (producePower_frame cause r)
  have dtime := (RestoreFrame.of_notice powered).time
  have dtrip := (RestoreFrame.of_notice powered).trip
  unfold restoreBlocks at *
  generalize power : producePower cause r = d at *
  generalize pointRestore (tallyRestore d) = y at *
  have yrun : y.running = true := before.running.trans run
  obtain ⟨checked, stays, vacates⟩ := dutyCheck_told yrun
  have keeps := SettingsKept.dutyCheck true y
  have points : (dutyCheck true y).points = y.points := by rw [(dutyCheck_frame true y).1]
  have alike : DutyAlike { s with supply := m } y := by
    refine ⟨before.time.trans time, yduty.trans duty, yrun.trans ?_⟩
    rw [← run, State.running, supply]
    rfl
  have checkedDuty := (alike.dutyCheck true).duty
  have now : y.now = s.now := before.now.trans (by rw [standing]; rfl)
  have nothing (h : NothingFallsDue s) : dutyCheck true y = y :=
    dutyCheck_nothing true (h.alike now (congrArg TimeBase.quality (before.time.trans time)) (yduty.trans duty))
  have tsupply := wholeFrame.supply.trans supply
  have lapses : LapsesVacant y (dutyCheck true y) ↔ LapsesVacant s (dutyCheck true y) := by
    rw [LapsesVacant, LapsesVacant, yduty, duty]
  have handover : NothingFallsDue s → NoticeKept .handover r (dutyCheck true y) := fun h => by
    rw [nothing h]
    exact still
  have overdue : y.overdueNow true = s.overdueNow true := by
    funext o b
    simp only [State.overdueNow, yduty, duty, now]
  rw [overdue] at checked
  generalize dutyCheck true y = t at *
  rw [lapses] at stays vacates
  refine ⟨wholeFrame, fun i => ?_, keeps.paused.trans paused, fun h => ?_, fun h => ?_, fun n => ?_, ?_, ?_, notice, handover⟩
  · have entry : r.entry i = s.entry i := by rw [standing]; rfl
    exact entry ▸ ⟨(keeps.settings i).1.trans (settings i).1, (keeps.settings i).2.trans (settings i).2⟩
  · have tally := stays h
    refine ⟨by rw [tally, inputs, standing]; rfl, fun i => ?_⟩
    rw [State.entry, tally]
    exact (entries i).trans (by rw [standing]; rfl)
  · rw [vacates h paused, inputs, standing]
    rfl
  · rw [State.point, points]
    refine (point n).trans ?_
    rw [standing]
    rfl
  · rw [tsupply]
    exact checkedDuty
  · have whole := (told.mono (fun o b kind => .inl (kind.resolve_right fun h => h.1)) fun _ _ => id).trans
      (checked.mono (ok' := restoreKind (LapsesVacant s t)) (fun o b kind => kind.imp_right fun h => ⟨lapses.mp h.1, h.2⟩)
        fun _ _ => id)
    rw [power]
    refine .of_told whole (dtime.trans time) ((congrArg TripUnit.burst dtrip).trans trip) (fun i ended running recorded => ?_)
      (fun n edges w watched suppressed => ?_) fun x state inForce late => ?_
    · refine .inl (.inl ⟨i, ?_⟩)
      rw [standing]
      exact ⟨ended, running, recorded, rfl, rfl⟩
    · refine .inl (.inr ⟨n, edges, w, ?_⟩)
      rw [standing]
      exact ⟨watched, suppressed, rfl, rfl⟩
    · exact .inr ⟨x, state, inForce, late, rfl, rfl⟩

end Sys2Proof.Machine
end

section
/-!
SUPPORT. A return with its ports (R167, R168, R183, R186), and the claim about RETURN.
-/

namespace Sys2Proof.Machine

/-! ### A return with its ports -/

section Return

variable (cause : PowerCause) (pins : AddressPins) {v : State}

/-- The part with the supply on and the ports at their addresses and their level notices (R183). -/
def State.atAddresses (v : State) (pins : AddressPins) : State := atAllPorts (returnPort pins) (v.returned pins)

theorem returnStages_restored (burst : v.trip.burst = none) :
    Restored cause v (v.atAddresses pins) (returnStages cause pins v) :=
  restoreBlocks_restored cause v { v.supply with state := .run, qualification := none, addressPins := pins }
    (v.atAddresses pins).ports (v.returned_running pins) burst

theorem State.atAddresses_eq : v.atAddresses pins = { v with
    supply := { v.supply with state := .run, qualification := none, addressPins := pins }
    ports := (v.atAddresses pins).ports } := rfl

theorem State.atAddresses_port (q : Port) : (v.atAddresses pins).port q =
    { v.port q with
      address := if pinOf pins q then 0x53 else 0x52, pending := ((v.atAddresses pins).port q).pending
      line := ((v.atAddresses pins).port q).line } := by
  have unit : (v.atAddresses pins).port q = (v.returned pins).returnedUnit pins q := returnPorts_port pins (v.returned pins) q
  rw [unit]
  rfl

theorem State.atAddresses_pending (q : Port) : ((v.atAddresses pins).port q).pending = (v.returned pins).levelNotices q := by
  have unit : (v.atAddresses pins).port q = (v.returned pins).returnedUnit pins q := returnPorts_port pins (v.returned pins) q
  rw [unit]
  rfl

variable {cause pins} {t : State} (h : Restored cause v (v.atAddresses pins) t)
include h

theorem Restored.port (q : Port) : t.port q =
    { v.port q with
      address := if pinOf pins q then 0x53 else 0x52, pending := (t.port q).pending, line := (t.port q).line } := by
  refine (h.frame.2 q).trans ?_
  rw [State.atAddresses_port pins q]

theorem Restored.alarms : AlarmsCompared t := by
  have time : t.time = v.time := h.frame.time
  intro q
  have alarm : (t.port q).alarm = (v.port q).alarm := by rw [h.port q]
  have has := (h.notice .alarm (by decide) (by decide) (by decide) (by decide)).has q
  have same : (v.returned pins).alarmHolds q = t.alarmHolds q := alarmHolds_congr (s := t) time.symm q alarm.symm
  rw [has, State.atAddresses_pending, (NoticeSet.has_levelNotices _ q).2.2.1, same, State.alarmHolds_eq]
  rfl

/-- The part after a return: the supply monitor on, and the blocks that the stages restore. -/
theorem Restored.eq : t = { v with
    supply := { v.supply with state := .run, qualification := none, addressPins := pins }
    points := t.points, tally := t.tally, queue := t.queue, duty := t.duty, ports := t.ports } := by
  have frame := h.frame.1
  rw [State.atAddresses_eq] at frame
  exact frame

omit h in
/-- A latched notice that no stage of the return raises is not pending after it (R167). -/
theorem Restored.clear {m : Notice} (latched : m ≠ .events ∧ m ≠ .tallyDue ∧ m ≠ .alarm)
    (kept : NoticeKept m (v.atAddresses pins) t) (q : Port) : (t.port q).pending.has m = false := by
  obtain ⟨events, due, alarm⟩ := latched
  rw [kept.has q, State.atAddresses_pending]
  exact (NoticeSet.has_levelNotices _ q).2.2.2 m events due alarm

end Return

/-- The queue after the POWER record of a return (R186). -/
theorem producePower_queue {cause : PowerCause} {pins : AddressPins} {v : State} (warm : cause ≠ .cold)
    (burst : v.trip.burst = none) :
    (producePower cause (v.atAddresses pins)).queue =
      v.queue.report v.now v.time.quality 0 false
        (.power cause (some (v.supply.outageStart.getD .zero)) v.supply.qualityAtStart v.time.quality) := by
  have header (b : RecordBody) : (v.atAddresses pins).reported false b = v.queue.report v.now v.time.quality 0 false b := by
    have number : (v.atAddresses pins).burstNumber = 0 := by
      show v.burstNumber = 0
      rw [State.burstNumber, burst]
    rw [State.reported, number]
    rfl
  rw [producePower, produce_queue, header, if_neg warm]
  rfl

/-- Settles O59: a return that comes too early does nothing, and one with retention valid runs its stages. -/
theorem returnRestoresTheBlocks : Obligations.ReturnRestoresTheBlocks := by
  unfold Obligations.ReturnRestoresTheBlocks
  intro pins high s e backup qualification
  refine ⟨fun early => congrArg Host.Outcome.next ?_, fun late valid burst => ?_⟩
  · unfold expireQualification
    rw [qualification]
    exact if_neg (by simp [State.reached, early])
  · obtain ⟨v, seen⟩ : ∃ v, v = s.withSupply (s.supply.sawReset high s.elapsed) := ⟨_, rfl⟩
    have next : exec (.returnOfSupply pins high) s = .next (returnStages .outage pins v) := by
      refine congrArg Host.Outcome.next ?_
      have reached : (!s.running && s.reached e) = true := by simp [backup, State.reached, late]
      unfold expireQualification
      rw [qualification]
      dsimp only
      rw [if_pos reached, if_pos valid, outageReturn, seen]
    have quiet : v.trip.burst = none := by rw [seen]; exact burst
    have restored := returnStages_restored .outage pins quiet
    have power := producePower_queue (cause := .outage) (pins := pins) (v := v) (by decide) quiet
    generalize returnStages .outage pins v = t at *
    have alarms := restored.alarms
    have port := restored.port
    have records := restored.records
    have duty := restored.duty
    rw [power] at records
    have eq := restored.eq
    subst seen
    refine ⟨t, next, ?_, port, records, restored.paused, restored.settings, alarms, duty, fun h => ?_, fun moved vacant => ?_,
      fun n idle => ?_⟩
    · exact eq
    · exact restored.stays fun lapsed => h.elim (fun same => lapsed.1 same) fun taken => taken lapsed.2
    · exact restored.vacates ⟨moved, vacant⟩
    · refine (restored.point n).trans ?_
      unfold State.restoredPoint
      rw [← idle]
      rfl

end Sys2Proof.Machine
end

section
/-!
SUPPORT. A warm restart (R120, R121, R177, R185, R186): the closing actions and the stages of the return at one tick, and the claim
about the two warm restarts.
-/

namespace Sys2Proof.Machine

/-! ### What the closing actions leave for the return -/

section Closing

variable {order : ClosingOrder} {x v : State} (h : Closed order x v)
include h

theorem Closed.now : v.now = x.now := by rw [h.eq]; rfl

theorem Closed.quality : v.time.quality = x.time.quality := by rw [h.eq]

theorem Closed.duty : v.duty = x.duty := by rw [h.eq]

theorem Closed.burst : v.trip.burst = none := by rw [h.eq]; rfl

theorem Closed.lineActive (n : Fin 32) : v.lineActive n = x.lineActive n := by
  have lines : v.lines = x.lines := by rw [h.eq]
  rw [State.lineActive, State.lineActive, h.point n, lines]

/-- The inputs at a warm restart: those of the part with its burst closed (R102, R121). -/
theorem Closed.presentInputs : v.presentInputs = putBit x.presentInputs 35 false := by
  have latch : (v.trip.latch != .armed) = (x.trip.latch != .armed) := by
    have trip : v.trip = x.trip.closed := by rw [h.eq]
    rw [trip, TripUnit.closed]
    dsimp only
    split
    · next closing => rw [closing.2]; rfl
    · rfl
  refine BitVec.eq_of_getLsbD_eq fun k hk => ?_
  rw [presentInputs_getLsbD v hk]
  by_cases burst : k = 35
  · rw [burst, getLsbD_putBit_self _ _ _ (by decide)]
    exact (v.source_burst).trans (by rw [h.burst]; rfl)
  · rw [getLsbD_putBit_other _ _ burst, presentInputs_getLsbD x hk]
    obtain low | rfl | rfl | rfl | rfl := input_cases hk
    · have active : (v.point ⟨k, low⟩).active = (x.point ⟨k, low⟩).active := by rw [h.point]
      exact (v.source_point ⟨k, low⟩).trans (active.trans (x.source_point ⟨k, low⟩).symm)
    · rw [v.source_firstOut, x.source_firstOut, latch]
    · rw [v.source_locked, x.source_locked, h.quality]
    · rw [v.source_duty, x.source_duty, h.duty]
    · exact absurd rfl burst

/-- The restore records, told from the part before the closing actions: a run that the close leaves is the run that ends. -/
theorem Closed.restoreRecords {lapsed : Prop} {ends : Fin 12 → Prop} {q q' : EventQueue}
    (records : RestoreRecords v lapsed ends q q') :
    RestoreRecords x lapsed (fun i => (x.trip.burst = none ∨ order = .tallyFirst) ∧ ends i) q q' := by
  obtain ⟨l, queue, all, stops, releases, overdue⟩ := records
  rw [h.now, h.quality] at all stops releases overdue
  rw [h.duty] at overdue
  refine ⟨l, queue, all, fun i ⟨unmoved, ended⟩ run recorded => ?_, fun n edges w watched suppressed => ?_, overdue⟩
  · have entry : v.entry i = x.entry i := by
      rw [h.entry unmoved i, Tally.closed, if_neg (by rw [run]; decide)]
    have stop := stops i ended
    rw [entry] at stop
    exact stop run recorded
  · have release := releases n edges w
    rw [h.point n] at release
    exact release watched suppressed

end Closing

/-! ### A warm restart -/

/-- What a warm restart of a part that stands as `u`, with what is answered at each port, leaves of it. -/
structure Restarted (u : State) (cause : PowerCause) (pins : AddressPins) (order : ClosingOrder) (armed high : Bool)
    (answer : Port → Response) (t : State) : Prop where
  eq : t = { u with
    supply := { u.supply with
      qualification := none, outageStart := some u.now, qualityAtStart := u.time.quality
      resetArmed := armed, resetHigh := high, addressPins := pins, restartAt := some u.elapsed }
    time := { u.time with staged := none }
    points := t.points
    trip := u.trip.closed
    tally := t.tally, queue := t.queue, duty := t.duty, ports := t.ports }
  port : ∀ q, t.port q = { u.port q with
    frame := none, refusal := none, response := answer q
    address := if pinOf pins q then 0x53 else 0x52, pending := (t.port q).pending, line := (t.port q).line }
  settings : TalliesKeepSettings u t
  paused : t.tally.paused = false
  alarms : AlarmsCompared t
  latched : ∀ q, (t.port q).pending.has .firstOut = false ∧ (t.port q).pending.has .quality = false
  handover : NothingFallsDue u → ∀ q, (t.port q).pending.has .handover = false
  duty : t.duty = (dutyCheck true { u with supply := t.supply }).duty
  stays : ¬ LapsesVacant u t → t.tally.inputs = putBit u.presentInputs 35 false ∧
    (u.trip.burst = none ∨ order = .tallyFirst →
      ∀ i, t.entry i = (u.entry i).closed.restored ((u.entry i).config.holds (putBit u.presentInputs 35 false)))
  vacates : LapsesVacant u t → t.tally.inputs = putBit (putBit u.presentInputs 35 false) 34 false
  records : ∃ closed : EventQueue, u.queue.Reports closed ∧ (u.trip.burst = none → closed = u.queue) ∧
    (∀ b, u.trip.burst = some b → u.trip.latch = .provisional →
      (u.reported false (.firstOut (u.trip.firstOut.getD .zero) u.trip.overflow u.trip.ranks)).Reports closed) ∧
    RestoreRecords u (LapsesVacant u t)
      (fun i => (u.trip.burst = none ∨ order = .tallyFirst) ∧ (u.entry i).config.holds (putBit u.presentInputs 35 false) = false)
      (closed.report u.now u.time.quality 0 false (.power cause (some u.now) u.time.quality u.time.quality)) t.queue
  point : ∀ n, t.point n =
    if (u.point n).entry.mode = .off then { u.point n with debouncing := none }
    else { u.point n with
      chatter := .clear
      debouncing :=
        if u.lineActive n = (u.point n).active then none
        else some ⟨u.now, u.elapsed + (u.point n).entry.debounce * 4096000000000, true⟩ }

/-- The answer of a restart is left at its port after the stages (R177). -/
theorem Restarted.respond {u t : State} {cause : PowerCause} {pins : AddressPins} {order : ClosingOrder} {armed high : Bool}
    {answer : Port → Response} (h : Restarted u cause pins order armed high answer t) (p : Port) (r : Response) :
    Restarted u cause pins order armed high (fun q => if q = p then r else answer q) (t.respond p r) := by
  have pending (q : Port) := t.pending_respond p q r
  refine ⟨(congrArg (State.respond · p r) h.eq).trans rfl, fun q => ?_, h.settings, h.paused, h.alarms.respond p r, fun q => ?_,
    fun nothing q => ?_, h.duty, h.stays, h.vacates, h.records, h.point⟩
  · by_cases e : q = p
    · subst e
      rw [t.respond_self, if_pos rfl, h.port q]
    · rw [t.respond_other r e, if_neg e]
      exact h.port q
  · rw [pending]
    exact h.latched q
  · rw [pending]
    exact h.handover nothing q

/-- The closing actions and the stages of the return, from a part that stands as `u` but for its ports and its supply. -/
theorem returnStages_restarted {u x : State} {cause : PowerCause} (warm : cause ≠ .cold) (pins : AddressPins)
    (order : ClosingOrder) {armed high : Bool} {ports : PerPort PortUnit} (run : u.running = true)
    (same : ∀ q, (ports.get q).close = (u.port q).close)
    (start : x = { u with
      ports := ports
      supply := { u.supply with
        outageStart := some u.now, qualityAtStart := u.time.quality, resetArmed := armed, resetHigh := high
        restartAt := some u.elapsed } }) :
    Restarted u cause pins order armed high (fun _ => .none) (returnStages cause pins (closingActions order x)) := by
  have closed := closingActions_closed order x
  generalize closingActions order x = v at *
  have restored := returnStages_restored cause pins closed.burst
  have power := producePower_queue (pins := pins) warm closed.burst
  generalize returnStages cause pins v = t at *
  have inputs : v.presentInputs = putBit u.presentInputs 35 false := by rw [closed.presentInputs, start]; rfl
  have duty : v.duty = u.duty := closed.duty.trans (by rw [start])
  have now : v.now = u.now := closed.now.trans (by rw [start]; rfl)
  have quality : v.time.quality = u.time.quality := closed.quality.trans (by rw [start])
  have config (i : Fin 12) : (v.entry i).config = (u.entry i).config := (closed.settings i).1.trans (by rw [start]; rfl)
  have burst : x.trip.burst = u.trip.burst := by rw [start]
  have lapses : LapsesVacant v t ↔ LapsesVacant u t := by rw [LapsesVacant, LapsesVacant, duty]
  have port (q : Port) : v.port q = (u.port q).close := by
    rw [closed.port q, start]
    exact same q
  have supply : v.supply = x.supply := by rw [closed.eq]
  have clear {m : Notice} (latched : m ≠ .events ∧ m ≠ .tallyDue ∧ m ≠ .alarm) (kept : NoticeKept m (v.atAddresses pins) t) :=
    Restored.clear latched kept
  have kept (m : Notice) := restored.notice m
  refine ⟨?_, fun q => ?_, fun i => ?_, restored.paused, restored.alarms,
    fun q => ⟨clear (by decide) (kept .firstOut (by decide) (by decide) (by decide) (by decide)) q,
      clear (by decide) (kept .quality (by decide) (by decide) (by decide) (by decide)) q⟩,
    fun nothing q => clear (by decide) (restored.handover (nothing.alike now quality duty)) q, ?_,
    fun stays => ⟨?_, fun unmoved i => ?_⟩, fun vacates => ?_, ⟨v.queue, ?_, fun none => ?_, fun b opened provisional => ?_, ?_⟩,
    fun n => ?_⟩
  · have state : u.supply.state = .run := beq_iff_eq.mp run
    refine restored.eq.trans ?_
    rw [supply, ← state]
    refine (congrArg (fun w : State => { w with
      supply := { x.supply with state := u.supply.state, qualification := none, addressPins := pins }
      points := t.points, tally := t.tally, queue := t.queue, duty := t.duty, ports := t.ports }) closed.eq).trans ?_
    rw [start]
  · rw [restored.port q, port q]
    rfl
  · have entry : x.entry i = u.entry i := by rw [start]; rfl
    exact entry ▸ ⟨(restored.settings i).1.trans (closed.settings i).1, (restored.settings i).2.trans (closed.settings i).2⟩
  · have time : v.time = { u.time with staged := none } := by rw [closed.eq, start]
    have alike : DutyAlike (Veil.unstaged.on { u with supply := t.supply }) { v with supply := t.supply } := ⟨time, duty, rfl⟩
    rw [restored.duty, (alike.dutyCheck true).duty, Veil.dutyCheck]
    rfl
  · exact (restored.stays (mt lapses.mp stays)).1.trans inputs
  · rw [(restored.stays (mt lapses.mp stays)).2 i, config, inputs, closed.entry (by rw [burst]; exact unmoved) i, start]
    rfl
  · rw [restored.vacates (lapses.mpr vacates), inputs]
  · have reports := closed.reports
    rw [start] at reports
    exact reports
  · exact (closed.quiet (.inl (burst.trans none))).trans (by rw [start])
  · have first := closed.firstOut b (burst.trans opened)
    rw [start] at first
    exact first provisional
  · have records := closed.restoreRecords restored.records
    simp only [power, now, quality, supply, inputs, config, lapses, burst] at records
    rw [start] at records
    exact records
  · have elapsed : v.elapsed = u.elapsed := by rw [closed.eq, start]
    rw [restored.point n, State.restoredPoint, closed.lineActive, closed.point n, now, elapsed, start]
    rfl

/-! ### The two warm restarts -/

section Commands

variable (pins : AddressPins) (order : ClosingOrder) {s : State}

theorem exec_restart (p : Port) (run : s.running = true) : exec (.restart p [0] pins order) s =
    .next (s.reply p 0x4F (serveRestart p pins order [] (s.idleFrame p))) :=
  congrArg Host.Outcome.next (takeRequest_exactly (n := 0) (args := []) run rfl (by decide))

theorem SupplyMonitor.recognises_eq (m : SupplyMonitor) (elapsed : Nat) :
    m.recognises elapsed = (m.resetArmed && decide (m.resetHighAt + 1000000000 + 100 * 4096000000 ≤ elapsed)) := rfl

theorem takeBoundary_supply (s : State) : (takeBoundary s).supply = s.supply := by rw [(takeBoundary_frame s).1]

/-- RESTART from port A (R177). -/
theorem exec_restart_restarted (run : s.running = true) :
    ∃ t, exec (.restart .a [0] pins order) s = .next t ∧
      Restarted (takeBoundary s) .restartRequest pins order s.supply.resetArmed s.supply.resetHigh
        (fun q => if q = .a then .ok [] else .none) t := by
  have taken : takeBoundary (s.idleFrame .a) = (takeBoundary s).idleFrame .a := Veil.takeBoundary (v := .frame .a) s
  have next := exec_restart pins order .a run
  rw [serveRestart, if_pos rfl, warmRestart, taken] at next
  have supply := takeBoundary_supply s
  have running : (takeBoundary s).running = true := (congrArg (fun m : SupplyMonitor => m.state == .run) supply).trans run
  generalize takeBoundary s = u at *
  have close (q : Port) : ((u.idleFrame .a).ports.get q).close = (u.port q).close := by
    by_cases e : q = .a
    · subst e
      exact (congrArg PortUnit.close (u.idleFrame_self .a)).trans rfl
    · exact congrArg PortUnit.close (PortsKeep.idleFrame_other u e)
  have restarted := returnStages_restarted (cause := .restartRequest) (x := noteRestart (writeStart (u.idleFrame .a)))
    (by decide) pins order (armed := s.supply.resetArmed) (high := s.supply.resetHigh) running close (by
      rw [← supply]
      rfl)
  exact ⟨_, next, restarted.respond .a (.ok [])⟩

/-- RESET low for 100 µs with recognition armed (R185). -/
theorem exec_resetAssertion_restarted (run : s.running = true) (armed : s.supply.resetArmed = true)
    (low : s.supply.resetHighAt + 1000000000 + 100 * 4096000000 ≤ s.elapsed) :
    ∃ t, exec (.resetAssertion pins order) s = .next t ∧
      Restarted (takeBoundary s) .resetLine pins order false false (fun _ => .none) t := by
  have recognised : (s.running && s.supply.recognises s.elapsed) = true := by
    rw [run, s.supply.recognises_eq, armed, decide_eq_true low]
    rfl
  have taken : takeBoundary (s.withSupply { s.supply with resetArmed := false, resetHigh := false }) =
      Veil.reset.on (takeBoundary s) := Veil.takeBoundary (v := .reset) s
  have supply := takeBoundary_supply s
  have running : (takeBoundary s).running = true := (congrArg (fun m : SupplyMonitor => m.state == .run) supply).trans run
  refine ⟨_, congrArg Host.Outcome.next (if_pos recognised), ?_⟩
  rw [warmRestart, taken]
  generalize takeBoundary s = u at *
  exact returnStages_restarted (by decide) pins order running (fun _ => rfl) rfl

theorem exec_resetAssertion_unrecognised
    (h : s.supply.resetArmed = false ∨ s.elapsed < s.supply.resetHighAt + 1000000000 + 100 * 4096000000) :
    exec (.resetAssertion pins order) s = .next s := by
  refine congrArg Host.Outcome.next (if_neg ?_)
  rw [s.supply.recognises_eq]
  obtain unarmed | early := h
  · simp [unarmed]
  · simp [Nat.not_le.mpr early]

end Commands

/-- Settles O60: both warm restarts run the closing actions and the stages of the return on the part with its boundary taken. -/
theorem warmRestartClosesAndRestoresAtOneTick : Obligations.WarmRestartClosesAndRestoresAtOneTick := by
  unfold Obligations.WarmRestartClosesAndRestoresAtOneTick
  intro pins order p s u run taken
  refine ⟨fun other => ?_, exec_resetAssertion_unrecognised pins order, fun c cause armed high restart => ?_⟩
  · rw [exec_restart pins order p run, serveRestart, if_neg other]
    rfl
  have restarted : ∃ t, exec c s = .next t ∧ Restarted u cause pins order armed high
      (fun q => if c = .restart .a [0] pins order ∧ q = .a then .ok [] else .none) t := by
    subst taken
    obtain ⟨rfl, rfl, rfl, rfl⟩ | ⟨rfl, recognised, low, rfl, rfl, rfl⟩ := restart
    · obtain ⟨t, next, h⟩ := exec_restart_restarted pins order run
      exact ⟨t, next, by simpa only [true_and] using h⟩
    · obtain ⟨t, next, h⟩ := exec_resetAssertion_restarted pins order run recognised low
      exact ⟨t, next, by simpa only [reduceCtorEq, false_and, if_false] using h⟩
  obtain ⟨t, next, h⟩ := restarted
  obtain ⟨closed, reports, still, first, records⟩ := h.records
  have stays (held : t.duty.state = u.duty.state ∨ t.duty.state ≠ .vacant) : ¬ LapsesVacant u t :=
    fun lapsed => held.elim lapsed.1 fun kept => kept lapsed.2
  refine ⟨t, next, h.eq, h.port, h.settings, h.paused, h.alarms, h.latched, h.handover, h.duty,
    ⟨fun held => h.stays (stays held), fun moved vacant => h.vacates ⟨moved, vacant⟩⟩,
    ⟨fun idle => still idle ▸ records, ⟨closed, reports, records⟩, fun b one more burst provisional ranked =>
      ⟨closed, ?_, records⟩⟩, h.point⟩
  have told := first b burst provisional
  obtain ⟨instant, ranks⟩ := TripUnit.ranks_cons ranked
  have number : u.burstNumber = b.number := by rw [State.burstNumber, burst]
  rw [State.reported, instant, ranks, number] at told
  exact told

end Sys2Proof.Machine
end
